-- ==== Sys2Proof/Word.lean ====
section
/-! DEFINITION. The byte, the unit of every frame, reply and permit image (R163, 10.1). -/

namespace Sys2Proof

/-- One byte as it is sent on a port or held in a permit image, most significant bit first (R163). -/
abbrev Byte := BitVec 8

end Sys2Proof
end

