-- ==== Sys2Proof/Syntax.lean ====
section
/-! DEFINITION. The commands and events of the 7K42, one constructor of `Instr` per row of spec/opcode_table.json.

A command row carries the port it is sent on and its arguments as the unsigned fields of its frame (R166, R167), so that a code
outside an argument's list can be written and refused. A read row also carries its repeat flag (R167). A row that is an event of a
port's link carries the port and the bytes of the transaction. A row that is an event of the plant carries the channel, where it has one. -/

namespace Sys2Proof

/-- The three ports: firing (PF), gas cleaning (PG) and dispatch (PD) controller. -/
inductive Port where
  | pf | pg | pd
deriving DecidableEq, Repr

/-- The six emission channels, ids 0 to 5 in this order (4.1). -/
inductive Pollutant where
  | dust | hcl | so2 | nox | co | toc
deriving DecidableEq, Repr

/-- The eight stroke channels, ids 0 to 7 in this order (chapter 06, channel table). -/
inductive StrokeChannel where
  | ramA | ramB | grateA1 | grateA2 | grateA3 | grateB1 | grateB2 | grateB3
deriving DecidableEq, Repr

/-- One entry of a sample set as it stands in the frame (R166): channel id, raw concentration, status code. -/
structure SampleEntry where
  channel : BitVec 8
  raw     : BitVec 16
  status  : BitVec 8
deriving DecidableEq, Repr

/-- One reagent's arguments of SET_REAGENTS (R51, R167): availability code and base demand. -/
structure ReagentArgs where
  availability : BitVec 8
  base         : BitVec 16
deriving DecidableEq, Repr

/-- The order record as it stands in the frame of POST_ORDER (R166). -/
structure OrderArgs where
  tag      : BitVec 16
  dayFlag  : BitVec 8
  day      : BitVec 16
  hour     : BitVec 8
  minute   : BitVec 8
  power    : BitVec 16
  heat     : BitVec 16
  priority : BitVec 8
  ramp     : BitVec 8
deriving DecidableEq, Repr

/-- The eleven totals of RESTORE_METERS in argument order, each six bytes of packed decimal (R147). -/
structure MeterArgs where
  exported0     : BitVec 48
  exported1     : BitVec 48
  exported2     : BitVec 48
  exported3     : BitVec 48
  exportedGrand : BitVec 48
  heat0         : BitVec 48
  heat1         : BitVec 48
  heat2         : BitVec 48
  heat3         : BitVec 48
  heatGrand     : BitVec 48
  waste         : BitVec 48
deriving DecidableEq, Repr

/-- The read commands (marked R in R167) with their arguments: what a port's repeat arm holds (R177). -/
inductive ReadCmd where
  | clock
  | mode
  | accumulators
  | history (period : BitVec 24) (count : BitVec 8)
  | days (day : BitVec 16) (count : BitVec 8)
  | envelope
  | demand
  | channels
  | ledger
  | orders
  | meters
  | storeStatus
  | image (number : BitVec 8) (selector : BitVec 8)
  | notices (clear : BitVec 8)
deriving DecidableEq, Repr

/-- The commands and events of the part. -/
inductive Instr where
  /-- POWER_ON (R16): application of supply. -/
  | powerOn
  /-- PIN_RESET (R37): the fall of RSTN. -/
  | pinReset
  /-- PIN_RESET_RELEASE (R184): the rise of RSTN. -/
  | pinResetRelease
  /-- REFCK_EDGE (R1): one rising edge of REFCK. -/
  | refckEdge
  /-- SECOND_EVENT (R2): the edge of REFCK at which the scaler wraps, with the edges still missing before it. -/
  | secondEvent
  /-- SET_TIME (R8). -/
  | setTime (port : Port) (day : BitVec 16) (hour minute second : BitVec 8) (divisor : BitVec 24) (offset : BitVec 8)
  /-- START_CLOCK (R10). -/
  | startClock (port : Port)
  /-- STOP_CLOCK (R11). -/
  | stopClock (port : Port)
  /-- ADJUST_CLOCK (R12): the step is one byte in two's complement (R166). -/
  | adjustClock (port : Port) (shift : BitVec 8)
  /-- SET_LEAD (R14). -/
  | setLead (port : Port) (lead : BitVec 16)
  /-- READ_CLOCK (R6). -/
  | readClock (port : Port) (rep : Bool)
  /-- START (R25). -/
  | start (port : Port)
  /-- FEED (R26). -/
  | feed (port : Port)
  /-- STOP (R29). -/
  | stop (port : Port)
  /-- TRIP (R31). -/
  | trip (port : Port) (cause : BitVec 8)
  /-- CLEAR_TRIP (R34). -/
  | clearTrip (port : Port)
  /-- POST_TEMPERATURE (R20). -/
  | postTemperature (port : Port) (value : BitVec 16)
  /-- READ_MODE (R35). -/
  | readMode (port : Port) (rep : Bool)
  /-- POST_SAMPLES (R45): the entry count of the frame is the number of entries (R166). -/
  | postSamples (port : Port) (o2 : BitVec 16) (o2Status : BitVec 8) (entries : List SampleEntry)
  /-- SET_CLEANING (R50). -/
  | setCleaning (port : Port) (availability : BitVec 8)
  /-- SET_REAGENTS (R51). -/
  | setReagents (port : Port) (sorbent carbon reductant : ReagentArgs)
  /-- CLEAR_HISTORY (R72). -/
  | clearHistory (port : Port)
  /-- READ_ACCUMULATORS (R53). -/
  | readAccumulators (port : Port) (rep : Bool)
  /-- READ_HISTORY (R69). -/
  | readHistory (port : Port) (rep : Bool) (period : BitVec 24) (count : BitVec 8)
  /-- READ_DAYS (R71). -/
  | readDays (port : Port) (rep : Bool) (day : BitVec 16) (count : BitVec 8)
  /-- SET_BOILER_LIMIT (R76). -/
  | setBoilerLimit (port : Port) (limit : BitVec 16)
  /-- READ_ENVELOPE (R90). -/
  | readEnvelope (port : Port) (rep : Bool)
  /-- READ_DEMAND (R91). -/
  | readDemand (port : Port) (rep : Bool)
  /-- STROKE_UNIT_TICK (R94): one stroke unit of 10 ms from SYSCK. -/
  | strokeUnitTick
  /-- PERIOD_EXPIRY (R98). -/
  | periodExpiry (ch : StrokeChannel)
  /-- STROKE_LIMIT_EXPIRY (R101, R102). -/
  | strokeLimitExpiry (ch : StrokeChannel)
  /-- EOS_ARRIVAL (R99): a rising edge on the channel's end-of-stroke input. -/
  | eosArrival (ch : StrokeChannel)
  /-- SET_CHANNEL (R112). -/
  | setChannel (port : Port) (number enabled source : BitVec 8) (fixedPeriod : BitVec 16)
  /-- SET_LANES (R113). -/
  | setLanes (port : Port) (split massA massB : BitVec 16)
  /-- CLEAR_JAM (R104). -/
  | clearJam (port : Port) (number : BitVec 8)
  /-- READ_CHANNELS (R114). -/
  | readChannels (port : Port) (rep : Bool)
  /-- POST_STEAM (R116). -/
  | postSteam (port : Port) (flow : BitVec 16)
  /-- SET_AUX_DEMAND (R118). -/
  | setAuxDemand (port : Port) (demand : BitVec 16)
  /-- SET_CONSUMERS (R119). -/
  | setConsumers (port : Port) (turbine extraction : BitVec 8)
  /-- POST_ORDER (R120). -/
  | postOrder (port : Port) (order : OrderArgs)
  /-- CANCEL_ORDERS (R123). -/
  | cancelOrders (port : Port) (tag : BitVec 16)
  /-- READ_LEDGER (R136). -/
  | readLedger (port : Port) (rep : Bool)
  /-- READ_ORDERS (R137). -/
  | readOrders (port : Port) (rep : Bool)
  /-- POST_ENERGY (R142). -/
  | postEnergy (port : Port) (exported heat : BitVec 32)
  /-- RESTORE_METERS (R147). -/
  | restoreMeters (port : Port) (totals : MeterArgs)
  /-- FRESH_METERS (R148). -/
  | freshMeters (port : Port)
  /-- READ_METERS (R150). -/
  | readMeters (port : Port) (rep : Bool)
  /-- ENABLE_WRITE (R154). -/
  | enableWrite (port : Port)
  /-- PROGRAM_SECTION (R155). -/
  | programSection (port : Port) (number : BitVec 8) (image : List Byte)
  /-- PROGRAMMING_COMPLETION (R158). -/
  | programmingCompletion
  /-- LOCK_SECTION (R160). -/
  | lockSection (port : Port) (number : BitVec 8)
  /-- LOCK_COMPLETION (R160). -/
  | lockCompletion
  /-- STORE_STATUS (R162). -/
  | storeStatus (port : Port) (rep : Bool)
  /-- READ_SECTION (R162). -/
  | readSection (port : Port) (rep : Bool) (number selector : BitVec 8)
  /-- FETCH (R172). -/
  | fetch (port : Port)
  /-- READ_NOTICES (R181). -/
  | readNotices (port : Port) (rep : Bool) (clear : BitVec 8)
  /-- SET_QUIET (R182). -/
  | setQuiet (port : Port) (mask : BitVec 16)
  /-- PORT_RESET (R183). -/
  | portReset (port : Port)
  /-- BAD_FRAME (R170): a transaction of whole bytes; the row stands for bytes that make a frame failing a check. -/
  | badFrame (port : Port) (bytes : List Byte)
  /-- FRAME_SUSPEND (R173): a transaction of whole bytes; the row stands for bytes that leave the frame incomplete. -/
  | frameSuspend (port : Port) (bytes : List Byte)
  /-- FRAME_RESUME (R173): the fall of CS that begins the port's next transaction. -/
  | frameResume (port : Port)
  /-- FRAME_TIMEOUT (R174): the port's frame timer reaches 1 s. -/
  | frameTimeout (port : Port)
  /-- LINK_ERROR (R175): a transaction of these whole bytes whose CS rises within one more byte. -/
  | linkError (port : Port) (bytes : List Byte)
deriving DecidableEq, Repr

end Sys2Proof
end

