-- ==== Sys2Proof/WellFormed.lean ====
section
/-! DEFINITION. Which terms of `Instr` a frame can carry. Every argument but two is a field of fixed width and always fits;
the two lists of variable length must fit the frame: at most 1024 argument bytes (R163, R167, R169). -/

namespace Sys2Proof

/-- The longest argument a frame carries, in bytes (R163). -/
def maxLen : Nat := 1024

/-- A sample set's entry count is one byte and its LEN is 4 + 4 × count, so at most 255 entries fit (R166, R167). -/
def SampleEntry.listFits (entries : List SampleEntry) : Bool := 4 + 4 * entries.length ≤ maxLen

/-- PROGRAM_SECTION takes 1 to 1024 argument bytes, the first of them the section number (R167). -/
def imageFits (image : List Byte) : Bool := 1 + image.length ≤ maxLen

/-- The command can be sent in one frame. -/
def Instr.wellFormed : Instr → Bool
  | .postSamples _ _ _ entries => SampleEntry.listFits entries
  | .programSection _ _ image => imageFits image
  | _ => true

end Sys2Proof
end

