-- ==== Sys2Proof/Decode.lean ====
section
/-! DEFINITION. The bits of commands: byte order (R163), the CRC-16 (R164), the argument layouts of the command frames (R166), the
command codes (R167) and the checks a frame passes (R170); and the two decoders, of a table word and of a frame.

`commandFrame` writes the frame of a command and `checkFrame` reads one back, for the port it arrived on. -/

namespace Sys2Proof

/-! ## Byte order -/

/-- The `k` low bytes of `n`, most significant first (R163). -/
def be : (k : Nat) → (n : Nat) → List Byte
  | 0, _ => []
  | k + 1, n => BitVec.ofNat 8 (n / 256 ^ k) :: be k n

/-- The unsigned number that a list of bytes spells, most significant first (R163). -/
def ofBe (bytes : List Byte) : Nat := bytes.foldl (fun acc b => acc * 256 + b.toNat) 0

/-- The byte at an offset; 0 beyond the end. -/
def byteAt (bytes : List Byte) (off : Nat) : Byte := bytes.getD off 0

/-- The unsigned field of `width` bytes at an offset. -/
def field (bytes : List Byte) (off width : Nat) : Nat := ofBe ((bytes.drop off).take width)

/-! ## CRC-16 (R164) -/

/-- One shift of the CRC register with generator x^16 + x^12 + x^5 + 1. -/
def crcShift (crc : BitVec 16) : BitVec 16 :=
  if crc.msb then (crc <<< 1) ^^^ 0x1021#16 else crc <<< 1

/-- One byte, most significant bit first, into the CRC register. -/
def crcByte (crc : BitVec 16) (b : Byte) : BitVec 16 :=
  crcShift (crcShift (crcShift (crcShift (crcShift (crcShift (crcShift (crcShift (crc ^^^ (b.setWidth 16 <<< 8)))))))))

/-- The CRC-16 of R164: the register starts at all ones, with no final inversion. -/
def crc16 (bytes : List Byte) : BitVec 16 := bytes.foldl crcByte 0xFFFF#16

/-- Bytes closed with their CRC-16, as every frame and permit image is (R163, 10.1). -/
def withCrc (body : List Byte) : List Byte := body ++ be 2 (crc16 body).toNat

/-- The last two of `bytes` are the CRC-16 of those before them. -/
def crcOk (bytes : List Byte) : Bool :=
  bytes.drop (bytes.length - 2) == be 2 (crc16 (bytes.take (bytes.length - 2))).toNat

/-! ## Commands -/

/-- The port a command row is sent on; the rows that are no command have none. -/
def Instr.port? : Instr → Option Port
  | .setTime p .. => some p
  | .startClock p => some p
  | .stopClock p => some p
  | .adjustClock p _ => some p
  | .setLead p _ => some p
  | .readClock p _ => some p
  | .start p => some p
  | .feed p => some p
  | .stop p => some p
  | .trip p _ => some p
  | .clearTrip p => some p
  | .postTemperature p _ => some p
  | .readMode p _ => some p
  | .postSamples p .. => some p
  | .setCleaning p _ => some p
  | .setReagents p .. => some p
  | .clearHistory p => some p
  | .readAccumulators p _ => some p
  | .readHistory p .. => some p
  | .readDays p .. => some p
  | .setBoilerLimit p _ => some p
  | .readEnvelope p _ => some p
  | .readDemand p _ => some p
  | .setChannel p .. => some p
  | .setLanes p .. => some p
  | .clearJam p _ => some p
  | .readChannels p _ => some p
  | .postSteam p _ => some p
  | .setAuxDemand p _ => some p
  | .setConsumers p .. => some p
  | .postOrder p _ => some p
  | .cancelOrders p _ => some p
  | .readLedger p _ => some p
  | .readOrders p _ => some p
  | .postEnergy p .. => some p
  | .restoreMeters p _ => some p
  | .freshMeters p => some p
  | .readMeters p _ => some p
  | .enableWrite p => some p
  | .programSection p .. => some p
  | .lockSection p _ => some p
  | .storeStatus p _ => some p
  | .readSection p .. => some p
  | .fetch p => some p
  | .readNotices p .. => some p
  | .setQuiet p _ => some p
  | .portReset p => some p
  | .powerOn => none
  | .pinReset => none
  | .pinResetRelease => none
  | .refckEdge => none
  | .secondEvent => none
  | .strokeUnitTick => none
  | .periodExpiry _ => none
  | .strokeLimitExpiry _ => none
  | .eosArrival _ => none
  | .programmingCompletion => none
  | .lockCompletion => none
  | .badFrame .. => none
  | .frameSuspend .. => none
  | .frameResume _ => none
  | .frameTimeout _ => none
  | .linkError .. => none

/-- The command code with 0x80 added where the repeat flag is set (R167). -/
def repeatCode (rep : Bool) (code : Nat) : Nat := if rep then code + 0x80 else code

/-- OP of a command's frame (R167); 0 for a row that is no command. -/
def Instr.opcode : Instr → Nat
  | .setTime .. => 0x01
  | .startClock _ => 0x02
  | .stopClock _ => 0x03
  | .adjustClock .. => 0x04
  | .setLead .. => 0x05
  | .readClock _ rep => repeatCode rep 0x06
  | .start _ => 0x10
  | .feed _ => 0x11
  | .stop _ => 0x12
  | .trip .. => 0x13
  | .clearTrip _ => 0x14
  | .postTemperature .. => 0x15
  | .readMode _ rep => repeatCode rep 0x16
  | .postSamples .. => 0x20
  | .setCleaning .. => 0x21
  | .setReagents .. => 0x22
  | .clearHistory _ => 0x23
  | .readAccumulators _ rep => repeatCode rep 0x24
  | .readHistory _ rep _ _ => repeatCode rep 0x25
  | .readDays _ rep _ _ => repeatCode rep 0x26
  | .setBoilerLimit .. => 0x28
  | .readEnvelope _ rep => repeatCode rep 0x29
  | .readDemand _ rep => repeatCode rep 0x2A
  | .setChannel .. => 0x30
  | .setLanes .. => 0x31
  | .clearJam .. => 0x32
  | .readChannels _ rep => repeatCode rep 0x33
  | .postSteam .. => 0x38
  | .setAuxDemand .. => 0x39
  | .setConsumers .. => 0x3A
  | .postOrder .. => 0x3B
  | .cancelOrders .. => 0x3C
  | .readLedger _ rep => repeatCode rep 0x3D
  | .readOrders _ rep => repeatCode rep 0x3E
  | .postEnergy .. => 0x40
  | .restoreMeters .. => 0x41
  | .freshMeters _ => 0x42
  | .readMeters _ rep => repeatCode rep 0x43
  | .enableWrite _ => 0x48
  | .programSection .. => 0x49
  | .lockSection .. => 0x4A
  | .storeStatus _ rep => repeatCode rep 0x4B
  | .readSection _ rep _ _ => repeatCode rep 0x4C
  | .fetch _ => 0x50
  | .readNotices _ rep _ => repeatCode rep 0x51
  | .setQuiet .. => 0x52
  | .portReset _ => 0x53
  | _ => 0

/-- The four bytes of one sample entry (R166). -/
def SampleEntry.encode (e : SampleEntry) : List Byte :=
  [e.channel] ++ be 2 e.raw.toNat ++ [e.status]

/-- The arguments of a command's frame, each multi-byte field most significant byte first (R166, R167). -/
def Instr.argBytes : Instr → List Byte
  | .setTime _ day hour minute second divisor offset =>
      be 2 day.toNat ++ [hour, minute, second] ++ be 3 divisor.toNat ++ [offset]
  | .adjustClock _ shift => [shift]
  | .setLead _ lead => be 2 lead.toNat
  | .trip _ cause => [cause]
  | .postTemperature _ value => be 2 value.toNat
  | .postSamples _ o2 o2Status entries =>
      be 2 o2.toNat ++ [o2Status, BitVec.ofNat 8 entries.length] ++ entries.flatMap SampleEntry.encode
  | .setCleaning _ availability => [availability]
  | .setReagents _ a b c =>
      [a.availability] ++ be 2 a.base.toNat ++ [b.availability] ++ be 2 b.base.toNat ++ [c.availability] ++ be 2 c.base.toNat
  | .readHistory _ _ period count => be 3 period.toNat ++ [count]
  | .readDays _ _ day count => be 2 day.toNat ++ [count]
  | .setBoilerLimit _ limit => be 2 limit.toNat
  | .setChannel _ number enabled source fixedPeriod => [number, enabled, source] ++ be 2 fixedPeriod.toNat
  | .setLanes _ split massA massB => be 2 split.toNat ++ be 2 massA.toNat ++ be 2 massB.toNat
  | .clearJam _ number => [number]
  | .postSteam _ flow => be 2 flow.toNat
  | .setAuxDemand _ demand => be 2 demand.toNat
  | .setConsumers _ turbine extraction => [turbine, extraction]
  | .postOrder _ o =>
      be 2 o.tag.toNat ++ [o.dayFlag] ++ be 2 o.day.toNat ++ [o.hour, o.minute] ++ be 2 o.power.toNat ++ be 2 o.heat.toNat
        ++ [o.priority, o.ramp]
  | .cancelOrders _ tag => be 2 tag.toNat
  | .postEnergy _ exported heat => be 4 exported.toNat ++ be 4 heat.toNat
  | .restoreMeters _ t =>
      be 6 t.exported0.toNat ++ be 6 t.exported1.toNat ++ be 6 t.exported2.toNat ++ be 6 t.exported3.toNat
        ++ be 6 t.exportedGrand.toNat ++ be 6 t.heat0.toNat ++ be 6 t.heat1.toNat ++ be 6 t.heat2.toNat ++ be 6 t.heat3.toNat
        ++ be 6 t.heatGrand.toNat ++ be 6 t.waste.toNat
  | .programSection _ number image => number :: image
  | .lockSection _ number => [number]
  | .readSection _ _ number selector => [number, selector]
  | .readNotices _ _ clear => [clear]
  | .setQuiet _ mask => be 2 mask.toNat
  | _ => []

/-- The command frame of R163: OP, LEN, the arguments, and the CRC-16 over all three. -/
def commandFrame (i : Instr) : List Byte :=
  withCrc (BitVec.ofNat 8 i.opcode :: (be 2 i.argBytes.length ++ i.argBytes))

/-- The five bytes of a PORT_RESET frame (R183); they are the same on every port. -/
def portResetFrame : List Byte := commandFrame (.portReset .pf)

/-! ## Reading a frame -/

/-- The answer of the argument reader: an unassigned code, a length that does not fit, or the command. -/
inductive FrameCheck where
  | badCrc
  | unknownOp
  | badLen
  | command (i : Instr)
deriving DecidableEq, Repr

/-- A command whose LEN must be `n` (R167). -/
def fixedLen (args : List Byte) (n : Nat) (i : Instr) : FrameCheck :=
  if args.length = n then .command i else .badLen

/-- The entries of a sample set, four bytes each (R166). -/
def readEntries : (count : Nat) → List Byte → List SampleEntry
  | 0, _ => []
  | k + 1, args =>
      { channel := byteAt args 0, raw := BitVec.ofNat 16 (field args 1 2), status := byteAt args 3 }
        :: readEntries k (args.drop 4)

/-- The command that an assigned code and its argument bytes spell, without the repeat flag (R167). -/
def readPlain (p : Port) (op : Nat) (a : List Byte) : FrameCheck :=
  if op = 0x01 then
    fixedLen a 9 (.setTime p (BitVec.ofNat 16 (field a 0 2)) (byteAt a 2) (byteAt a 3) (byteAt a 4)
      (BitVec.ofNat 24 (field a 5 3)) (byteAt a 8))
  else if op = 0x02 then fixedLen a 0 (.startClock p)
  else if op = 0x03 then fixedLen a 0 (.stopClock p)
  else if op = 0x04 then fixedLen a 1 (.adjustClock p (byteAt a 0))
  else if op = 0x05 then fixedLen a 2 (.setLead p (BitVec.ofNat 16 (field a 0 2)))
  else if op = 0x10 then fixedLen a 0 (.start p)
  else if op = 0x11 then fixedLen a 0 (.feed p)
  else if op = 0x12 then fixedLen a 0 (.stop p)
  else if op = 0x13 then fixedLen a 1 (.trip p (byteAt a 0))
  else if op = 0x14 then fixedLen a 0 (.clearTrip p)
  else if op = 0x15 then fixedLen a 2 (.postTemperature p (BitVec.ofNat 16 (field a 0 2)))
  else if op = 0x20 then
    if 4 ≤ a.length ∧ a.length = 4 + 4 * (byteAt a 3).toNat then
      .command (.postSamples p (BitVec.ofNat 16 (field a 0 2)) (byteAt a 2) (readEntries (byteAt a 3).toNat (a.drop 4)))
    else .badLen
  else if op = 0x21 then fixedLen a 1 (.setCleaning p (byteAt a 0))
  else if op = 0x22 then
    fixedLen a 9 (.setReagents p ⟨byteAt a 0, BitVec.ofNat 16 (field a 1 2)⟩ ⟨byteAt a 3, BitVec.ofNat 16 (field a 4 2)⟩
      ⟨byteAt a 6, BitVec.ofNat 16 (field a 7 2)⟩)
  else if op = 0x23 then fixedLen a 0 (.clearHistory p)
  else if op = 0x28 then fixedLen a 2 (.setBoilerLimit p (BitVec.ofNat 16 (field a 0 2)))
  else if op = 0x30 then
    fixedLen a 5 (.setChannel p (byteAt a 0) (byteAt a 1) (byteAt a 2) (BitVec.ofNat 16 (field a 3 2)))
  else if op = 0x31 then
    fixedLen a 6 (.setLanes p (BitVec.ofNat 16 (field a 0 2)) (BitVec.ofNat 16 (field a 2 2)) (BitVec.ofNat 16 (field a 4 2)))
  else if op = 0x32 then fixedLen a 1 (.clearJam p (byteAt a 0))
  else if op = 0x38 then fixedLen a 2 (.postSteam p (BitVec.ofNat 16 (field a 0 2)))
  else if op = 0x39 then fixedLen a 2 (.setAuxDemand p (BitVec.ofNat 16 (field a 0 2)))
  else if op = 0x3A then fixedLen a 2 (.setConsumers p (byteAt a 0) (byteAt a 1))
  else if op = 0x3B then
    fixedLen a 13 (.postOrder p
      { tag := BitVec.ofNat 16 (field a 0 2), dayFlag := byteAt a 2, day := BitVec.ofNat 16 (field a 3 2), hour := byteAt a 5,
        minute := byteAt a 6, power := BitVec.ofNat 16 (field a 7 2), heat := BitVec.ofNat 16 (field a 9 2),
        priority := byteAt a 11, ramp := byteAt a 12 })
  else if op = 0x3C then fixedLen a 2 (.cancelOrders p (BitVec.ofNat 16 (field a 0 2)))
  else if op = 0x40 then
    fixedLen a 8 (.postEnergy p (BitVec.ofNat 32 (field a 0 4)) (BitVec.ofNat 32 (field a 4 4)))
  else if op = 0x41 then
    fixedLen a 66 (.restoreMeters p
      { exported0 := BitVec.ofNat 48 (field a 0 6), exported1 := BitVec.ofNat 48 (field a 6 6),
        exported2 := BitVec.ofNat 48 (field a 12 6), exported3 := BitVec.ofNat 48 (field a 18 6),
        exportedGrand := BitVec.ofNat 48 (field a 24 6), heat0 := BitVec.ofNat 48 (field a 30 6),
        heat1 := BitVec.ofNat 48 (field a 36 6), heat2 := BitVec.ofNat 48 (field a 42 6),
        heat3 := BitVec.ofNat 48 (field a 48 6), heatGrand := BitVec.ofNat 48 (field a 54 6),
        waste := BitVec.ofNat 48 (field a 60 6) })
  else if op = 0x42 then fixedLen a 0 (.freshMeters p)
  else if op = 0x48 then fixedLen a 0 (.enableWrite p)
  else if op = 0x49 then
    if 1 ≤ a.length ∧ a.length ≤ maxLen then .command (.programSection p (byteAt a 0) (a.drop 1)) else .badLen
  else if op = 0x4A then fixedLen a 1 (.lockSection p (byteAt a 0))
  else if op = 0x50 then fixedLen a 0 (.fetch p)
  else if op = 0x52 then fixedLen a 2 (.setQuiet p (BitVec.ofNat 16 (field a 0 2)))
  else if op = 0x53 then fixedLen a 0 (.portReset p)
  else .unknownOp

/-- The read command that a read code and its argument bytes spell, with its repeat flag (R167). -/
def readRead (p : Port) (rep : Bool) (op : Nat) (a : List Byte) : FrameCheck :=
  if op = 0x06 then fixedLen a 0 (.readClock p rep)
  else if op = 0x16 then fixedLen a 0 (.readMode p rep)
  else if op = 0x24 then fixedLen a 0 (.readAccumulators p rep)
  else if op = 0x25 then fixedLen a 4 (.readHistory p rep (BitVec.ofNat 24 (field a 0 3)) (byteAt a 3))
  else if op = 0x26 then fixedLen a 3 (.readDays p rep (BitVec.ofNat 16 (field a 0 2)) (byteAt a 2))
  else if op = 0x29 then fixedLen a 0 (.readEnvelope p rep)
  else if op = 0x2A then fixedLen a 0 (.readDemand p rep)
  else if op = 0x33 then fixedLen a 0 (.readChannels p rep)
  else if op = 0x3D then fixedLen a 0 (.readLedger p rep)
  else if op = 0x3E then fixedLen a 0 (.readOrders p rep)
  else if op = 0x43 then fixedLen a 0 (.readMeters p rep)
  else if op = 0x4B then fixedLen a 0 (.storeStatus p rep)
  else if op = 0x4C then fixedLen a 2 (.readSection p rep (byteAt a 0) (byteAt a 1))
  else if op = 0x51 then fixedLen a 1 (.readNotices p rep (byteAt a 0))
  else .unknownOp

/-- Checks 2 and 3 of R170 on OP and the arguments: a read code may carry the repeat flag, any other code with 0x80 added is
unknown. -/
def readCommand (p : Port) (op : Nat) (args : List Byte) : FrameCheck :=
  if 0x80 ≤ op then readRead p true (op - 0x80) args
  else
    match readRead p false op args with
    | .unknownOp => readPlain p op args
    | answer => answer

/-- The checks of R170 on a complete frame: CRC, then OP, then LEN. -/
def checkFrame (p : Port) (frame : List Byte) : FrameCheck :=
  if crcOk frame then
    readCommand p (byteAt frame 0).toNat ((frame.drop 3).take (frame.length - 5))
  else .badCrc

/-- The table gives no row of spec/opcode_table.json any bits (every row is a step of the part, not a word), so no word spells a
command. -/
def decodeTableWord (_nbits _w : Nat) : Option Instr := none

end Sys2Proof
end

