-- ==== Sys2Proof/Config.lean ====
section
/-! DEFINITION. The free values of the model: what the manual leaves open and the machine goes on with. Each is an opaque constant,
so nothing can be proved of its value; `State.freeIndex` numbers the draws. -/

namespace Sys2Proof

/-- The order in which the blocks take one second event (R3, R22, R49, R83, R86, R129): drawn at each second event. DESIGN CHOICE, safe: log entry 1. -/
opaque Config.secondEventOrder : Nat → Nat

/-- The order in which stroke expiries that fall due at one stroke unit are taken (R102): drawn where two or more are due. DESIGN CHOICE, safe:
log entry 2. -/
opaque Config.expiryOrder : Nat → List StrokeChannel

/-- The bytes found in a section whose programming cycle was cut off (R161: whatever part of the new image was written):
the draw's number and the byte offset give the byte. DESIGN CHOICE, safe: log entry 3. -/
opaque Config.tornByte : Nat → Nat → Byte

/-- Whether STORE_STATUS reports the stored LIMITS serial of a CORRUPT section as present (R162 does not say).
DESIGN CHOICE, safe: log entry 4. -/
opaque Config.corruptSerialPresent : Bool

end Sys2Proof
end

