-- ==== Sys2Proof/Machine/State.lean ====
section
/-! DEFINITION. The state of the 7K42, block by block, and its value after power-on of a part whose permit store is blank.
Every item is a table row of the chapter named at its structure. All quantities the manual computes with are unsigned integers (Nat). -/

namespace Sys2Proof.Machine

/-! ## Reasons to stop -/

/-- The machine never stops with a fault: the manual answers every command with a status and describes no stopped state. -/
inductive Fault where
deriving DecidableEq, Repr

/-- The machine refuses no command of the table. -/
inductive Refusal where
  /-- Raised by an arm of `exec` whose command has no meaning yet; no arm raises it. Safe: the machine stops. -/
  | notModelled (mnemonic : String)
deriving DecidableEq, Repr

/-! ## Fixed families of like things -/

/-- One value for each port. -/
structure PerPort (α : Type) where
  pf : α
  pg : α
  pd : α
deriving DecidableEq, Repr

/-- One value for each emission channel. -/
structure PerPollutant (α : Type) where
  dust : α
  hcl  : α
  so2  : α
  nox  : α
  co   : α
  toc  : α
deriving DecidableEq, Repr

/-- One value for each stroke channel. -/
structure PerStroke (α : Type) where
  ramA    : α
  ramB    : α
  grateA1 : α
  grateA2 : α
  grateA3 : α
  grateB1 : α
  grateB2 : α
  grateB3 : α
deriving DecidableEq, Repr

/-- The three reagents (4.5). -/
inductive Reagent where
  | sorbent | carbon | reductant
deriving DecidableEq, Repr

/-- One value for each reagent. -/
structure PerReagent (α : Type) where
  sorbent   : α
  carbon    : α
  reductant : α
deriving DecidableEq, Repr

/-- One value for each tariff band, 0 to 3 (9.3). -/
structure PerBand (α : Type) where
  band0 : α
  band1 : α
  band2 : α
  band3 : α
deriving DecidableEq, Repr

/-- AVAILABLE or UNAVAILABLE (R50, R51, R119). -/
inductive Availability where
  | unavailable | available
deriving DecidableEq, Repr

/-! ## Permit section values (10.1) -/

/-- A channel's role in the cap (R78). -/
inductive Role where
  | none | firing | dosing
deriving DecidableEq, Repr

/-- The ten-byte channel entry of the LIMITS image. -/
structure ChannelLimits where
  /-- L, half-hour limit -/
  limit    : Nat
  /-- D, day limit -/
  dayLimit : Nat
  role     : Role
  reagent  : Option Reagent
  /-- T, dosing target -/
  target   : Nat
  /-- G, dosing gain -/
  gain     : Nat
deriving DecidableEq, Repr

/-- The values of a LIMITS image, in image order. -/
structure Limits where
  o2ref       : Nat
  o2clamp     : Nat
  /-- E, expected sample sets -/
  expected    : Nat
  /-- V, least valid count for a half-hour average -/
  minValid    : Nat
  /-- M, least number of fired half-hours for a day average -/
  minHalves   : Nat
  /-- Nc, least valid count before a channel bounds the cap -/
  capValid    : Nat
  /-- W -/
  knee        : Nat
  /-- F -/
  floor       : Nat
  /-- R -/
  recovery    : Nat
  sampleStale : Nat
  tmin        : Nat
  dwell       : Nat
  tmax        : Nat
  tcold       : Nat
  tempStale   : Nat
  serial      : Nat
  channels    : PerPollutant ChannelLimits
deriving DecidableEq, Repr

/-- A nominal period and a stroke limit, in stroke units. -/
structure StrokeTiming where
  pnom : Nat
  ls   : Nat
deriving DecidableEq, Repr

/-- The values of a PLANT image, in image order. -/
structure Plant where
  snom       : Nat
  auxMax     : Nat
  heatMax    : Nat
  dumpCap    : Nat
  grantRamp  : Nat
  ram        : StrokeTiming
  zone1      : StrokeTiming
  zone2      : StrokeTiming
  zone3      : StrokeTiming
  grateMin   : Nat
  steamStale : Nat
deriving DecidableEq, Repr

/-- The values of a TARIFF image: the two band tables (48 entries each) and the sixteen holiday entries, of which the first
`holidayCount` form the holiday list. -/
structure Tariff where
  working      : List Nat
  holiday      : List Nat
  holidayCount : Nat
  holidayDays  : List Nat
deriving DecidableEq, Repr

/-! ## Plant clock (chapter 01) -/

/-- A clock time. -/
structure ClockTime where
  day    : Nat
  hour   : Nat
  minute : Nat
  second : Nat
deriving DecidableEq, Repr

/-- STOPPED or RUNNING. -/
inductive RunState where
  | stopped | running
deriving DecidableEq, Repr

/-- The latched copy (R5): the fields of the clock but the scaler, with the derived quantities of R4. -/
structure LatchedCopy where
  run       : RunState
  time      : ClockTime
  divisor   : Nat
  offset    : Nat
  weekday   : Nat
  period    : Nat
  minuteKey : Nat
  remaining : Nat
deriving DecidableEq, Repr

/-- The plant clock. -/
structure Clock where
  run     : RunState
  scaler  : Nat
  divisor : Nat
  time    : ClockTime
  offset  : Nat
  latched : LatchedCopy
  leads   : PerPort Nat
deriving DecidableEq, Repr

/-! ## Mode controller (chapter 02) -/

/-- The plant mode. -/
inductive Mode where
  | cold | warming | firing | hold | burnout | tripped
deriving DecidableEq, Repr

/-- The hold-cause set, a flag for each cause (R35). -/
structure HoldCauses where
  lowTemp   : Bool
  tempStale : Bool
  cleaning  : Bool
  noFeed    : Bool
deriving DecidableEq, Repr

/-- What caused a trip: a port with its code, or one of the internal causes (R33). Source and first cause are both read from it. -/
inductive TripCause where
  | byPort (p : Port) (code : Nat)
  | overTemp
  | grateJam
  | reset
deriving DecidableEq, Repr

/-- The trip record (R33). -/
structure TripRecord where
  cause       : TripCause
  day         : Nat
  secondOfDay : Nat
  count       : Nat
deriving DecidableEq, Repr

/-- The mode controller; `rams` and `cleaning` are the facts it last took from the other blocks (R24, R35). -/
structure ModeCtl where
  mode      : Mode
  causes    : HoldCauses
  feedArmed : Bool
  burner    : Bool
  temp      : Option Nat
  tempAge   : Nat
  timer     : Nat
  trip      : Option TripRecord
  rams      : Nat
  cleaning  : Availability
deriving DecidableEq, Repr

/-! ## Emission accounting unit (chapters 03, 04) -/

/-- A channel's current-period accumulator (4.3). -/
structure Accumulator where
  sum       : Nat
  valid     : Nat
  cal       : Nat
  fault     : Nat
  maint     : Nat
  highO2    : Nat
  maximum   : Nat
  saturated : Bool
deriving DecidableEq, Repr

/-- A reagent's availability and base demand (R51). -/
structure ReagentSetting where
  availability : Availability
  base         : Nat
deriving DecidableEq, Repr

/-- The open period with the LIMITS copy it took at its opening (R54, R57); its serial is that copy's. -/
structure OpenPeriod where
  number  : Nat
  fired   : Bool
  isPart  : Bool
  copy    : Option Limits
deriving DecidableEq, Repr

/-- A channel's entry of a half-hour record (R61). -/
structure HalfHourChannel where
  average   : Option Nat
  valid     : Nat
  cal       : Nat
  fault     : Nat
  maint     : Nat
  maximum   : Nat
  saturated : Bool
  highO2    : Bool
  exceeded  : Bool
deriving DecidableEq, Repr

/-- A half-hour record (R61). -/
structure HalfHourRecord where
  period       : Nat
  isPart       : Bool
  fired        : Bool
  closedAtStop : Bool
  serial       : Option Nat
  expected     : Nat
  channels     : PerPollutant HalfHourChannel
deriving DecidableEq, Repr

/-- A channel's entry of a day record (R67). -/
structure DayChannel where
  halves        : Nat
  average       : Option Nat
  exceededCount : Nat
  exceeded      : Bool
deriving DecidableEq, Repr

/-- A day record (R67). -/
structure DayRecord where
  day         : Nat
  notOperated : Bool
  held        : Nat
  fired       : Nat
  serial      : Option Nat
  channels    : PerPollutant DayChannel
deriving DecidableEq, Repr

/-- The emission accounting unit; `halfHours` and `days` are in closing order, oldest first. -/
structure Emission where
  accounts      : PerPollutant Accumulator
  marker        : Option ClockTime
  sampleAge     : Nat
  staleInFiring : Bool
  cleaning      : Availability
  reagents      : PerReagent ReagentSetting
  period        : Option OpenPeriod
  halfHours     : List HalfHourRecord
  days          : List DayRecord
deriving DecidableEq, Repr

/-! ## Firing envelope unit (chapter 05) -/

/-- A channel's figures of the last recomputation (R77 to R79). -/
structure CapFigure where
  ratio     : Nat
  cap       : Nat
  takesPart : Bool
deriving DecidableEq, Repr

/-- A reagent's demand, with qmax and the driving channel where there is one (R89). -/
structure ReagentDemand where
  demand  : Nat
  driving : Option (Nat × Pollutant)
deriving DecidableEq, Repr

/-- The firing envelope unit. -/
structure Envelope where
  request      : Nat
  boilerLimit  : Nat
  computedCap  : Nat
  capping      : Option Pollutant
  effectiveCap : Nat
  target       : Nat
  grant        : Nat
  limiting     : Bool
  figures      : PerPollutant CapFigure
  demand       : PerReagent ReagentDemand
deriving DecidableEq, Repr

/-! ## Stroke timer array (chapter 06) -/

/-- The state of a stroke channel (7.1). -/
inductive ChannelState where
  | off | wait | dwell | stroke | jammed
deriving DecidableEq, Repr

/-- AUTO or FIXED. -/
inductive Source where
  | auto | fixed
deriving DecidableEq, Repr

/-- A stroke channel's record. -/
structure StrokeRecord where
  state       : ChannelState
  enabled     : Bool
  source      : Source
  fixedPeriod : Nat
  period      : Nat
  limit       : Nat
  counter     : Nat
  preload     : Option Nat
  capture     : Nat
  jamCount    : Nat
  strokeCount : Nat
deriving DecidableEq, Repr

/-- The stroke timer array. -/
structure StrokeArray where
  channels : PerStroke StrokeRecord
  grant    : Nat
  split    : Nat
  laneA    : Nat
  laneB    : Nat
  massA    : Nat
  massB    : Nat
  rams     : Nat
deriving DecidableEq, Repr

/-! ## Steam ledger (chapter 07) -/

/-- POWER_FIRST or HEAT_FIRST. -/
inductive Priority where
  | powerFirst | heatFirst
deriving DecidableEq, Repr

/-- A dispatch order with its values as clamped at the post; `day` is absent for a daily order (8.2). -/
structure Order where
  tag      : Nat
  day      : Option Nat
  hour     : Nat
  minute   : Nat
  power    : Nat
  heat     : Nat
  priority : Priority
  ramp     : Nat
deriving DecidableEq, Repr

/-- A queued order under its key (R121). -/
structure QueuedOrder where
  key   : Nat
  order : Order
deriving DecidableEq, Repr

/-- The four allocations (R130). -/
structure Allocation where
  aux   : Nat
  power : Nat
  heat  : Nat
  dump  : Nat
deriving DecidableEq, Repr

/-- The steam ledger; the queue is in ascending key. -/
structure Ledger where
  steam      : Nat
  present    : Bool
  age        : Nat
  stale      : Bool
  aux        : Nat
  turbine    : Availability
  extraction : Availability
  queue      : List QueuedOrder
  active     : Option Order
  powerTarget   : Nat
  heatTarget    : Nat
  powerSetpoint : Nat
  heatSetpoint  : Nat
  alloc      : Allocation
  shortfall  : Nat
  dumpOver   : Bool
  request    : Nat
deriving DecidableEq, Repr

/-! ## Fiscal meter unit (chapter 08) -/

/-- UNSET or RUNNING. -/
inductive MeterState where
  | unset | running
deriving DecidableEq, Repr

/-- A total's decimal digits, least significant first; a total has twelve (9.1). -/
abbrev Digits := List Nat

/-- Where a meter's last increment was taken (R142, R145). -/
structure LastAddition where
  band   : Nat
  period : Nat
deriving DecidableEq, Repr

/-- The EXPORT or the HEAT meter. -/
structure EnergyMeter where
  bands   : PerBand Digits
  grand   : Digits
  residue : Nat
  wrapped : Bool
  waiting : PerBand Nat
  last    : Option LastAddition
deriving DecidableEq, Repr

/-- The WASTE meter. -/
structure WasteMeter where
  grand   : Digits
  wrapped : Bool
  waiting : Nat
  last    : Option LastAddition
deriving DecidableEq, Repr

/-- The fiscal meter unit; the `waiting` items are the pending accumulators (R146). -/
structure Meters where
  state      : MeterState
  exported   : EnergyMeter
  heat       : EnergyMeter
  waste      : WasteMeter
  pendingSat : Bool
deriving DecidableEq, Repr

/-! ## Permit store (chapter 09) -/

/-- The three sections, numbered LIMITS 0, PLANT 1, TARIFF 2 (10.1). -/
inductive PermitSection where
  | limits | plant | tariff
deriving DecidableEq, Repr

/-- A section's state (R153). -/
inductive SectionState where
  | blank | valid | corrupt | locked
deriving DecidableEq, Repr

/-- A section in non-volatile storage: its state, its one-time lock bit and its image with its CRC. -/
structure StoredSection where
  state   : SectionState
  lockBit : Bool
  image   : List Byte
deriving DecidableEq, Repr

/-- The store's activity; a programming cycle holds the image it is writing (R155, R160). -/
inductive StoreActivity where
  | idle
  | programming (sec : PermitSection) (p : Port) (image : List Byte)
  | locking (sec : PermitSection) (p : Port)
deriving DecidableEq, Repr

/-- The permit store. A copy that is absent is one that is not valid (working) or not waiting (pending, held). -/
structure PermitStore where
  limits         : StoredSection
  plant          : StoredSection
  tariff         : StoredSection
  workingLimits  : Option Limits
  workingPlant   : Option Plant
  workingTariff  : Option Tariff
  pendingLimits  : Option Limits
  pendingTariff  : Option Tariff
  heldPlant      : Option Plant
  latches        : PerPort Bool
  activity       : StoreActivity
deriving DecidableEq, Repr

/-! ## Port controllers (chapter 10) -/

/-- The reply statuses (R165). -/
inductive Status where
  | ok | clamped | replaced | noReply | badCrc | badLen | unknownOp | frameTimeout | linkError
  | notOwner | range | state | noTime | duplicate | full | tooSoon | boundary | periodUsed
  | locked | busy | noLatch | badImage | gone | badDigit | mismatch
deriving DecidableEq, Repr

/-- A reply: its status and its data bytes; `Reply.frame` closes them into the reply frame (R163). -/
structure Reply where
  status : Status
  data   : List Byte
deriving DecidableEq, Repr

/-- The sixteen notice causes, codes 0 to 15 in this order (R179). -/
inductive Notice where
  | resetSeen | mode | lead | periodClosed | dayClosed | exceedance | capLimiting | jam
  | shortfall | dumpOver | steamStale | sampleStale | orderActive | orderDropped | permitDone | meterWrap
deriving DecidableEq, Repr

/-- ACTIVE or QUIET (R182). -/
inductive LinkState where
  | active | quiet
deriving DecidableEq, Repr

/-- The frame timer (R173, R174). -/
inductive FrameTimer where
  | stopped | running
deriving DecidableEq, Repr

/-- A port controller. `frame` holds the bytes of the frame in progress, empty for none. The notice set and the wake mask are
sixteen flags, cause code n at bit n (R179). `csLow` holds while a transaction that FRAME_RESUME began is open, and `ignoring`
while that transaction is ignored to its end after a reset (R184). -/
structure PortCtl where
  frame     : List Byte
  suspended : Bool
  timer     : FrameTimer
  slot      : Option Reply
  output    : Option Reply
  arm       : Option ReadCmd
  notices   : BitVec 16
  link      : LinkState
  wakeMask  : BitVec 16
  csLow     : Bool
  ignoring  : Bool
deriving DecidableEq, Repr

/-! ## The machine -/

/-- The state of the 7K42, the level of RSTN, and two fields of the model's own: the number of the next free value and the queue of
waiting commands (DESIGN CHOICE: log entry 23). -/
structure State where
  clock     : Clock
  mode      : ModeCtl
  eau       : Emission
  feu       : Envelope
  sta       : StrokeArray
  slg       : Ledger
  fmu       : Meters
  pst       : PermitStore
  ports     : PerPort PortCtl
  rstnLow   : Bool
  freeIndex : Nat
  pending   : List Instr
deriving DecidableEq, Repr

/-! ## The power-on values -/

/-- R16. -/
def LatchedCopy.reset : LatchedCopy :=
  { run := .stopped, time := ⟨0, 0, 0, 0⟩, divisor := 1, offset := 0, weekday := 0, period := 0, minuteKey := 0,
    remaining := 1800 }

/-- R16. -/
def Clock.reset : Clock :=
  { run := .stopped, scaler := 0, divisor := 1, time := ⟨0, 0, 0, 0⟩, offset := 0, latched := .reset, leads := ⟨0, 0, 0⟩ }

/-- The empty hold-cause set. -/
def HoldCauses.none : HoldCauses := ⟨false, false, false, false⟩

/-- R36. -/
def ModeCtl.reset : ModeCtl :=
  { mode := .cold, causes := .none, feedArmed := false, burner := false, temp := .none, tempAge := 0, timer := 0, trip := .none,
    rams := 2, cleaning := .unavailable }

/-- A cleared accumulator (R46). -/
def Accumulator.zero : Accumulator := ⟨0, 0, 0, 0, 0, 0, 0, false⟩

/-- All six accumulators cleared (R46). -/
def accountsZero : PerPollutant Accumulator := ⟨.zero, .zero, .zero, .zero, .zero, .zero⟩

/-- R39, R46, R47, R48, R52, R73. -/
def Emission.reset : Emission :=
  { accounts := accountsZero, marker := none, sampleAge := 0, staleInFiring := false, cleaning := .unavailable,
    reagents := ⟨⟨.available, 0⟩, ⟨.available, 0⟩, ⟨.available, 0⟩⟩, period := none, halfHours := [], days := [] }

/-- A channel not taking part: no ratio, a channel cap of 1000 (R79). -/
def CapFigure.idle : CapFigure := ⟨0, 1000, false⟩

/-- R92: the values of power-on, where no channel takes part and every base demand is 0. -/
def Envelope.reset : Envelope :=
  { request := 0, boilerLimit := 1000, computedCap := 1000, capping := none, effectiveCap := 1000, target := 0, grant := 0,
    limiting := false, figures := ⟨.idle, .idle, .idle, .idle, .idle, .idle⟩,
    demand := ⟨⟨0, none⟩, ⟨0, none⟩, ⟨0, none⟩⟩ }

/-- R115. -/
def StrokeRecord.reset : StrokeRecord :=
  { state := .off, enabled := true, source := .auto, fixedPeriod := 65535, period := 65535, limit := 3000, counter := 0,
    preload := none, capture := 0, jamCount := 0, strokeCount := 0 }

/-- R115. -/
def StrokeArray.reset : StrokeArray :=
  { channels := ⟨.reset, .reset, .reset, .reset, .reset, .reset, .reset, .reset⟩, grant := 0, split := 500, laneA := 0,
    laneB := 0, massA := 0, massB := 0, rams := 2 }

/-- R138. -/
def Ledger.reset : Ledger :=
  { steam := 0, present := false, age := 0, stale := true, aux := 0, turbine := .unavailable, extraction := .unavailable,
    queue := [], active := none, powerTarget := 0, heatTarget := 0, powerSetpoint := 0, heatSetpoint := 0,
    alloc := ⟨0, 0, 0, 0⟩, shortfall := 0, dumpOver := false, request := 0 }

/-- Twelve zeros. -/
def zeroTotal : Digits := [0, 0, 0, 0, 0, 0, 0, 0, 0, 0, 0, 0]

/-- R151. -/
def EnergyMeter.reset : EnergyMeter :=
  { bands := ⟨zeroTotal, zeroTotal, zeroTotal, zeroTotal⟩, grand := zeroTotal, residue := 0, wrapped := false,
    waiting := ⟨0, 0, 0, 0⟩, last := none }

/-- R151. -/
def WasteMeter.reset : WasteMeter := { grand := zeroTotal, wrapped := false, waiting := 0, last := none }

/-- R151. -/
def Meters.reset : Meters :=
  { state := .unset, exported := .reset, heat := .reset, waste := .reset, pendingSat := false }

/-- A section never programmed (R153). -/
def StoredSection.blank : StoredSection := { state := .blank, lockBit := false, image := [] }

/-- The store of a part fresh from the factory, after its load (R161, "Commissioning a new store"). -/
def PermitStore.reset : PermitStore :=
  { limits := .blank, plant := .blank, tariff := .blank, workingLimits := none, workingPlant := none, workingTariff := none,
    pendingLimits := none, pendingTariff := none, heldPlant := none, latches := ⟨false, false, false⟩, activity := .idle }

/-- R184: the notice set holds RESET_SEEN (code 0) alone. -/
def PortCtl.reset : PortCtl :=
  { frame := [], suspended := false, timer := .stopped, slot := none, output := none, arm := none, notices := 1#16,
    link := .active, wakeMask := 0#16, csLow := false, ignoring := false }

/-- The machine after power-on with a blank store, RSTN high, every CS high and no command waiting (DESIGN CHOICE, unsafe: log entry
22). -/
def State.reset : State :=
  { clock := .reset, mode := .reset, eau := .reset, feu := .reset, sta := .reset, slg := .reset, fmu := .reset, pst := .reset,
    ports := ⟨.reset, .reset, .reset⟩, rstnLow := false, freeIndex := 0, pending := [] }

end Sys2Proof.Machine
end

