-- ==== Sys2Proof/Machine/Ops.lean ====
section
/-! DEFINITION. The named operations over the state: reading and replacing one member of a family, replacing one block, saturating
counts, the permit working copies, and drawing a free value. The machine has no addressed memory (INVENTORY.md, "Memory and ordering"). -/

namespace Sys2Proof

/-- The ports in the order PF, PG, PD (R6), their codes (R165). -/
def Port.id : Port → Nat
  | .pf => 0
  | .pg => 1
  | .pd => 2

/-- The value at one index. -/
def Machine.PerPort.get {α : Type} (x : Machine.PerPort α) : Port → α
  | .pf => x.pf
  | .pg => x.pg
  | .pd => x.pd

/-- The family with one value replaced. -/
def Machine.PerPort.set {α : Type} (x : Machine.PerPort α) (i : Port) (v : α) : Machine.PerPort α :=
  match i with
  | .pf => { x with pf := v }
  | .pg => { x with pg := v }
  | .pd => { x with pd := v }

/-- Every value replaced by a function of its index and itself. -/
def Machine.PerPort.map {α β : Type} (f : Port → α → β) (x : Machine.PerPort α) : Machine.PerPort β :=
  { pf := f .pf x.pf, pg := f .pg x.pg, pd := f .pd x.pd }

/-- The indexes in id order. -/
def Port.all : List Port := [.pf, .pg, .pd]

/-- The values in id order. -/
def Machine.PerPort.toList {α : Type} (x : Machine.PerPort α) : List α := [x.pf, x.pg, x.pd]

/-- The value at one index. -/
def Machine.PerPollutant.get {α : Type} (x : Machine.PerPollutant α) : Pollutant → α
  | .dust => x.dust
  | .hcl => x.hcl
  | .so2 => x.so2
  | .nox => x.nox
  | .co => x.co
  | .toc => x.toc

/-- The family with one value replaced. -/
def Machine.PerPollutant.set {α : Type} (x : Machine.PerPollutant α) (i : Pollutant) (v : α) : Machine.PerPollutant α :=
  match i with
  | .dust => { x with dust := v }
  | .hcl => { x with hcl := v }
  | .so2 => { x with so2 := v }
  | .nox => { x with nox := v }
  | .co => { x with co := v }
  | .toc => { x with toc := v }

/-- Every value replaced by a function of its index and itself. -/
def Machine.PerPollutant.map {α β : Type} (f : Pollutant → α → β) (x : Machine.PerPollutant α) : Machine.PerPollutant β :=
  { dust := f .dust x.dust, hcl := f .hcl x.hcl, so2 := f .so2 x.so2, nox := f .nox x.nox, co := f .co x.co, toc := f .toc x.toc }

/-- The indexes in id order. -/
def Pollutant.all : List Pollutant := [.dust, .hcl, .so2, .nox, .co, .toc]

/-- The values in id order. -/
def Machine.PerPollutant.toList {α : Type} (x : Machine.PerPollutant α) : List α := [x.dust, x.hcl, x.so2, x.nox, x.co, x.toc]

/-- The index's id: its place in id order. -/
def Pollutant.id : Pollutant → Nat
  | .dust => 0
  | .hcl => 1
  | .so2 => 2
  | .nox => 3
  | .co => 4
  | .toc => 5

/-- The value at one index. -/
def Machine.PerStroke.get {α : Type} (x : Machine.PerStroke α) : StrokeChannel → α
  | .ramA => x.ramA
  | .ramB => x.ramB
  | .grateA1 => x.grateA1
  | .grateA2 => x.grateA2
  | .grateA3 => x.grateA3
  | .grateB1 => x.grateB1
  | .grateB2 => x.grateB2
  | .grateB3 => x.grateB3

/-- The family with one value replaced. -/
def Machine.PerStroke.set {α : Type} (x : Machine.PerStroke α) (i : StrokeChannel) (v : α) : Machine.PerStroke α :=
  match i with
  | .ramA => { x with ramA := v }
  | .ramB => { x with ramB := v }
  | .grateA1 => { x with grateA1 := v }
  | .grateA2 => { x with grateA2 := v }
  | .grateA3 => { x with grateA3 := v }
  | .grateB1 => { x with grateB1 := v }
  | .grateB2 => { x with grateB2 := v }
  | .grateB3 => { x with grateB3 := v }

/-- Every value replaced by a function of its index and itself. -/
def Machine.PerStroke.map {α β : Type} (f : StrokeChannel → α → β) (x : Machine.PerStroke α) : Machine.PerStroke β :=
  { ramA := f .ramA x.ramA, ramB := f .ramB x.ramB, grateA1 := f .grateA1 x.grateA1, grateA2 := f .grateA2 x.grateA2, grateA3 := f .grateA3 x.grateA3, grateB1 := f .grateB1 x.grateB1, grateB2 := f .grateB2 x.grateB2, grateB3 := f .grateB3 x.grateB3 }

/-- The indexes in id order. -/
def StrokeChannel.all : List StrokeChannel := [.ramA, .ramB, .grateA1, .grateA2, .grateA3, .grateB1, .grateB2, .grateB3]

/-- The values in id order. -/
def Machine.PerStroke.toList {α : Type} (x : Machine.PerStroke α) : List α := [x.ramA, x.ramB, x.grateA1, x.grateA2, x.grateA3, x.grateB1, x.grateB2, x.grateB3]

/-- The index's id: its place in id order. -/
def StrokeChannel.id : StrokeChannel → Nat
  | .ramA => 0
  | .ramB => 1
  | .grateA1 => 2
  | .grateA2 => 3
  | .grateA3 => 4
  | .grateB1 => 5
  | .grateB2 => 6
  | .grateB3 => 7

namespace Machine

/-- The value at one index. -/
def PerReagent.get {α : Type} (x : PerReagent α) : Reagent → α
  | .sorbent => x.sorbent
  | .carbon => x.carbon
  | .reductant => x.reductant

/-- The family with one value replaced. -/
def PerReagent.set {α : Type} (x : PerReagent α) (i : Reagent) (v : α) : PerReagent α :=
  match i with
  | .sorbent => { x with sorbent := v }
  | .carbon => { x with carbon := v }
  | .reductant => { x with reductant := v }

/-- Every value replaced by a function of its index and itself. -/
def PerReagent.map {α β : Type} (f : Reagent → α → β) (x : PerReagent α) : PerReagent β :=
  { sorbent := f .sorbent x.sorbent, carbon := f .carbon x.carbon, reductant := f .reductant x.reductant }

/-- The indexes in id order. -/
def Reagent.all : List Reagent := [.sorbent, .carbon, .reductant]

/-- The values in id order. -/
def PerReagent.toList {α : Type} (x : PerReagent α) : List α := [x.sorbent, x.carbon, x.reductant]

/-- The index's id: its place in id order. -/
def Reagent.id : Reagent → Nat
  | .sorbent => 0
  | .carbon => 1
  | .reductant => 2

/-- The band with a number; a band is 0 to 3 (9.3). -/
def PerBand.get {α : Type} (x : PerBand α) : Nat → α
  | 0 => x.band0
  | 1 => x.band1
  | 2 => x.band2
  | _ => x.band3

/-- The family with one band replaced. -/
def PerBand.set {α : Type} (x : PerBand α) (i : Nat) (v : α) : PerBand α :=
  match i with
  | 0 => { x with band0 := v }
  | 1 => { x with band1 := v }
  | 2 => { x with band2 := v }
  | _ => { x with band3 := v }

/-- The bands in order. -/
def PerBand.toList {α : Type} (x : PerBand α) : List α := [x.band0, x.band1, x.band2, x.band3]

/-- A count that goes up by `n` and stops at `top`. -/
def satAdd (top n x : Nat) : Nat := min top (x + n)

/-- The end of a range nearest to a value (00, "Refusals, clamps and job conditions"). -/
def clampTo (lo hi x : Nat) : Nat := min hi (max lo x)

/-! ## Blocks -/

/-- The state with its clock replaced. -/
def State.setClock (clock : Clock) (s : State) : State := { s with clock := clock }

/-- The state with its mode replaced. -/
def State.setMode (mode : ModeCtl) (s : State) : State := { s with mode := mode }

/-- The state with its eau replaced. -/
def State.setEau (eau : Emission) (s : State) : State := { s with eau := eau }

/-- The state with its feu replaced. -/
def State.setFeu (feu : Envelope) (s : State) : State := { s with feu := feu }

/-- The state with its sta replaced. -/
def State.setSta (sta : StrokeArray) (s : State) : State := { s with sta := sta }

/-- The state with its slg replaced. -/
def State.setSlg (slg : Ledger) (s : State) : State := { s with slg := slg }

/-- The state with its fmu replaced. -/
def State.setFmu (fmu : Meters) (s : State) : State := { s with fmu := fmu }

/-- The state with its pst replaced. -/
def State.setPst (pst : PermitStore) (s : State) : State := { s with pst := pst }

/-- The state with its ports replaced. -/
def State.setPorts (ports : PerPort PortCtl) (s : State) : State := { s with ports := ports }

/-- A port's controller. -/
def State.port (p : Port) (s : State) : PortCtl := s.ports.get p

/-- The state with one port's controller replaced. -/
def State.setPort (p : Port) (c : PortCtl) (s : State) : State := s.setPorts (s.ports.set p c)

/-- One free value drawn: the number it is drawn under, and the state whose next draw has another number. -/
def State.draw (s : State) : Nat × State := (s.freeIndex, { s with freeIndex := s.freeIndex + 1 })

/-- The plant mode as the blocks read it. -/
def State.plantMode (s : State) : Mode := s.mode.mode

/-- The working LIMITS copy, absent while it is not valid (R153). -/
def State.limits (s : State) : Option Limits := s.pst.workingLimits

/-- The working PLANT copy, absent while it is not valid (R153). -/
def State.plant (s : State) : Option Plant := s.pst.workingPlant

end Machine

end Sys2Proof
end

