-- ==== Sys2Proof/Machine/Flags.lean ====
section
/-! DEFINITION. The flags of the part: the notice sets and the attention lines (11.7), and the flags that other chapters form from
the state: staleness, qualification, limiting, dump-over, the stroke outputs. -/

namespace Sys2Proof.Machine

/-! ## Notice sets and attention (R179 to R181) -/

/-- The code of a notice cause. -/
def Notice.code : Notice → Nat
  | .resetSeen => 0
  | .mode => 1
  | .lead => 2
  | .periodClosed => 3
  | .dayClosed => 4
  | .exceedance => 5
  | .capLimiting => 6
  | .jam => 7
  | .shortfall => 8
  | .dumpOver => 9
  | .steamStale => 10
  | .sampleStale => 11
  | .orderActive => 12
  | .orderDropped => 13
  | .permitDone => 14
  | .meterWrap => 15

/-- Cause code n at bit n of the sixteen flags (R179). -/
def Notice.bit (n : Notice) : BitVec 16 := BitVec.twoPow 16 n.code

/-- A set holds a cause. -/
def noticeHeld (set : BitVec 16) (n : Notice) : Bool := set.getLsbD n.code

/-- A cause posted to a port joins its notice set, where it stays once (R180). -/
def State.post (n : Notice) (p : Port) (s : State) : State :=
  s.setPort p { s.port p with notices := (s.port p).notices ||| n.bit }

/-- A cause posted to all three ports. -/
def State.postAll (n : Notice) (s : State) : State := ((s.post n .pf).post n .pg).post n .pd

/-- A cause posted where a condition holds. -/
def State.postIf (c : Bool) (n : Notice) (p : Port) (s : State) : State := if c then s.post n p else s

/-- The causes of a port's set that are not masked: all of them in ACTIVE, those in the wake mask in QUIET (R181). -/
def unmasked (c : PortCtl) : BitVec 16 :=
  match c.link with
  | .active => c.notices
  | .quiet => c.notices &&& c.wakeMask

/-- The attention line is asserted, driven low, while the notice set holds a cause that is not masked (R181). -/
def attention (c : PortCtl) : Bool := unmasked c != 0#16

/-! ## Outputs of the stroke channels -/

/-- A channel's stroke output is on while the channel is in STROKE, and off in every other state (R93). -/
def strokeOutput (r : StrokeRecord) : Bool := r.state == .stroke

/-! ## Staleness -/

/-- The temperature record is stale when it is absent, when its age is at or above the staleness value, and while the working
LIMITS copy is not valid (R21, R22). -/
def tempStale (lim : Option Limits) (m : ModeCtl) : Bool :=
  match lim, m.temp with
  | some l, some _ => l.tempStale ≤ m.tempAge
  | _, _ => true

/-- The record is fresh and its value is at or above a threshold. -/
def tempFreshAtLeast (lim : Option Limits) (m : ModeCtl) (threshold : Nat) : Bool :=
  !tempStale lim m &&
    match m.temp with
    | some t => threshold ≤ t
    | none => false

/-- The qualification timer is at or above the qualify dwell; clear while the working LIMITS copy is not valid (R23, R35). -/
def qualified (lim : Option Limits) (m : ModeCtl) : Bool :=
  match lim with
  | some l => l.dwell ≤ m.timer
  | none => false

/-- The samples are stale when their age is at or above the staleness value, and while the working LIMITS copy is not valid (R47). -/
def samplesStale (lim : Option Limits) (age : Nat) : Bool :=
  match lim with
  | some l => l.sampleStale ≤ age
  | none => true

/-- The steam figure is too old to trust, or the working PLANT copy is not valid (R117). -/
def steamTooOld (pl : Option Plant) (age : Nat) : Bool :=
  match pl with
  | some p => p.steamStale ≤ age
  | none => true

/-! ## Limiting and dump-over -/

/-- The limiting flag: FIRING, and the effective cap below both the request and the boiler limit (R88). -/
def limitingFlag (mode : Mode) (e : Envelope) : Bool :=
  mode == .firing && e.effectiveCap < e.request && e.effectiveCap < e.boilerLimit

/-- The dump-over flag: the dump allocation above the dump capacity; clear while the working PLANT copy is not valid (R132). -/
def dumpOverFlag (pl : Option Plant) (dump : Nat) : Bool :=
  match pl with
  | some p => p.dumpCap < dump
  | none => false

/-! ## Hold causes and modes -/

/-- The hold-cause set is empty. -/
def HoldCauses.isEmpty (c : HoldCauses) : Bool := !(c.lowTemp || c.tempStale || c.cleaning || c.noFeed)

/-- The burner request is set in WARMING and HOLD and clear in every other mode (R19). -/
def burnerFor (mode : Mode) : Bool := mode == .warming || mode == .hold

end Sys2Proof.Machine
end

