-- ==== Sys2Proof/Machine/Operands.lean ====
section
/-! DEFINITION. The operand forms: the coded arguments of R166 with the codes they refuse, the clamped arguments, and the ids. -/

namespace Sys2Proof

/-- An emission channel id, 0 to 5 (R166). -/
def Pollutant.ofCode (b : Byte) : Option Pollutant :=
  match b.toNat with
  | 0 => some .dust
  | 1 => some .hcl
  | 2 => some .so2
  | 3 => some .nox
  | 4 => some .co
  | 5 => some .toc
  | _ => none

/-- A stroke channel id, 0 to 7 (R93, R166). -/
def StrokeChannel.ofCode (b : Byte) : Option StrokeChannel :=
  match b.toNat with
  | 0 => some .ramA
  | 1 => some .ramB
  | 2 => some .grateA1
  | 3 => some .grateA2
  | 4 => some .grateA3
  | 5 => some .grateB1
  | 6 => some .grateB2
  | 7 => some .grateB3
  | _ => none

namespace Machine

/-- AVAILABLE 1, UNAVAILABLE 0 (R166). -/
def Availability.ofCode (b : Byte) : Option Availability :=
  match b.toNat with
  | 0 => some .unavailable
  | 1 => some .available
  | _ => none

/-- A sample status (4.1). -/
inductive SampleStatus where
  | valid | cal | fault | maint
deriving DecidableEq, Repr

/-- VALID 0, CAL 1, FAULT 2, MAINT 3 (R166). -/
def sampleStatusOf (b : Byte) : Option SampleStatus :=
  match b.toNat with
  | 0 => some .valid
  | 1 => some .cal
  | 2 => some .fault
  | 3 => some .maint
  | _ => none

/-- AUTO 0, FIXED 1 (R166). -/
def Source.ofCode (b : Byte) : Option Source :=
  match b.toNat with
  | 0 => some .auto
  | 1 => some .fixed
  | _ => none

/-- POWER_FIRST 0, HEAT_FIRST 1 (R166). -/
def Priority.ofCode (b : Byte) : Option Priority :=
  match b.toNat with
  | 0 => some .powerFirst
  | 1 => some .heatFirst
  | _ => none

/-- A flag: 0 clear, 1 set (R166). -/
def flagOf (b : Byte) : Option Bool :=
  match b.toNat with
  | 0 => some false
  | 1 => some true
  | _ => none

/-- A section number: LIMITS 0, PLANT 1, TARIFF 2 (10.1). -/
def PermitSection.ofCode (b : Byte) : Option PermitSection :=
  match b.toNat with
  | 0 => some .limits
  | 1 => some .plant
  | 2 => some .tariff
  | _ => none

/-- A section's number. -/
def PermitSection.id : PermitSection → Nat
  | .limits => 0
  | .plant => 1
  | .tariff => 2

/-- The port that owns a section (10, first paragraph). -/
def PermitSection.owner : PermitSection → Port
  | .limits => .pg
  | .plant => .pf
  | .tariff => .pd

/-- Which image READ_SECTION returns (R162). -/
inductive Selector where
  | stored | working | pending
deriving DecidableEq, Repr

/-- STORED 0, WORKING 1, PENDING 2 (R167). -/
def selectorOf (b : Byte) : Option Selector :=
  match b.toNat with
  | 0 => some .stored
  | 1 => some .working
  | 2 => some .pending
  | _ => none

/-- A sample entry with its codes read. -/
structure Sample where
  channel : Pollutant
  raw     : Nat
  status  : SampleStatus
deriving DecidableEq, Repr

/-- The entry, where its channel id and status are assigned codes (R38, check 3). -/
def sampleOf (e : SampleEntry) : Option Sample :=
  match Pollutant.ofCode e.channel, sampleStatusOf e.status with
  | some c, some st => some ⟨c, e.raw.toNat, st⟩
  | _, _ => none

/-- Every entry of a set read, where all of them can be. -/
def samplesOf : List SampleEntry → Option (List Sample)
  | [] => some []
  | e :: es =>
    match sampleOf e, samplesOf es with
    | some x, some xs => some (x :: xs)
    | _, _ => none

/-- The order of POST_ORDER before its values are clamped, where its hour, minute, priority and day flag are in range (R120
check 2, R166); the day is ignored when the flag is 0. -/
def orderOf (a : OrderArgs) : Option Order :=
  match flagOf a.dayFlag, Priority.ofCode a.priority with
  | some oneShot, some pr =>
    if a.hour.toNat ≤ 23 ∧ a.minute.toNat ≤ 59 then
      some { tag := a.tag.toNat, day := if oneShot then some a.day.toNat else none, hour := a.hour.toNat,
             minute := a.minute.toNat, power := a.power.toNat, heat := a.heat.toNat, priority := pr, ramp := a.ramp.toNat }
    else none
  | _, _ => none

/-- The targets lowered to Snom and heat max and the ramp rate brought into 1 to 100 (R120). -/
def clampOrder (pl : Plant) (o : Order) : Order :=
  { o with power := min o.power pl.snom, heat := min o.heat pl.heatMax, ramp := clampTo 1 100 o.ramp }

/-- The nibble at a position of a packed total, 0 the least significant (9.1). -/
def nibble (packed : BitVec 48) (i : Nat) : Nat := packed.toNat / 16 ^ i % 16

/-- The twelve nibbles of a packed total, least significant first. -/
def nibbles (packed : BitVec 48) : Digits :=
  [nibble packed 0, nibble packed 1, nibble packed 2, nibble packed 3, nibble packed 4, nibble packed 5, nibble packed 6,
   nibble packed 7, nibble packed 8, nibble packed 9, nibble packed 10, nibble packed 11]

/-- The eleven totals in argument order (R147). -/
def meterTotals (a : MeterArgs) : List Digits :=
  [nibbles a.exported0, nibbles a.exported1, nibbles a.exported2, nibbles a.exported3, nibbles a.exportedGrand,
   nibbles a.heat0, nibbles a.heat1, nibbles a.heat2, nibbles a.heat3, nibbles a.heatGrand, nibbles a.waste]

/-- Every nibble of a total is 0 to 9. -/
def digitsOk (d : Digits) : Bool := d.all (· ≤ 9)

/-- The index of the first total with a bad nibble (R147 check 3, R165). -/
def firstBadDigit : (totals : List Digits) → (i : Nat) → Option Nat
  | [], _ => none
  | d :: ds, i => if digitsOk d then firstBadDigit ds (i + 1) else some i

end Machine

end Sys2Proof
end

