-- ==== Sys2Proof/Machine/Images.lean ====
section
/-! DEFINITION. The permit section images (10.1): their byte layouts, their range checks in byte order (R156), and the CRC-16 that
closes them. -/

namespace Sys2Proof.Machine

/-! ## Codes -/

/-- Role codes: 0 NONE, 1 FIRING, 2 DOSING (10.1). -/
def Role.code : Role → Nat
  | .none => 0
  | .firing => 1
  | .dosing => 2

/-- The role of a checked code. -/
def Role.ofCode : Nat → Role
  | 0 => .none
  | 1 => .firing
  | _ => .dosing

/-- Reagent codes: 0 none, 1 SORBENT, 2 CARBON, 3 REDUCTANT (10.1). -/
def reagentCode : Option Reagent → Nat
  | none => 0
  | some .sorbent => 1
  | some .carbon => 2
  | some .reductant => 3

/-- The reagent of a checked code. -/
def reagentOfNat : Nat → Option Reagent
  | 0 => none
  | 1 => some .sorbent
  | 2 => some .carbon
  | _ => some .reductant

/-! ## Lengths -/

/-- The length of a section's image, CRC included (R156). -/
def PermitSection.imageLength : PermitSection → Nat
  | .limits => 89
  | .plant => 30
  | .tariff => 131

/-! ## LIMITS, 89 bytes -/

/-- A channel's ten-byte entry. -/
def encodeChannel (c : ChannelLimits) : List Byte :=
  be 2 c.limit ++ be 2 c.dayLimit ++ be 1 c.role.code ++ be 1 (reagentCode c.reagent) ++ be 2 c.target ++ be 2 c.gain

/-- The bytes of a LIMITS image before its CRC. -/
def limitsBody (l : Limits) : List Byte :=
  be 2 l.o2ref ++ be 2 l.o2clamp ++ be 2 l.expected ++ be 2 l.minValid ++ be 1 l.minHalves ++ be 1 l.capValid ++ be 2 l.knee
    ++ be 2 l.floor ++ be 1 l.recovery ++ be 2 l.sampleStale ++ be 2 l.tmin ++ be 1 l.dwell ++ be 2 l.tmax ++ be 2 l.tcold
    ++ be 1 l.tempStale ++ be 2 l.serial ++ encodeChannel l.channels.dust ++ encodeChannel l.channels.hcl
    ++ encodeChannel l.channels.so2 ++ encodeChannel l.channels.nox ++ encodeChannel l.channels.co
    ++ encodeChannel l.channels.toc

/-- A LIMITS image. -/
def encodeLimits (l : Limits) : List Byte := withCrc (limitsBody l)

/-- The channel entry at an offset of a checked image. -/
def decodeChannel (img : List Byte) (off : Nat) : ChannelLimits :=
  { limit := field img off 2, dayLimit := field img (off + 2) 2, role := .ofCode (field img (off + 4) 1),
    reagent := reagentOfNat (field img (off + 5) 1), target := field img (off + 6) 2, gain := field img (off + 8) 2 }

/-- The values of a checked LIMITS image. -/
def decodeLimits (img : List Byte) : Limits :=
  { o2ref := field img 0 2, o2clamp := field img 2 2, expected := field img 4 2, minValid := field img 6 2,
    minHalves := field img 8 1, capValid := field img 9 1, knee := field img 10 2, floor := field img 12 2,
    recovery := field img 14 1, sampleStale := field img 15 2, tmin := field img 17 2, dwell := field img 19 1,
    tmax := field img 20 2, tcold := field img 22 2, tempStale := field img 24 1, serial := field img 25 2,
    channels := ⟨decodeChannel img 27, decodeChannel img 37, decodeChannel img 47, decodeChannel img 57, decodeChannel img 67,
                 decodeChannel img 77⟩ }

/-! ## PLANT, 30 bytes -/

/-- A nominal period and a stroke limit. -/
def encodeTiming (t : StrokeTiming) : List Byte := be 2 t.pnom ++ be 2 t.ls

/-- The bytes of a PLANT image before its CRC. -/
def plantBody (p : Plant) : List Byte :=
  be 2 p.snom ++ be 2 p.auxMax ++ be 2 p.heatMax ++ be 2 p.dumpCap ++ be 1 p.grantRamp ++ encodeTiming p.ram
    ++ encodeTiming p.zone1 ++ encodeTiming p.zone2 ++ encodeTiming p.zone3 ++ be 2 p.grateMin ++ be 1 p.steamStale

/-- A PLANT image. -/
def encodePlant (p : Plant) : List Byte := withCrc (plantBody p)

/-- The timing at an offset of a checked image. -/
def decodeTiming (img : List Byte) (off : Nat) : StrokeTiming := ⟨field img off 2, field img (off + 2) 2⟩

/-- The values of a checked PLANT image. -/
def decodePlant (img : List Byte) : Plant :=
  { snom := field img 0 2, auxMax := field img 2 2, heatMax := field img 4 2, dumpCap := field img 6 2,
    grantRamp := field img 8 1, ram := decodeTiming img 9, zone1 := decodeTiming img 13, zone2 := decodeTiming img 17,
    zone3 := decodeTiming img 21, grateMin := field img 25 2, steamStale := field img 27 1 }

/-! ## TARIFF, 131 bytes -/

/-- The bytes of a TARIFF image before its CRC. -/
def tariffBody (t : Tariff) : List Byte :=
  t.working.flatMap (be 1) ++ t.holiday.flatMap (be 1) ++ be 1 t.holidayCount ++ t.holidayDays.flatMap (be 2)

/-- A TARIFF image. -/
def encodeTariff (t : Tariff) : List Byte := withCrc (tariffBody t)

/-- `n` consecutive fields of one width from an offset. -/
def fields (img : List Byte) (off width : Nat) : (n : Nat) → List Nat
  | 0 => []
  | n + 1 => field img off width :: fields img (off + width) width n

/-- The values of a checked TARIFF image. -/
def decodeTariff (img : List Byte) : Tariff :=
  { working := fields img 0 1 48, holiday := fields img 48 1 48, holidayCount := field img 96 1,
    holidayDays := fields img 97 2 16 }

/-- The holiday list: the first `holidayCount` entries (10.1). -/
def Tariff.holidayList (t : Tariff) : List Nat := t.holidayDays.take t.holidayCount

/-! ## Checks (R156) -/

/-- One field of an image with its range. -/
structure FieldRange where
  offset : Nat
  width  : Nat
  lo     : Nat
  hi     : Nat
deriving DecidableEq, Repr

/-- The field of an image lies in its range. -/
def FieldRange.holds (img : List Byte) (f : FieldRange) : Bool :=
  f.lo ≤ field img f.offset f.width && field img f.offset f.width ≤ f.hi

/-- The offset of the first field, in byte order, that is out of range. -/
def firstOutOfRange (img : List Byte) : List FieldRange → Option Nat
  | [] => none
  | f :: fs => if f.holds img then firstOutOfRange img fs else some f.offset

/-- The ranges of a channel entry at an offset. -/
def channelRanges (off : Nat) : List FieldRange :=
  [⟨off, 2, 1, 65535⟩, ⟨off + 2, 2, 1, 65535⟩, ⟨off + 4, 1, 0, 2⟩, ⟨off + 5, 1, 0, 3⟩, ⟨off + 6, 2, 0, 2000⟩,
   ⟨off + 8, 2, 0, 1000⟩]

/-- The ranges of a LIMITS image; that of Tmax starts 100 above the image's own Tmin. -/
def limitsRanges (img : List Byte) : List FieldRange :=
  [⟨0, 2, 0, 2000⟩, ⟨2, 2, 1000, 2000⟩, ⟨4, 2, 30, 1800⟩, ⟨6, 2, 1, 1800⟩, ⟨8, 1, 1, 48⟩, ⟨9, 1, 1, 60⟩, ⟨10, 2, 500, 950⟩,
   ⟨12, 2, 300, 1000⟩, ⟨14, 1, 1, 50⟩, ⟨15, 2, 10, 600⟩, ⟨17, 2, 700, 1100⟩, ⟨19, 1, 1, 60⟩,
   ⟨20, 2, field img 17 2 + 100, 1600⟩, ⟨22, 2, 50, 400⟩, ⟨24, 1, 2, 30⟩, ⟨25, 2, 0, 65535⟩]
    ++ channelRanges 27 ++ channelRanges 37 ++ channelRanges 47 ++ channelRanges 57 ++ channelRanges 67 ++ channelRanges 77

/-- The ranges of a PLANT image. -/
def plantRanges : List FieldRange :=
  [⟨0, 2, 100, 65535⟩, ⟨2, 2, 0, 65535⟩, ⟨4, 2, 0, 65535⟩, ⟨6, 2, 0, 65535⟩, ⟨8, 1, 1, 100⟩, ⟨9, 2, 100, 65535⟩,
   ⟨11, 2, 50, 3000⟩, ⟨13, 2, 100, 65535⟩, ⟨15, 2, 50, 3000⟩, ⟨17, 2, 100, 65535⟩, ⟨19, 2, 50, 3000⟩, ⟨21, 2, 100, 65535⟩,
   ⟨23, 2, 50, 3000⟩, ⟨25, 2, 100, 1000⟩, ⟨27, 1, 2, 60⟩]

/-- The ranges of `n` bands from an offset. -/
def bandRanges (off : Nat) : (n : Nat) → List FieldRange
  | 0 => []
  | n + 1 => ⟨off, 1, 0, 3⟩ :: bandRanges (off + 1) n

/-- The ranges of `n` holiday entries from an offset, each above the entry before it. -/
def holidayRanges (img : List Byte) (off : Nat) : (n : Nat) → List FieldRange
  | 0 => []
  | n + 1 => ⟨off, 2, field img (off - 2) 2 + 1, 65535⟩ :: holidayRanges img (off + 2) n

/-- The ranges of a TARIFF image: the holiday list strictly ascending, the entries after it unchecked. -/
def tariffRanges (img : List Byte) : List FieldRange :=
  bandRanges 0 96 ++ [⟨96, 1, 0, 16⟩] ++ holidayRanges img 99 (field img 96 1 - 1)

/-- The ranges of a section's image, in byte order. -/
def PermitSection.ranges (sec : PermitSection) (img : List Byte) : List FieldRange :=
  match sec with
  | .limits => limitsRanges img
  | .plant => plantRanges
  | .tariff => tariffRanges img

/-- The field that BAD_IMAGE reports for a section's image, none when the image passes: 0xFFFF for the length, 0xFFFE for the
CRC, else the offset of the first field out of range (R156). -/
def imageFault (sec : PermitSection) (img : List Byte) : Option Nat :=
  if img.length ≠ sec.imageLength then some 0xFFFF
  else if crcOk img then firstOutOfRange img (sec.ranges img)
  else some 0xFFFE

/-- The image with the LIMITS serial that the store writes itself, and the CRC computed again (R158). -/
def withSerial (img : List Byte) (serial : Nat) : List Byte :=
  withCrc (img.take 25 ++ be 2 serial ++ (img.drop 27).take 60)

/-- The serial field of a LIMITS image. -/
def imageSerial (img : List Byte) : Nat := field img 25 2

end Sys2Proof.Machine
end

