-- ==== Sys2Proof/Machine/Strokes.lean ====
section
/-! DEFINITION. The stroke timer array (chapter 06) as operations on its own record, given the plant mode and the working PLANT
copy it reads: lanes, computed periods, activation and deactivation, the preloads, and the stroke cycle. -/

namespace Sys2Proof.Machine

/-- The channels 0 and 1 are the ram feeders. -/
def isRam : StrokeChannel → Bool
  | .ramA => true
  | .ramB => true
  | _ => false

/-- The lane grant of a channel's lane (channel table). -/
def laneGrant (a : StrokeArray) : StrokeChannel → Nat
  | .ramA => a.laneA
  | .grateA1 => a.laneA
  | .grateA2 => a.laneA
  | .grateA3 => a.laneA
  | .ramB => a.laneB
  | .grateB1 => a.laneB
  | .grateB2 => a.laneB
  | .grateB3 => a.laneB

/-- The mass per stroke of a ram's lane (R100). -/
def laneMass (a : StrokeArray) : StrokeChannel → Nat
  | .ramA => a.massA
  | _ => a.massB

/-- The timing values of a channel's kind (channel table). -/
def timingOf (pl : Plant) : StrokeChannel → StrokeTiming
  | .ramA => pl.ram
  | .ramB => pl.ram
  | .grateA1 => pl.zone1
  | .grateB1 => pl.zone1
  | .grateA2 => pl.zone2
  | .grateB2 => pl.zone2
  | .grateA3 => pl.zone3
  | .grateB3 => pl.zone3

/-- The plant mode allows the channel's kind (R95). -/
def allowed (mode : Mode) (ch : StrokeChannel) : Bool :=
  if isRam ch then mode == .firing else mode == .firing || mode == .hold || mode == .burnout

/-- The channel is active: enabled, and its kind allowed (R95). -/
def active (mode : Mode) (ch : StrokeChannel) (r : StrokeRecord) : Bool := r.enabled && allowed mode ch

/-- The lane grant below which an AUTO ram waits (R97). -/
def cutoff : Nat := 50

/-! ## Periods (R106 to R108) -/

/-- A lane's grant from the grant and the lane's share of the split (R106). -/
def laneShare (grant share : Nat) : Nat := min 1000 (grant * share / 500)

/-- The lane grants formed again from the grant and the split held (R106). -/
def withLanes (a : StrokeArray) : StrokeArray :=
  { a with laneA := laneShare a.grant a.split, laneB := laneShare a.grant (1000 - a.split) }

/-- A period from a figure g: Pnom × 1000 / g rounded half up, at most 65,535, and at least Ls + 10 (R107, R108). -/
def periodFor (t : StrokeTiming) (g : Nat) : Nat := max (t.ls + 10) (min 65535 ((t.pnom * 1000 + g / 2) / g))

/-- A grate channel's firing figure: in FIRING the greater of its lane grant and grate_min, elsewhere grate_min (R108).
DEDUCED for COLD, WARMING and TRIPPED, where the grant is 0 and both rows of R108 give grate_min (safe: log entry 16). -/
def firingFigure (mode : Mode) (pl : Plant) (g : Nat) : Nat := if mode = .firing then max g pl.grateMin else pl.grateMin

/-- The channel's computed period; none for an AUTO ram below the cutoff and while the PLANT copy is not valid (R107, R108;
for the latter DESIGN CHOICE, safe: log entry 20). -/
def computedPeriod (mode : Mode) (pl : Option Plant) (a : StrokeArray) (ch : StrokeChannel) (r : StrokeRecord) : Option Nat :=
  match pl with
  | none => none
  | some p =>
    match r.source with
    | .fixed => some (max ((timingOf p ch).ls + 10) r.fixedPeriod)
    | .auto =>
      if isRam ch then
        if laneGrant a ch < cutoff then none else some (periodFor (timingOf p ch) (laneGrant a ch))
      else some (periodFor (timingOf p ch) (firingFigure mode p (laneGrant a ch)))

/-- The stroke limit of the channel's kind in the working PLANT copy; the value held while that copy is not valid. -/
def currentLimit (pl : Option Plant) (ch : StrokeChannel) (r : StrokeRecord) : Nat :=
  match pl with
  | some p => (timingOf p ch).ls
  | none => r.limit

/-- An AUTO ram whose lane grant is below the cutoff. -/
def mustWait (a : StrokeArray) (ch : StrokeChannel) (r : StrokeRecord) : Bool :=
  isRam ch && r.source == .auto && laneGrant a ch < cutoff

/-! ## Activation, deactivation, preload (R96, R97, R109, R110) -/

/-- The channel is running its cycle: in DWELL or STROKE. -/
def cycling (r : StrokeRecord) : Bool := r.state == .dwell || r.state == .stroke

/-- The channel enters DWELL with its counter at 0 and its computed period and stroke limit in force (R97, R110). -/
def enterDwell (mode : Mode) (pl : Option Plant) (a : StrokeArray) (ch : StrokeChannel) (r : StrokeRecord) : StrokeRecord :=
  { r with state := .dwell, counter := 0, preload := none, period := (computedPeriod mode pl a ch r).getD r.period,
           limit := currentLimit pl ch r }

/-- The channel becomes active: DWELL, or WAIT for an AUTO ram below the cutoff (R97). -/
def activate (mode : Mode) (pl : Option Plant) (a : StrokeArray) (ch : StrokeChannel) (r : StrokeRecord) : StrokeRecord :=
  if mustWait a ch r then { r with state := .wait, counter := 0, preload := none } else enterDwell mode pl a ch r

/-- The channel becomes inactive while in WAIT, DWELL or STROKE: a stroke in flight is abandoned (R96). -/
def deactivate (r : StrokeRecord) : StrokeRecord := { r with state := .off, counter := 0, preload := none }

/-- The computed period written into the preload of a channel in DWELL or STROKE, where it has one (R109). -/
def writePreload (mode : Mode) (pl : Option Plant) (a : StrokeArray) (ch : StrokeChannel) (r : StrokeRecord) : StrokeRecord :=
  if cycling r then
    match computedPeriod mode pl a ch r with
    | some p => { r with preload := some p }
    | none => r
  else r

/-- A ram in WAIT leaves it when its lane grant reaches the cutoff or its source is FIXED (R110). -/
def releaseWait (mode : Mode) (pl : Option Plant) (a : StrokeArray) (ch : StrokeChannel) (r : StrokeRecord) : StrokeRecord :=
  if r.state = .wait ∧ mustWait a ch r = false then enterDwell mode pl a ch r else r

/-! ## Events that reach the array from other blocks -/

/-- The lane grants formed again, the AUTO channels' preloads written and the waiting rams released: a new grant (R106) or a new
split (R113). -/
def relane (mode : Mode) (pl : Option Plant) (a : StrokeArray) : StrokeArray :=
  let b := withLanes a
  { b with channels := b.channels.map fun ch r =>
      if r.source = .auto then releaseWait mode pl b ch (writePreload mode pl b ch r) else r }

/-- A grant handed over by the firing envelope unit (R106). -/
def takeGrant (mode : Mode) (pl : Option Plant) (grant : Nat) (a : StrokeArray) : StrokeArray :=
  relane mode pl { a with grant := grant }

/-- A change of plant mode at one channel: its gate opens, closes, or stays open, where an AUTO grate channel has its preload
written (R95 to R97, R109). A JAMMED channel keeps its state (R103). -/
def gateChannel (mode : Mode) (pl : Option Plant) (a : StrokeArray) (ch : StrokeChannel) (r : StrokeRecord) : StrokeRecord :=
  if r.state = .jammed then r
  else if active mode ch r then
    if r.state = .off then activate mode pl a ch r
    else if isRam ch = false ∧ r.source = .auto then writePreload mode pl a ch r
    else r
  else if r.state = .off then r
  else deactivate r

/-- A change of plant mode, with the mode entered (R95). -/
def takeMode (mode : Mode) (pl : Option Plant) (a : StrokeArray) : StrokeArray :=
  { a with channels := a.channels.map (gateChannel mode pl a) }

/-- A new working PLANT copy: every channel in DWELL or STROKE has its preload written (R111). -/
def takePlant (mode : Mode) (pl : Option Plant) (a : StrokeArray) : StrokeArray :=
  { a with channels := a.channels.map (writePreload mode pl a) }

/-! ## The stroke cycle -/

/-- One stroke unit: the counters of the channels in DWELL or STROKE go up by one (R94). -/
def countUnit (a : StrokeArray) : StrokeArray :=
  { a with channels := a.channels.map fun _ r => if cycling r then { r with counter := satAdd 65535 1 r.counter } else r }

/-- The period expiry is due: DWELL, and the counter has reached P (R94). -/
def periodDue (r : StrokeRecord) : Bool := r.state == .dwell && r.period ≤ r.counter

/-- The stroke limit expiry is due: STROKE, and the counter has reached Ls (R94). -/
def limitDue (r : StrokeRecord) : Bool := r.state == .stroke && r.limit ≤ r.counter

/-- A period expiry at one channel (R98). -/
def startStroke (pl : Option Plant) (a : StrokeArray) (ch : StrokeChannel) (r : StrokeRecord) : StrokeRecord :=
  if mustWait a ch r then { r with state := .wait, counter := 0, preload := none }
  else { r with state := .stroke, counter := 0, preload := none, period := r.preload.getD r.period, limit := currentLimit pl ch r }

/-- An EOS arrival in STROKE: the duration captured, at most Ls − 1, the jam count cleared, the stroke counted (R99). -/
def completeStroke (r : StrokeRecord) : StrokeRecord :=
  { r with state := .dwell, capture := min r.counter (r.limit - 1), jamCount := 0,
           strokeCount := (r.strokeCount + 1) % 4294967296 }

/-- A stroke limit expiry that jams the channel, with its jam count after it (R101, R102). -/
def jamChannel (count : Nat) (r : StrokeRecord) : StrokeRecord :=
  { r with state := .jammed, counter := r.limit, jamCount := count }

/-- A stroke limit expiry that starts a grate channel's retry (R102). -/
def retryStroke (r : StrokeRecord) : StrokeRecord := { r with state := .dwell, jamCount := 1 }

/-- A ram is feed-capable when it is enabled and not JAMMED (R105). -/
def feedCapable (r : StrokeRecord) : Bool := r.enabled && r.state != .jammed

/-- The number of feed-capable rams, as the channels stand (R105). -/
def countRams (a : StrokeArray) : Nat := (feedCapable a.channels.ramA).toNat + (feedCapable a.channels.ramB).toNat

/-- One channel's record replaced, and the number of feed-capable rams formed again. -/
def setRecord (ch : StrokeChannel) (r : StrokeRecord) (a : StrokeArray) : StrokeArray :=
  let b := { a with channels := a.channels.set ch r }
  { b with rams := countRams b }

/-- Some grate channel is JAMMED (R34). -/
def grateJammed (a : StrokeArray) : Bool :=
  StrokeChannel.all.any fun ch => !isRam ch && (a.channels.get ch).state == .jammed

end Sys2Proof.Machine
end

