-- ==== Sys2Proof/Machine/Envelope.lean ====
section
/-! DEFINITION. The firing envelope unit (chapter 05): the per-channel figures, the computed cap, the reagent demand record, the
effective cap, the target and the grant, and the hand-over of the grant to the stroke timer array. -/

namespace Sys2Proof.Machine

/-! ## Ratios and channel caps (R77 to R79) -/

/-- The running average: floor(sum / n), or 0 when n is 0 (R44, R77). -/
def runningAverage (a : Accumulator) : Nat := if a.valid = 0 then 0 else a.sum / a.valid

/-- The ratio of the running average to the half-hour limit, per mille, saturating at 2000 (R77). -/
def ratio (a : Accumulator) (limit : Nat) : Nat := min 2000 (runningAverage a * 1000 / limit)

/-- The availability of a reagent as the emission accounting unit holds it (R78). -/
def reagentAvailable (e : Emission) (r : Reagent) : Bool := (e.reagents.get r).availability == .available

/-- The channel takes part in the computed cap by its role and its reagent, once its valid count has reached Nc (R78). -/
def takesPart (l : Limits) (e : Emission) (c : ChannelLimits) (a : Accumulator) : Bool :=
  match c.role, c.reagent with
  | .none, _ => false
  | .firing, _ => l.capValid ≤ a.valid
  | .dosing, none => false
  | .dosing, some r => !reagentAvailable e r && l.capValid ≤ a.valid

/-- The channel cap of a ratio: 1000 up to the knee W, F from the limit on, a straight line between (R79). -/
def channelCap (l : Limits) (q : Nat) : Nat :=
  if q ≤ l.knee then 1000
  else if q < 1000 then 1000 - (1000 - l.floor) * (q - l.knee) / (1000 - l.knee)
  else l.floor

/-- A channel's figures (R77 to R79); while the LIMITS copy is not valid every ratio is 0 and no channel takes part. -/
def capFigure (lim : Option Limits) (e : Emission) (ch : Pollutant) : CapFigure :=
  match lim with
  | none => .idle
  | some l =>
    let c := l.channels.get ch
    let a := e.accounts.get ch
    let q := ratio a c.limit
    let part := takesPart l e c a
    ⟨q, if part then channelCap l q else 1000, part⟩

/-- The figures of all six channels. -/
def capFigures (lim : Option Limits) (e : Emission) : PerPollutant CapFigure :=
  ⟨capFigure lim e .dust, capFigure lim e .hcl, capFigure lim e .so2, capFigure lim e .nox, capFigure lim e .co,
   capFigure lim e .toc⟩

/-! ## The computed cap (R80) -/

/-- The least channel cap among the channels taking part, or 1000 when none takes part. -/
def leastCap (figs : PerPollutant CapFigure) : Nat :=
  figs.toList.foldl (fun m f => if f.takesPart then min m f.cap else m) 1000

/-- The computed cap: 1000 while the LIMITS copy is not valid, F while the stale-in-FIRING condition is on, else the least
channel cap. -/
def computedCapOf (lim : Option Limits) (e : Emission) : Nat :=
  match lim with
  | none => 1000
  | some l => if e.staleInFiring then l.floor else leastCap (capFigures lim e)

/-- The capping channel: the first in id order that takes part with a channel cap equal to the computed cap and below 1000;
absent while the stale-in-FIRING condition is on. -/
def cappingOf (figs : PerPollutant CapFigure) (e : Emission) (cap : Nat) : Option Pollutant :=
  if e.staleInFiring then none
  else Pollutant.all.find? fun ch => (figs.get ch).takesPart && (figs.get ch).cap == cap && cap < 1000

/-! ## Reagent demand (R89) -/

/-- A channel is served by a reagent for the demand: role DOSING, that reagent, and at least one valid reading. -/
def served (l : Limits) (e : Emission) (r : Reagent) (ch : Pollutant) : Bool :=
  (l.channels.get ch).role == .dosing && (l.channels.get ch).reagent == some r && 1 ≤ (e.accounts.get ch).valid

/-- The largest ratio among the served channels, with the channel giving it, the lowest id among several. -/
def drivingOf (l : Limits) (e : Emission) (r : Reagent) : Option (Nat × Pollutant) :=
  Pollutant.all.foldl (fun best ch =>
    if served l e r ch then
      match best with
      | some b => if b.1 < (capFigure (some l) e ch).ratio then some ((capFigure (some l) e ch).ratio, ch) else best
      | none => some ((capFigure (some l) e ch).ratio, ch)
    else best) none

/-- The demand of a reagent: its base plus the gain-weighted excess of qmax over the driving channel's target, at most 1000. -/
def demandOf (lim : Option Limits) (e : Emission) (r : Reagent) : ReagentDemand :=
  match lim with
  | none => ⟨(e.reagents.get r).base, none⟩
  | some l =>
    match drivingOf l e r with
    | none => ⟨(e.reagents.get r).base, none⟩
    | some (q, ch) =>
      ⟨min 1000 ((e.reagents.get r).base + (l.channels.get ch).gain * (q - (l.channels.get ch).target) / 100), some (q, ch)⟩

/-- The reagent demand record. -/
def demandsOf (lim : Option Limits) (e : Emission) : PerReagent ReagentDemand :=
  ⟨demandOf lim e .sorbent, demandOf lim e .carbon, demandOf lim e .reductant⟩

/-! ## Target and grant (R84, R85, R88) -/

/-- The target: the least of the request, the effective cap and the boiler limit in FIRING, 0 in every other mode (R84). -/
def targetOf (mode : Mode) (e : Envelope) : Nat :=
  if mode = .firing then min (min e.request e.effectiveCap) e.boilerLimit else 0

/-- The envelope with its target and limiting flag formed again and the grant fallen to a lower target (R84, R85, R88). -/
def retargeted (mode : Mode) (e : Envelope) : Envelope :=
  { e with target := targetOf mode e, limiting := limitingFlag mode e, grant := min e.grant (targetOf mode e) }

/-- The grant of the envelope handed to the stroke timer array where it has changed (R85, R106). -/
def State.handGrant (before : Nat) (s : State) : State :=
  if s.feu.grant = before then s else s.setSta (takeGrant s.plantMode s.plant s.feu.grant s.sta)

/-- The envelope's target formed again with all that follows: the grant's fall, the hand-over, and CAP_LIMITING to PF and PD when
the limiting flag passes from clear to set. -/
def State.retarget (s : State) : State :=
  let e := retargeted s.plantMode s.feu
  let rises := e.limiting && !s.feu.limiting
  ((((s.setFeu e).handGrant s.feu.grant).postIf rises .capLimiting .pf).postIf rises .capLimiting .pd)

/-- The envelope with the figures, the computed cap, the capping channel and the demand record formed from the accounts and the
copy as they stand, and the effective cap fallen to a lower computed cap (R80, R81). -/
def recomputed (lim : Option Limits) (em : Emission) (e : Envelope) : Envelope :=
  let figs := capFigures lim em
  let cap := computedCapOf lim em
  { e with figures := figs, computedCap := cap, capping := cappingOf figs em cap, demand := demandsOf lim em,
           effectiveCap := min e.effectiveCap cap }

/-- A recomputation of the computed cap with all that follows (R80). -/
def State.recompute (s : State) : State := (s.setFeu (recomputed s.limits s.eau s.feu)).retarget

/-- The request written by the steam ledger: a value that differs from the one held is taken, and the target recomputed (R75). -/
def State.takeRequest (value : Nat) (s : State) : State :=
  if value = s.feu.request then s else (s.setFeu { s.feu with request := value }).retarget

/-- A new working LIMITS copy taking effect at a half-hour boundary: the effective cap raised to the new F, then a recomputation
(R83). -/
def State.installLimits (s : State) : State :=
  match s.limits with
  | some l => (s.setFeu { s.feu with effectiveCap := max s.feu.effectiveCap l.floor }).recompute
  | none => s.recompute

/-- The effective cap's rise toward the computed cap at a second event, by at most R (R82). -/
def recoveredCap (lim : Option Limits) (e : Envelope) : Nat :=
  match lim with
  | some l => if e.effectiveCap < e.computedCap then min e.computedCap (e.effectiveCap + l.recovery) else e.effectiveCap
  | none => e.effectiveCap

/-- The grant's rise toward its target at a second event, by at most the grant ramp (R86). -/
def rampedGrant (pl : Option Plant) (e : Envelope) : Nat :=
  match pl with
  | some p => if e.grant < e.target then min e.target (e.grant + p.grantRamp) else e.grant
  | none => e.grant

/-- The unit's second event: the effective cap, then the target, then the grant (R86). -/
def State.envelopeSecond (s : State) : State :=
  let s1 := (s.setFeu { s.feu with effectiveCap := recoveredCap s.limits s.feu }).retarget
  (s1.setFeu { s1.feu with grant := rampedGrant s1.plant s1.feu }).handGrant s1.feu.grant

end Sys2Proof.Machine
end

