-- ==== Sys2Proof/Machine/Ledger.lean ====
section
/-! DEFINITION. The steam ledger (chapter 07): targets, allocation, request, the order queue and activation. -/

namespace Sys2Proof.Machine

/-! ## Targets and setpoints (R128, R129) -/

/-- The power target: the active order's, limited by Snom, while the turbine is AVAILABLE; 0 otherwise (R128). While the PLANT
copy is not valid no order can be active (R120, R138), and the limit is taken as 0. -/
def powerTargetOf (pl : Option Plant) (l : Ledger) : Nat :=
  match l.active, l.turbine with
  | some o, .available => min o.power ((pl.map Plant.snom).getD 0)
  | _, _ => 0

/-- The heat target: the active order's, limited by heat max, while the extraction is AVAILABLE; 0 otherwise (R128). -/
def heatTargetOf (pl : Option Plant) (l : Ledger) : Nat :=
  match l.active, l.extraction with
  | some o, .available => min o.heat ((pl.map Plant.heatMax).getD 0)
  | _, _ => 0

/-- Both targets formed again (R128). -/
def retargetLedger (pl : Option Plant) (l : Ledger) : Ledger :=
  { l with powerTarget := powerTargetOf pl l, heatTarget := heatTargetOf pl l }

/-- The priority in force: the active order's, POWER_FIRST with the slot empty (R126). -/
def priorityOf (l : Ledger) : Priority := (l.active.map Order.priority).getD .powerFirst

/-- The ramp rate in force: the active order's, 0 with the slot empty (R126). -/
def rampOf (l : Ledger) : Nat := (l.active.map Order.ramp).getD 0

/-- A setpoint one step nearer its target, by at most the ramp rate (R129). -/
def stepToward (target rate setpoint : Nat) : Nat :=
  if setpoint < target then min target (setpoint + rate)
  else if target < setpoint then max target (setpoint - rate)
  else setpoint

/-! ## Allocation (R130 to R132) -/

/-- S divided in the order of service: aux, then the two consumers by priority, then dump (R130). -/
def allocate (l : Ledger) : Allocation :=
  let aux := min l.aux l.steam
  let rest := l.steam - aux
  match priorityOf l with
  | .powerFirst =>
    let first := min l.powerSetpoint rest
    let second := min l.heatSetpoint (rest - first)
    ⟨aux, first, second, rest - first - second⟩
  | .heatFirst =>
    let first := min l.heatSetpoint rest
    let second := min l.powerSetpoint (rest - first)
    ⟨aux, second, first, rest - first - second⟩

/-- The shortfall: setpoint steam not covered by the allocation (R131). -/
def shortfallOf (l : Ledger) (a : Allocation) : Nat := (l.powerSetpoint + l.heatSetpoint) - (a.power + a.heat)

/-- The ledger with its allocation, shortfall and dump-over flag formed again. -/
def reallocated (pl : Option Plant) (l : Ledger) : Ledger :=
  { l with alloc := allocate l, shortfall := shortfallOf l (allocate l), dumpOver := dumpOverFlag pl (allocate l).dump }

/-- The allocation recomputed, with SHORTFALL to PD when the shortfall passes from 0 and DUMP_OVER to PD and PF when the flag
passes from clear to set (R130 to R132). -/
def State.reallocate (s : State) : State :=
  let l := reallocated s.plant s.slg
  let short := decide (s.slg.shortfall = 0) && decide (0 < l.shortfall)
  let spills := l.dumpOver && !s.slg.dumpOver
  (((s.setSlg l).postIf short .shortfall .pd).postIf spills .dumpOver .pd).postIf spills .dumpOver .pf

/-! ## The firing request (R133, R134) -/

/-- The request of R133: targets and aux demand as a per mille of Snom, rounded up, at most 1000; 0 while the PLANT copy is not
valid. -/
def requestOf (pl : Option Plant) (l : Ledger) : Nat :=
  match pl with
  | some p => min 1000 (((l.powerTarget + l.heatTarget + l.aux) * 1000 + p.snom - 1) / p.snom)
  | none => 0

/-- The request as a recomputation writes it: while the steam stale flag is set it may not exceed the request held (R134). -/
def boundedRequest (pl : Option Plant) (l : Ledger) : Nat :=
  if l.stale then min (requestOf pl l) l.request else requestOf pl l

/-- A request formed and written into the firing envelope. -/
def State.writeRequest (s : State) : State :=
  let v := boundedRequest s.plant s.slg
  (s.setSlg { s.slg with request := v }).takeRequest v

/-- A new working PLANT copy at the ledger: aux demand lowered to aux max, targets, request, allocation (R135). -/
def State.ledgerTakePlant (s : State) : State :=
  let aux := match s.plant with
    | some p => min s.slg.aux p.auxMax
    | none => s.slg.aux
  ((s.setSlg (retargetLedger s.plant { s.slg with aux := aux })).writeRequest).reallocate

/-! ## Second event (R117, R129) -/

/-- The steam figure one second older, with STEAM_STALE to PF and PD when its flag passes from clear to set (R117). -/
def State.steamSecond (s : State) : State :=
  let age := satAdd 65535 1 s.slg.age
  let goes := steamTooOld s.plant age && !s.slg.stale
  ((s.setSlg { s.slg with age := age, stale := s.slg.stale || steamTooOld s.plant age }).postIf goes .steamStale .pf).postIf goes
    .steamStale .pd

/-- Each setpoint one step toward its target, and the allocation recomputed when one moved (R129). -/
def State.rampSetpoints (s : State) : State :=
  let p := stepToward s.slg.powerTarget (rampOf s.slg) s.slg.powerSetpoint
  let h := stepToward s.slg.heatTarget (rampOf s.slg) s.slg.heatSetpoint
  if p = s.slg.powerSetpoint ∧ h = s.slg.heatSetpoint then s
  else (s.setSlg { s.slg with powerSetpoint := p, heatSetpoint := h }).reallocate

/-- The ledger's second event. -/
def State.ledgerSecond (s : State) : State := s.steamSecond.rampSetpoints

/-! ## Keys and the queue (R121, R127) -/

/-- The keys on the day that follows day 65535 (R121). -/
def keyWrap : Nat := 94371840

/-- The first occurrence of an hour and minute strictly after the current minute (R121). -/
def nextOccurrence (now hour minute : Nat) : Nat :=
  let today := now / 1440 * 1440 + hour * 60 + minute
  if now < today then today else today + 1440

/-- The key of an order at a post (R121). -/
def orderKey (now : Nat) (o : Order) : Nat :=
  match o.day with
  | some d => d * 1440 + o.hour * 60 + o.minute
  | none => nextOccurrence now o.hour o.minute

/-- A queued order placed in ascending key. -/
def enqueue (q : QueuedOrder) : List QueuedOrder → List QueuedOrder
  | [] => [q]
  | x :: xs => if q.key < x.key then q :: x :: xs else x :: enqueue q xs

/-- Some queued order has the key. -/
def keyTaken (key : Nat) (queue : List QueuedOrder) : Bool := queue.any (·.key == key)

/-- The queued keys at or above 94,371,840 brought back by that amount, each order at its place in ascending key (R127). -/
def rekey (queue : List QueuedOrder) : List QueuedOrder :=
  ((queue.filter (keyWrap ≤ ·.key)).map fun q => { q with key := q.key - keyWrap }).foldl (fun acc q => enqueue q acc)
    (queue.filter (·.key < keyWrap))

/-! ## Activation (R124 to R126) -/

/-- The daily orders taken out put back at their next occurrence, or dropped where that key is taken: the queue, and whether one
was dropped (R125). -/
def requeue (now : Nat) : List QueuedOrder → List QueuedOrder → List QueuedOrder × Bool
  | [], queue => (queue, false)
  | d :: ds, queue =>
    match d.order.day with
    | some _ => requeue now ds queue
    | none =>
      let key := nextOccurrence now d.order.hour d.order.minute
      if keyTaken key queue then ((requeue now ds queue).1, true)
      else requeue now ds (enqueue ⟨key, d.order⟩ queue)

/-- An order takes the active slot: targets and request formed at once, the allocation recomputed, ORDER_ACTIVE to PD (R126). -/
def State.activateOrder (o : Order) (s : State) : State :=
  (((s.setSlg (retargetLedger s.plant { s.slg with active := some o })).writeRequest).reallocate).post .orderActive .pd

/-- The activation check against a minute key: the orders due leave the queue, the one with the largest key becomes active, the
daily ones are re-queued (R124, R125). -/
def State.runActivation (now : Nat) (s : State) : State :=
  let due := s.slg.queue.filter (·.key ≤ now)
  match due.getLast? with
  | none => s
  | some last =>
    let r := requeue now due (s.slg.queue.filter (now < ·.key))
    ((s.setSlg { s.slg with queue := r.1 }).postIf r.2 .orderDropped .pd).activateOrder last.order

end Sys2Proof.Machine
end

