-- ==== Sys2Proof/Machine/Emission.lean ====
section
/-! DEFINITION. The emission accounting unit (chapters 03 and 04): sample sets, the accumulators, the sample age, the periods and
their records, and the history rings. -/

namespace Sys2Proof.Machine

/-! ## Normalisation and accumulation (R40 to R44) -/

/-- The saturation value of a normalised concentration (R42). -/
def normTop : Nat := 999999

/-- The oxygen value used: the measured value, or O2clamp when it is above O2clamp (R41). -/
def oxygenUsed (l : Limits) (o2 : Nat) : Nat := min o2 l.o2clamp

/-- The rounded quotient of R41, before it saturates. -/
def normQuotient (l : Limits) (o2 raw : Nat) : Nat :=
  (raw * (2100 - l.o2ref) + (2100 - oxygenUsed l o2) / 2) / (2100 - oxygenUsed l o2)

/-- The normalised value (R42). -/
def normalised (l : Limits) (o2 raw : Nat) : Nat := min normTop (normQuotient l o2 raw)

/-- The largest sum and the largest counts an accumulator holds (4.3). -/
def sumTop : Nat := 4294967295

/-- The addition of a normalised value is taken: the sum and the valid count both have room (R44). -/
def additionTaken (a : Accumulator) (v : Nat) : Bool := a.sum + v ≤ sumTop && a.valid < 65535

/-- A valid entry accumulated (R41 to R44). -/
def accumulateValid (l : Limits) (o2 raw : Nat) (a : Accumulator) : Accumulator :=
  let v := normalised l o2 raw
  let taken := additionTaken a v
  { a with
    maximum := max a.maximum v
    highO2 := if l.o2clamp < o2 then satAdd 65535 1 a.highO2 else a.highO2
    sum := if taken then a.sum + v else a.sum
    valid := if taken then a.valid + 1 else a.valid
    saturated := a.saturated || normTop < normQuotient l o2 raw || !taken }

/-- An entry that is not valid adds one to exactly one status count (R40). -/
def countInvalid (st : SampleStatus) (a : Accumulator) : Accumulator :=
  match st with
  | .cal => { a with cal := satAdd 65535 1 a.cal }
  | .fault => { a with fault := satAdd 65535 1 a.fault }
  | .maint => { a with maint := satAdd 65535 1 a.maint }
  | .valid => a

/-- The entry is valid: its own status and the O2 status are both VALID (R40). -/
def entryValid (o2Status : SampleStatus) (x : Sample) : Bool := x.status == .valid && o2Status == .valid

/-- The status an invalid entry is counted under: its own, or the O2 status where its own is VALID (R40). -/
def countedUnder (o2Status : SampleStatus) (x : Sample) : SampleStatus := if x.status = .valid then o2Status else x.status

/-- One entry of an accepted set taken into its channel's accumulator (R40 to R44). -/
def takeEntry (l : Limits) (o2 : Nat) (o2Status : SampleStatus) (x : Sample) (acc : PerPollutant Accumulator) :
    PerPollutant Accumulator :=
  let a := acc.get x.channel
  acc.set x.channel
    (if entryValid o2Status x then accumulateValid l o2 x.raw a else countInvalid (countedUnder o2Status x) a)

/-- Every entry of an accepted set, in the order sent (R45). -/
def takeEntries (l : Limits) (o2 : Nat) (o2Status : SampleStatus) (xs : List Sample) (acc : PerPollutant Accumulator) :
    PerPollutant Accumulator :=
  xs.foldl (fun acc x => takeEntry l o2 o2Status x acc) acc

/-- The reply data of one entry: channel id, valid flag, normalised value, saturated flag (R45). -/
def entryReply (l : Limits) (o2 : Nat) (o2Status : SampleStatus) (x : Sample) (acc : PerPollutant Accumulator) : List Byte :=
  if entryValid o2Status x then
    let v := normalised l o2 x.raw
    let sat := decide (normTop < normQuotient l o2 x.raw) || !additionTaken (acc.get x.channel) v
    be 1 x.channel.id ++ be 1 1 ++ be 3 v ++ be 1 sat.toNat
  else be 1 x.channel.id ++ be 1 0 ++ be 3 0 ++ be 1 0

/-- The reply data of an accepted set, in the order sent. -/
def entriesReply (l : Limits) (o2 : Nat) (o2Status : SampleStatus) : List Sample → PerPollutant Accumulator → List Byte
  | [], _ => []
  | x :: xs, acc => entryReply l o2 o2Status x acc ++ entriesReply l o2 o2Status xs (takeEntry l o2 o2Status x acc)

/-- No channel stands twice in a set (R38, check 4). -/
def channelsDistinct (xs : List Sample) : Bool := decide (xs.map Sample.channel).Nodup

/-! ## Sample age and stale samples (R47 to R49) -/

/-- The stale-in-FIRING condition begins: the envelope recomputes, and SAMPLE_STALE goes to PG and PF (R48). -/
def State.beginStale (s : State) : State :=
  (((s.setEau { s.eau with staleInFiring := true }).recompute).post .sampleStale .pg).post .sampleStale .pf

/-- The stale-in-FIRING condition ends, and the envelope recomputes (R49). -/
def State.endStale (s : State) : State := (s.setEau { s.eau with staleInFiring := false }).recompute

/-- The unit's second-event work: the sample age and with it the stale-in-FIRING condition, and the fired flag, all under the mode
held before the event (R47, R48, R56). -/
def State.emissionAge (s : State) : State :=
  let age := satAdd 65535 1 s.eau.sampleAge
  let s1 := s.setEau { s.eau with
    sampleAge := age
    period := s.eau.period.map fun p => { p with fired := p.fired || s.plantMode == .firing } }
  if s.plantMode = .firing ∧ samplesStale s.limits age ∧ s.eau.staleInFiring = false then s1.beginStale else s1

/-- A change of the plant mode at the unit: leaving FIRING ends the condition, entering FIRING with stale samples begins it (R48,
R49). -/
def State.emissionMode (old : Mode) (s : State) : State :=
  if old = .firing ∧ s.plantMode ≠ .firing ∧ s.eau.staleInFiring then s.endStale
  else if old ≠ .firing ∧ s.plantMode = .firing ∧ samplesStale s.limits s.eau.sampleAge ∧ s.eau.staleInFiring = false then
    s.beginStale
  else s

/-! ## Half-hour records (R58 to R64) -/

/-- The closing average: present when the valid count is at or above V, the sum divided by n rounded half up (R59). -/
def closingAverage (copy : Option Limits) (a : Accumulator) : Option Nat :=
  match copy with
  | some l => if l.minValid ≤ a.valid then some ((a.sum + a.valid / 2) / a.valid) else none
  | none => none

/-- An average that is present and above a limit. -/
def above (limit : Nat) : Option Nat → Bool
  | some v => limit < v
  | none => false

/-- A channel's entry of the half-hour record (R59 to R61). -/
def halfHourChannel (p : OpenPeriod) (acc : PerPollutant Accumulator) (ch : Pollutant) : HalfHourChannel :=
  let a := acc.get ch
  let avg := closingAverage p.copy a
  { average := avg, valid := a.valid, cal := a.cal, fault := a.fault, maint := a.maint, maximum := a.maximum,
    saturated := a.saturated, highO2 := 0 < a.highO2,
    exceeded := match p.copy with
      | some l => p.fired && above (l.channels.get ch).limit avg
      | none => false }

/-- The half-hour record of a period (R61); STOP_CLOCK makes it partial and closed at stop (R62). -/
def halfHourRecord (p : OpenPeriod) (acc : PerPollutant Accumulator) (atStop : Bool) : HalfHourRecord :=
  { period := p.number, isPart := p.isPart || atStop, fired := p.fired, closedAtStop := atStop,
    serial := p.copy.map Limits.serial, expected := (p.copy.map Limits.expected).getD 0,
    channels := ⟨halfHourChannel p acc .dust, halfHourChannel p acc .hcl, halfHourChannel p acc .so2,
                 halfHourChannel p acc .nox, halfHourChannel p acc .co, halfHourChannel p acc .toc⟩ }

/-- A record placed on a ring of some depth as its newest; the oldest is dropped first when the ring is full (R63, R67). -/
def pushRing {α : Type} (depth : Nat) (ring : List α) (x : α) : List α :=
  (if ring.length < depth then ring else ring.drop (ring.length + 1 - depth)) ++ [x]

/-- Some channel of a half-hour record is EXCEEDED. -/
def HalfHourRecord.anyExceeded (r : HalfHourRecord) : Bool := r.channels.toList.any HalfHourChannel.exceeded

/-- PERIOD_CLOSED to PG, and EXCEEDANCE to PG and PD when a channel of the record is EXCEEDED (R64). -/
def State.postClose (r : HalfHourRecord) (s : State) : State :=
  ((s.post .periodClosed .pg).postIf r.anyExceeded .exceedance .pg).postIf r.anyExceeded .exceedance .pd

/-! ## Day records (R65 to R68) -/

/-- The day of a half-hour record (R61). -/
def HalfHourRecord.day (r : HalfHourRecord) : Nat := r.period / 48

/-- The present averages of a channel in the fired half-hours of a day (R66). -/
def dayAverages (ch : Pollutant) (rs : List HalfHourRecord) : List Nat :=
  rs.filterMap fun r => if r.fired then (r.channels.get ch).average else none

/-- A channel's entry of the day record (R66). -/
def dayChannel (copy : Option Limits) (rs : List HalfHourRecord) (ch : Pollutant) : DayChannel :=
  let xs := dayAverages ch rs
  let avg := match copy with
    | some l => if l.minHalves ≤ xs.length then some ((xs.sum + xs.length / 2) / xs.length) else none
    | none => none
  { halves := xs.length, average := avg,
    exceededCount := (rs.filter fun r => (r.channels.get ch).exceeded).length,
    exceeded := match copy with
      | some l => above (l.channels.get ch).dayLimit avg
      | none => false }

/-- The day record made from the half-hour records of one day under the closing period's copy (R65 to R67). -/
def dayRecord (copy : Option Limits) (day : Nat) (rs : List HalfHourRecord) : DayRecord :=
  { day := day, notOperated := rs.all fun r => !r.fired, held := rs.length, fired := (rs.filter fun r => r.fired).length,
    serial := copy.map Limits.serial,
    channels := ⟨dayChannel copy rs .dust, dayChannel copy rs .hcl, dayChannel copy rs .so2, dayChannel copy rs .nox,
                 dayChannel copy rs .co, dayChannel copy rs .toc⟩ }

/-- Some channel of a day record is EXCEEDED. -/
def DayRecord.anyExceeded (r : DayRecord) : Bool := r.channels.toList.any DayChannel.exceeded

/-- The close of the day of a period, and the notices of R68. -/
def State.closeDay (p : OpenPeriod) (s : State) : State :=
  let d := p.number / 48
  let r := dayRecord p.copy d (s.eau.halfHours.filter fun x => x.day == d)
  (((s.setEau { s.eau with days := pushRing 8 s.eau.days r }).post .dayClosed .pg).postIf r.anyExceeded .exceedance .pg).postIf
    r.anyExceeded .exceedance .pd

/-! ## Opening and closing periods (R54, R55, R58, R62) -/

/-- The record of the open period placed on the half-hour ring (R61, R63). -/
def State.recordPeriod (p : OpenPeriod) (atStop : Bool) (s : State) : State :=
  s.setEau { s.eau with halfHours := pushRing 48 s.eau.halfHours (halfHourRecord p s.eau.accounts atStop) }

/-- The accumulators cleared, a period opened or none, and the accounts handed to the envelope (R54, R58, R62). -/
def State.openPeriod (p : Option OpenPeriod) (s : State) : State :=
  (s.setEau { s.eau with accounts := accountsZero, period := p }).recompute

/-- The whole of a half-hour boundary at the unit after its second-event work, in the order of R58. -/
def State.closeHalfHour (dayBoundary : Bool) (s : State) : State :=
  let next : OpenPeriod :=
    { number := s.clock.latched.period, fired := false, isPart := false,
      copy := s.pst.pendingLimits.or s.limits }
  match s.eau.period with
  | none => s.openPeriod (some next)
  | some p =>
    let r := halfHourRecord p s.eau.accounts false
    let s1 := s.recordPeriod p false
    let s2 := if dayBoundary then s1.closeDay p else s1
    (s2.openPeriod (some next)).postClose r

/-- The unit at a second event: its second-event work, and at a half-hour boundary the close and the opening (R58). -/
def State.emissionSecond (halfHour dayBoundary : Bool) (s : State) : State :=
  if halfHour then s.emissionAge.closeHalfHour dayBoundary else s.emissionAge

/-- The period opened by START_CLOCK, marked partial, under the working LIMITS copy (R54). -/
def State.openAtStart (s : State) : State :=
  s.openPeriod (some { number := s.clock.latched.period, fired := false, isPart := true, copy := s.limits })

/-- The open period closed by STOP_CLOCK (R62). -/
def State.closeAtStop (s : State) : State :=
  match s.eau.period with
  | none => s.openPeriod none
  | some p => ((s.recordPeriod p true).openPeriod none).postClose (halfHourRecord p s.eau.accounts true)

end Sys2Proof.Machine
end

