-- ==== Sys2Proof/Machine/Modes.lean ====
section
/-! DEFINITION. The mode controller (chapter 02): the transitions of the plant mode with all that a change of mode brings about in
the other blocks, the firing entry check, and the events the controller takes. -/

namespace Sys2Proof.Machine

/-! ## A PLANT copy put in force (R159) -/

/-- A new working PLANT copy reaches the stroke timer array (R111) and the steam ledger (R135). The two commute, since the copy is
put in force only in a mode whose target is 0 (DEDUCED, safe: log entry 17). -/
def State.plantInForce (pl : Plant) (s : State) : State :=
  let s1 := s.setPst { s.pst with workingPlant := some pl }
  (s1.setSta (takePlant s1.plantMode s1.plant s1.sta)).ledgerTakePlant

/-- A held PLANT copy is put in force at a change of mode to BURNOUT or TRIPPED (R159). -/
def State.releaseHeldPlant (s : State) : State :=
  match s.pst.heldPlant with
  | some pl =>
    if s.plantMode = .burnout ∨ s.plantMode = .tripped then
      (s.setPst { s.pst with heldPlant := none }).plantInForce pl
    else s
  | none => s

/-! ## Transitions (R18) -/

/-- The controller's items after a change to a mode: the burner request goes with the mode (R19), the timer is 0 (R23), the
hold-cause set is empty outside HOLD, the feed stays armed in FIRING and HOLD alone, the trip record is absent outside TRIPPED. -/
def enterMode (new : Mode) (m : ModeCtl) : ModeCtl :=
  { m with mode := new, burner := burnerFor new, timer := 0, causes := .none,
           feedArmed := m.feedArmed && (new == .firing || new == .hold), trip := none }

/-- The change of mode as it reaches the other blocks: a held PLANT copy, the emission unit, the envelope, the stroke array. -/
def State.deliverMode (old : Mode) (s : State) : State :=
  let s1 := ((s.releaseHeldPlant).emissionMode old).retarget
  s1.setSta (takeMode s1.plantMode s1.plant s1.sta)

/-- A transition of the plant mode: the controller's new items, MODE to all three ports, and the change at the other blocks. -/
def State.changeMode (m : ModeCtl) (s : State) : State :=
  ((s.setMode m).postAll .mode).deliverMode s.mode.mode

/-- COLD to WARMING (R25), or any entry that brings nothing beyond `enterMode`. -/
def State.goTo (new : Mode) (s : State) : State := s.changeMode (enterMode new s.mode)

/-- Into HOLD with one cause (R27). -/
def State.goHold (c : HoldCauses) (s : State) : State := s.changeMode { enterMode .hold s.mode with causes := c }

/-- The second of the day of a clock time (R33). -/
def secondOfDay (t : ClockTime) : Nat := t.hour * 3600 + t.minute * 60 + t.second

/-- The trip record made at the entry into TRIPPED (R33). -/
def newTrip (c : TripCause) (t : ClockTime) : TripRecord := { cause := c, day := t.day, secondOfDay := secondOfDay t, count := 0 }

/-- Into TRIPPED with a cause (R31 to R33). -/
def State.goTripped (c : TripCause) (s : State) : State :=
  s.changeMode { enterMode .tripped s.mode with trip := some (newTrip c s.clock.latched.time) }

/-- A further trip cause while TRIPPED: the count goes up by one, saturating at 255 (R33). -/
def countTrip (m : ModeCtl) : ModeCtl :=
  { m with trip := m.trip.map fun t => { t with count := satAdd 255 1 t.count } }

/-! ## Firing entry check (R26, R28) -/

/-- The feed interlock of WARMING (R26). -/
def interlockMet (lim : Option Limits) (m : ModeCtl) : Bool :=
  m.feedArmed && qualified lim m && m.cleaning == .available && 1 ≤ m.rams

/-- The condition under which HOLD is left for FIRING (R28). -/
def holdOver (lim : Option Limits) (m : ModeCtl) : Bool := m.causes.isEmpty && qualified lim m

/-- The firing entry check, run at the end of every event taken in WARMING or HOLD, under a LIMITS copy. -/
def State.entryCheckWith (lim : Option Limits) (s : State) : State :=
  if (s.plantMode = .warming ∧ interlockMet lim s.mode) ∨ (s.plantMode = .hold ∧ holdOver lim s.mode) then s.goTo .firing else s

/-- The firing entry check under the working LIMITS copy. -/
def State.entryCheck (s : State) : State := s.entryCheckWith s.limits

/-! ## Conditions from the other blocks (R24, R27, R28) -/

/-- A hold condition arises: FIRING goes to HOLD with it alone, HOLD adds it to its set, other modes take nothing. -/
def State.holdArises (alone : HoldCauses) (add : HoldCauses → HoldCauses) (s : State) : State :=
  match s.plantMode with
  | .firing => s.goHold alone
  | .hold => s.setMode { s.mode with causes := add s.mode.causes }
  | _ => s

/-- A hold condition clears: HOLD removes it from its set. -/
def State.holdClears (remove : HoldCauses → HoldCauses) (s : State) : State :=
  if s.plantMode = .hold then s.setMode { s.mode with causes := remove s.mode.causes } else s

/-- The set holding CLEANING alone. -/
def onlyCleaning : HoldCauses := { HoldCauses.none with cleaning := true }

/-- The set holding NO_FEED alone. -/
def onlyNoFeed : HoldCauses := { HoldCauses.none with noFeed := true }

/-- The set holding LOW_TEMP alone. -/
def onlyLowTemp : HoldCauses := { HoldCauses.none with lowTemp := true }

/-- The set holding TEMP_STALE alone. -/
def onlyTempStale : HoldCauses := { HoldCauses.none with tempStale := true }

/-- A change of cleaning availability taken by the mode controller (R24). -/
def State.takeCleaning (a : Availability) (s : State) : State :=
  let s1 := s.setMode { s.mode with cleaning := a }
  (match a with
    | .unavailable => s1.holdArises onlyCleaning fun c => { c with cleaning := true }
    | .available => s1.holdClears fun c => { c with cleaning := false }).entryCheck

/-- A change of ram feed capability handed over by the stroke timer array: only one that passes between 0 and at least 1 (R24,
R105; DEDUCED, unsafe: log entry 18). -/
def State.handRams (before : Nat) (s : State) : State :=
  if before = 0 ↔ s.sta.rams = 0 then s
  else
    let s1 := s.setMode { s.mode with rams := s.sta.rams }
    (if s.sta.rams = 0 then s1.holdArises onlyNoFeed fun c => { c with noFeed := true }
      else s1.holdClears fun c => { c with noFeed := false }).entryCheck

/-! ## Temperature (R20 to R23) -/

/-- What a posted value below Tmin does in WARMING, FIRING and HOLD, and a value at or above it in HOLD (R20, R27, R28). -/
def State.compareTmin (l : Limits) (t : Nat) (s : State) : State :=
  match s.plantMode with
  | .warming => if t < l.tmin then s.setMode { s.mode with timer := 0 } else s
  | .firing => if t < l.tmin then s.goHold onlyLowTemp else s
  | .hold =>
    if t < l.tmin then
      s.setMode { s.mode with timer := 0, causes := { s.mode.causes with tempStale := false, lowTemp := true } }
    else s.setMode { s.mode with causes := { s.mode.causes with tempStale := false, lowTemp := false } }
  | _ => s

/-- A posted value compared with the LIMITS copy, by mode (the table of R20). -/
def State.compareTemperature (l : Limits) (t : Nat) (s : State) : State :=
  match s.plantMode with
  | .cold => s
  | .tripped => if l.tmax < t then s.setMode (countTrip s.mode) else s
  | .burnout => if l.tmax < t then s.goTripped .overTemp else if t < l.tcold then s.goTo .cold else s
  | _ => if l.tmax < t then s.goTripped .overTemp else s.compareTmin l t

/-- An accepted POST_TEMPERATURE: the record present and fresh, the comparison, the firing entry check (R20). While the LIMITS copy
is not valid nothing is compared (R22). The check also follows a post that removes LOW_TEMP or TEMP_STALE: it is met there only where a new
LIMITS copy let the timer count the dwell while the cause stood, a case beside R28's "never" (DESIGN CHOICE, unsafe: log entry 30). -/
def State.takeTemperature (t : Nat) (s : State) : State :=
  let s1 := s.setMode { s.mode with temp := some t, tempAge := 0 }
  (match s.limits with
    | some l => s1.compareTemperature l t
    | none => s1).entryCheck

/-- The controller's items after a second event in WARMING or HOLD: the timer counts a fresh temperature at or above Tmin and
becomes 0 on a stale one (R23). -/
def qualify (lim : Option Limits) (m : ModeCtl) : ModeCtl :=
  if tempStale lim m then { m with timer := 0 }
  else
    match lim with
    | some l => if tempFreshAtLeast lim m l.tmin then { m with timer := satAdd 60 1 m.timer } else m
    | none => m

/-- The mode controller's second event under a LIMITS copy: age, staleness, qualification, firing entry check (R21, R23, R26).
The age goes up while the record is absent too (DEDUCED, unsafe: log entry 19). -/
def State.modeSecond (lim : Option Limits) (s : State) : State :=
  let m := { s.mode with tempAge := satAdd 65535 1 s.mode.tempAge }
  let s1 := s.setMode m
  match s.plantMode with
  | .firing => if tempStale lim m then s1.goHold onlyTempStale else s1
  | .warming => (s.setMode (qualify lim m)).entryCheckWith lim
  | .hold =>
    (s.setMode (qualify lim { m with causes := { m.causes with tempStale := m.causes.tempStale || tempStale lim m } })).entryCheckWith
      lim
  | _ => s1

/-! ## The grate jam trip (R32, R102) -/

/-- A grate channel's second consecutive jam trips the plant in the modes in which grate channels run; no grate channel
strokes in the others (R95; DEDUCED, safe: log entry 21). -/
def State.grateJamTrip (s : State) : State :=
  match s.plantMode with
  | .firing => s.goTripped .grateJam
  | .hold => s.goTripped .grateJam
  | .burnout => s.goTripped .grateJam
  | _ => s

end Sys2Proof.Machine
end

