-- ==== Sys2Proof/Machine/ClockEvents.lean ====
section
/-! DEFINITION. The plant clock (chapter 01): the derived quantities, the latched copy, lead notices, and the second event with the
work that every block does at it. -/

namespace Sys2Proof.Machine

/-! ## Derived quantities (R4) -/

/-- (day + weekday offset) mod 7. -/
def weekdayOf (t : ClockTime) (offset : Nat) : Nat := (t.day + offset) % 7

/-- day × 48 + hour × 2 + 1 if the minute is 30 or more, else + 0. -/
def periodOf (t : ClockTime) : Nat := t.day * 48 + t.hour * 2 + (if 30 ≤ t.minute then 1 else 0)

/-- day × 1440 + hour × 60 + minute. -/
def minuteKeyOf (t : ClockTime) : Nat := t.day * 1440 + t.hour * 60 + t.minute

/-- 1800 − (minute mod 30) × 60 − second: the seconds to the next half-hour boundary. -/
def remainingOf (t : ClockTime) : Nat := 1800 - t.minute % 30 * 60 - t.second

/-- The latched copy that a clock gives (R5). -/
def latchedOf (c : Clock) : LatchedCopy :=
  { run := c.run, time := c.time, divisor := c.divisor, offset := c.offset, weekday := weekdayOf c.time c.offset,
    period := periodOf c.time, minuteKey := minuteKeyOf c.time, remaining := remainingOf c.time }

/-- The clock with its latched copy taken (R5). -/
def latch (c : Clock) : Clock := { c with latched := latchedOf c }

/-! ## Advance (R2) -/

/-- One second later, carrying into the larger counters; the day wraps after 65,535 (R2). -/
def advance (t : ClockTime) : ClockTime :=
  if t.second + 1 < 60 then { t with second := t.second + 1 }
  else if t.minute + 1 < 60 then { t with second := 0, minute := t.minute + 1 }
  else if t.hour + 1 < 24 then { t with second := 0, minute := 0, hour := t.hour + 1 }
  else { day := if t.day + 1 < 65536 then t.day + 1 else 0, hour := 0, minute := 0, second := 0 }

/-- The new time is at second 0: a minute event (R3). -/
def isMinute (t : ClockTime) : Bool := t.second == 0

/-- The new time is at minute 0 or 30, second 0: a half-hour boundary (R3). -/
def isHalfHour (t : ClockTime) : Bool := isMinute t && (t.minute == 0 || t.minute == 30)

/-- The new time is 00:00:00: a day boundary (R3). -/
def isDayBoundary (t : ClockTime) : Bool := isHalfHour t && t.hour == 0 && t.minute == 0

/-! ## Lead notices (R14, R15) -/

/-- One port's lead met when its value lies in a range of remaining times: LEAD is posted to the port and the lead disarmed. -/
def State.meetLead (lo hi : Nat) (p : Port) (s : State) : State :=
  if 0 < s.clock.leads.get p ∧ lo ≤ s.clock.leads.get p ∧ s.clock.leads.get p ≤ hi then
    (s.setClock { s.clock with leads := s.clock.leads.set p 0 }).post .lead p
  else s

/-- Every port's lead that lies in a range of remaining times met. -/
def State.meetLeads (lo hi : Nat) (s : State) : State := ((s.meetLead lo hi .pf).meetLead lo hi .pg).meetLead lo hi .pd

/-! ## The second event (R2, R3) -/

/-- The parts of a second event whose order among the blocks the manual leaves open: the emission unit, the envelope unit, the
pending copies taking effect at a boundary, the ledger's activation at a minute event, and the mode controller with the change of
mode it makes. -/
inductive SubEvent where
  | emission | envelope | install | activation | mode
deriving DecidableEq, Repr

/-- The orders of the first four kinds without the activation. The mode change reaches the emission and envelope units after their
own work (R56, R86), and an envelope second event taken before the emission unit's hand-over is taken before the installation too
(R83: it rises by the old R toward the old computed cap). DEDUCED, unsafe: log entry 24. -/
def orderBases : List (List SubEvent) :=
  [[.emission, .envelope, .install, .mode], [.emission, .envelope, .mode, .install], [.emission, .install, .envelope, .mode],
   [.envelope, .emission, .install, .mode], [.envelope, .emission, .mode, .install], [.envelope, .install, .emission, .mode],
   [.install, .emission, .envelope, .mode]]

/-- The activation placed at a position of an order. -/
def insertActivation (pos : Nat) (order : List SubEvent) : List SubEvent := order.take pos ++ .activation :: order.drop pos

/-- A choice of everything that the manual leaves open about one second event: the order, whether the ledger's own second-event
work is taken before the other blocks' or after them (R129), and whether the mode controller sees the LIMITS copy in force before the
event (R22). -/
structure EventOrder where
  order       : List SubEvent
  ledgerFirst : Bool
  modeSeesOld : Bool
deriving DecidableEq, Repr

/-- The choice that a free value spells. -/
def eventOrder (free : Nat) : EventOrder :=
  { order := insertActivation (free / 7 % 5) (orderBases.getD (free % 7) []),
    ledgerFirst := free / 35 % 2 == 0, modeSeesOld := free / 70 % 2 == 0 }

/-- Pending LIMITS and TARIFF copies becoming the working copies at a half-hour boundary, and the LIMITS copy reaching the envelope
unit (R83, R159). -/
def State.installPending (s : State) : State :=
  let s1 := match s.pst.pendingTariff with
    | some t => s.setPst { s.pst with workingTariff := some t, pendingTariff := none }
    | none => s
  match s1.pst.pendingLimits with
  | some l => (s1.setPst { s1.pst with workingLimits := some l, pendingLimits := none }).installLimits
  | none => s1

/-- The ledger's minute event: at the wrap of the day count the keys brought back, then activation (R124, R127). -/
def State.ledgerMinute (wrapped : Bool) (s : State) : State :=
  let s1 := if wrapped then s.setSlg { s.slg with queue := rekey s.slg.queue } else s
  s1.runActivation s1.clock.latched.minuteKey

/-- What a second event is: the time it reaches, whether the day count wrapped, and the LIMITS copy in force before it. -/
structure EventKind where
  time    : ClockTime
  wrapped : Bool
  before  : Option Limits
deriving DecidableEq, Repr

/-- One part of a second event, as the kind of event asks for it (R3). -/
def State.subEvent (k : EventKind) (modeSeesOld : Bool) (e : SubEvent) (s : State) : State :=
  match e with
  | .emission => s.emissionSecond (isHalfHour k.time) (isDayBoundary k.time)
  | .envelope => s.envelopeSecond
  | .install => if isHalfHour k.time then s.installPending else s
  | .activation => if isMinute k.time then s.ledgerMinute k.wrapped else s
  | .mode => s.modeSecond (if modeSeesOld then k.before else s.limits)

/-- The parts of a second event in an order. -/
def State.subEvents (k : EventKind) (modeSeesOld : Bool) (order : List SubEvent) (s : State) : State :=
  order.foldl (fun s e => s.subEvent k modeSeesOld e) s

/-- The work of the blocks at a second event under a choice of the open order. -/
def State.blocksSecond (k : EventKind) (o : EventOrder) (s : State) : State :=
  if o.ledgerFirst then (s.ledgerSecond).subEvents k o.modeSeesOld o.order
  else (s.subEvents k o.modeSeesOld o.order).ledgerSecond

/-- The clock's own work at a second event: the scaler at 0, the time advanced, the latched copy taken (R1, R2, R5). -/
def tickClock (c : Clock) : Clock := latch { c with scaler := 0, time := advance c.time }

/-- The second event of a running clock (R2, R3): the clock, the lead notices (R15), then every block that answers it, in an order
drawn as a free value. -/
def State.secondEvent (s : State) : State :=
  let k : EventKind :=
    { time := advance s.clock.time, wrapped := decide (s.clock.time.day = 65535) && (advance s.clock.time).day == 0,
      before := s.limits }
  let s1 := s.setClock (tickClock s.clock)
  let s2 := s1.meetLeads s1.clock.latched.remaining s1.clock.latched.remaining
  (s2.draw.2).blocksSecond k (eventOrder (Config.secondEventOrder s2.draw.1))

end Sys2Proof.Machine
end

