-- ==== Sys2Proof/Machine/Meters.lean ====
section
/-! DEFINITION. The fiscal meter unit (chapter 08): digit arithmetic, the tariff band, the residue path, the pending accumulators,
and the loading of the totals. -/

namespace Sys2Proof.Machine

/-! ## Digits (R139, R144) -/

/-- The `k` low decimal digits of a number, by repeated division by ten, least significant first (R144). -/
def toDigits : (k n : Nat) → Digits
  | 0, _ => []
  | k + 1, n => n % 10 :: toDigits k (n / 10)

/-- Digit by digit addition with carry, least significant first: the digits and the carry out of the last position (R144). -/
def addDigits : Digits → Digits → (carry : Nat) → Digits × Nat
  | [], _, c => ([], c)
  | a :: as, bs, c =>
    let sum := a + bs.headD 0 + c
    let rest := addDigits as (bs.drop 1) (if sum < 10 then 0 else 1)
    ((if sum < 10 then sum else sum - 10) :: rest.1, rest.2)

/-- The digits of a total after an increment; a carry out of the twelfth digit is dropped (R144). -/
def addTotal (d : Digits) (n : Nat) : Digits := (addDigits d (toDigits 12 n) 0).1

/-- The increment carries out of the twelfth digit of a total (R144). -/
def wraps (d : Digits) (n : Nat) : Bool := (addDigits d (toDigits 12 n) 0).2 == 1

/-- Two totals added modulo 10^12 (R147 check 4). -/
def sumTotals (a b : Digits) : Digits := (addDigits a b 0).1

/-! ## The tariff band (R141) -/

/-- The slot of a latched copy, 0 to 47. -/
def slotOf (c : LatchedCopy) : Nat := c.time.hour * 2 + (if 30 ≤ c.time.minute then 1 else 0)

/-- The day type of a latched copy under a holiday list: 1 on a holiday and on weekdays 5 and 6, else 0. -/
def dayTypeOf (holidays : List Nat) (c : LatchedCopy) : Nat :=
  if holidays.contains c.time.day || c.weekday == 5 || c.weekday == 6 then 1 else 0

/-- The band table of a day type. -/
def Tariff.table (t : Tariff) (dayType : Nat) : List Nat := if dayType = 0 then t.working else t.holiday

/-- The holiday list of the working TARIFF copy; while that copy is not valid there is none, and the day type that READ_METERS reports
follows from the weekday alone (DESIGN CHOICE, unsafe: log entry 29). -/
def State.holidays (s : State) : List Nat := (s.pst.workingTariff.map Tariff.holidayList).getD []

/-- The band is forced to 0: the TARIFF copy is not valid, or the clock is STOPPED (R141). -/
def State.bandForced (s : State) : Bool := s.pst.workingTariff.isNone || s.clock.latched.run == .stopped

/-- The band of an increment that arrives now (R141). -/
def State.band (s : State) : Nat :=
  match s.pst.workingTariff with
  | some t =>
    if s.clock.latched.run = .stopped then 0
    else (t.table (dayTypeOf t.holidayList s.clock.latched)).getD (slotOf s.clock.latched) 0
  | none => 0

/-- Where an increment that arrives now is taken (R142, R145). -/
def State.additionPlace (s : State) : LastAddition := { band := s.band, period := s.clock.latched.period }

/-! ## The residue path (R143) -/

/-- The whole kilowatt-hours that a figure makes with the meter's residue. -/
def energyIncrement (w : Nat) (m : EnergyMeter) : Nat := (m.residue + w) / 1000

/-- A figure through the residue path of a meter into a band: band total, grand total, residue and WRAPPED flag (R143, R144). -/
def residuePath (band w : Nat) (m : EnergyMeter) : EnergyMeter :=
  let n := energyIncrement w m
  { m with
    bands := m.bands.set band (addTotal (m.bands.get band) n)
    grand := addTotal m.grand n
    residue := m.residue + w - n * 1000
    wrapped := m.wrapped || wraps (m.bands.get band) n || wraps m.grand n }

/-- Some total wraps when a figure passes through the residue path. -/
def residueWraps (band w : Nat) (m : EnergyMeter) : Bool :=
  wraps (m.bands.get band) (energyIncrement w m) || wraps m.grand (energyIncrement w m)

/-- A mass added to the WASTE grand total (R145). -/
def addWaste (kg : Nat) (m : WasteMeter) : WasteMeter :=
  { m with grand := addTotal m.grand kg, wrapped := m.wrapped || wraps m.grand kg }

/-! ## Collecting while UNSET (R146) -/

/-- The largest value of a pending accumulator. -/
def waitTop : Nat := 4294967295

/-- A figure collected in the accumulator of a band. -/
def collect (band w : Nat) (m : EnergyMeter) : EnergyMeter :=
  { m with waiting := m.waiting.set band (satAdd waitTop w (m.waiting.get band)) }

/-- The accumulator of a band would pass its largest value. -/
def collectSaturates (band w : Nat) (m : EnergyMeter) : Bool := waitTop < m.waiting.get band + w

/-! ## Arrivals -/

/-- An energy record booked at its arrival (R142). -/
def State.bookEnergy (exported heat : Nat) (s : State) : State :=
  let b := s.band
  let at' := some s.additionPlace
  match s.fmu.state with
  | .running =>
    (s.setFmu { s.fmu with
      exported := { residuePath b exported s.fmu.exported with last := at' }
      heat := { residuePath b heat s.fmu.heat with last := at' } }).postIf
      (residueWraps b exported s.fmu.exported || residueWraps b heat s.fmu.heat) .meterWrap .pd
  | .unset =>
    s.setFmu { s.fmu with
      exported := { collect b exported s.fmu.exported with last := at' }
      heat := { collect b heat s.fmu.heat with last := at' }
      pendingSat := s.fmu.pendingSat || collectSaturates b exported s.fmu.exported || collectSaturates b heat s.fmu.heat }

/-- A ram mass taken at a completed stroke (R100, R145, R146). -/
def State.bookWaste (kg : Nat) (s : State) : State :=
  let at' := some s.additionPlace
  match s.fmu.state with
  | .running =>
    (s.setFmu { s.fmu with waste := { addWaste kg s.fmu.waste with last := at' } }).postIf (wraps s.fmu.waste.grand kg) .meterWrap .pd
  | .unset =>
    s.setFmu { s.fmu with
      waste := { s.fmu.waste with waiting := satAdd waitTop kg s.fmu.waste.waiting, last := at' }
      pendingSat := s.fmu.pendingSat || decide (waitTop < s.fmu.waste.waiting + kg) }

/-! ## Loading the totals (R147 to R149) -/

/-- The eleven totals of RESTORE_METERS or of FRESH_METERS. -/
structure MeterTotals where
  exported      : PerBand Digits
  exportedGrand : Digits
  heat          : PerBand Digits
  heatGrand     : Digits
  waste         : Digits
deriving DecidableEq, Repr

/-- The totals that RESTORE_METERS carries. -/
def totalsOf (a : MeterArgs) : MeterTotals :=
  { exported := ⟨nibbles a.exported0, nibbles a.exported1, nibbles a.exported2, nibbles a.exported3⟩,
    exportedGrand := nibbles a.exportedGrand,
    heat := ⟨nibbles a.heat0, nibbles a.heat1, nibbles a.heat2, nibbles a.heat3⟩, heatGrand := nibbles a.heatGrand,
    waste := nibbles a.waste }

/-- The totals of a fresh start (R148). -/
def totalsZero : MeterTotals :=
  { exported := ⟨zeroTotal, zeroTotal, zeroTotal, zeroTotal⟩, exportedGrand := zeroTotal,
    heat := ⟨zeroTotal, zeroTotal, zeroTotal, zeroTotal⟩, heatGrand := zeroTotal, waste := zeroTotal }

/-- The sum of the four band totals modulo 10^12. -/
def bandSum (b : PerBand Digits) : Digits := sumTotals (sumTotals (sumTotals b.band0 b.band1) b.band2) b.band3

/-- The first meter whose band totals do not sum to its grand total: 0 for EXPORT, 1 for HEAT (R147 check 4). -/
def mismatchOf (t : MeterTotals) : Option Nat :=
  if bandSum t.exported ≠ t.exportedGrand then some 0 else if bandSum t.heat ≠ t.heatGrand then some 1 else none

/-- A meter with its totals loaded, its residue 0 and its WRAPPED flag clear; the accumulators and the last addition stay. -/
def loadEnergy (bands : PerBand Digits) (grand : Digits) (m : EnergyMeter) : EnergyMeter :=
  { m with bands := bands, grand := grand, residue := 0, wrapped := false }

/-- One band's accumulator passed through the residue path and emptied (R149). -/
def foldBand (m : EnergyMeter) (band : Nat) : EnergyMeter :=
  let r := residuePath band (m.waiting.get band) m
  { r with waiting := r.waiting.set band 0 }

/-- The four accumulators of a meter folded, bands 0 to 3 in turn (R149). -/
def foldEnergy (m : EnergyMeter) : EnergyMeter := foldBand (foldBand (foldBand (foldBand m 0) 1) 2) 3

/-- The kilowatt-hours that the fold of a meter with residue 0 adds to its grand total: each carries the residue to the next, so
together they are the whole kilowatt-hours of the four accumulators (R143). -/
def foldedKwh (m : EnergyMeter) : Nat :=
  (m.waiting.band0 + m.waiting.band1 + m.waiting.band2 + m.waiting.band3) / 1000

/-- The WASTE accumulator folded (R149). -/
def foldWaste (m : WasteMeter) : WasteMeter := { addWaste m.waiting m with waiting := 0 }

/-- The meters after the acceptance of RESTORE_METERS or FRESH_METERS: loaded, RUNNING and folded (R147 to R149). -/
def loadMeters (t : MeterTotals) (m : Meters) : Meters :=
  { m with
    state := .running
    exported := foldEnergy (loadEnergy t.exported t.exportedGrand m.exported)
    heat := foldEnergy (loadEnergy t.heat t.heatGrand m.heat)
    waste := foldWaste { m.waste with grand := t.waste, wrapped := false } }

/-- The meters loaded, and METER_WRAP to PD when the fold wraps a total: every WRAPPED flag starts the fold clear (R144, R149). -/
def State.loadTotals (t : MeterTotals) (s : State) : State :=
  let m := loadMeters t s.fmu
  (s.setFmu m).postIf (m.exported.wrapped || m.heat.wrapped || m.waste.wrapped) .meterWrap .pd

end Sys2Proof.Machine
end

