-- ==== Sys2Proof/Machine/Replies.lean ====
section
/-! DEFINITION. The replies: their status codes, frames and layouts (R163, R165, R168), and the read commands with the data that each
returns. A field takes the fewest whole bytes that hold its range, a flag or an enumerated value one byte, and an absent optional
field its present flag and zeros (R165). The layouts where the manual's field lists leave a choice are
DESIGN CHOICE, unsafe: log entry 12. -/

namespace Sys2Proof.Machine

/-! ## Statuses and frames -/

/-- The status codes of R165. -/
def Status.code : Status → Nat
  | .ok => 0x00
  | .clamped => 0x01
  | .replaced => 0x02
  | .noReply => 0x03
  | .badCrc => 0x10
  | .badLen => 0x11
  | .unknownOp => 0x12
  | .frameTimeout => 0x13
  | .linkError => 0x14
  | .notOwner => 0x20
  | .range => 0x21
  | .state => 0x22
  | .noTime => 0x23
  | .duplicate => 0x24
  | .full => 0x25
  | .tooSoon => 0x26
  | .boundary => 0x27
  | .periodUsed => 0x28
  | .locked => 0x29
  | .busy => 0x2A
  | .noLatch => 0x2B
  | .badImage => 0x2C
  | .gone => 0x2D
  | .badDigit => 0x2E
  | .mismatch => 0x2F

/-- A reply that carries no data. -/
def Reply.plain (status : Status) : Reply := ⟨status, []⟩

/-- The reply of a command that was carried out, CLAMPED where a value was clamped (00, "Refusals, clamps and job conditions"). -/
def Reply.done (clamped : Bool) : Reply := .plain (if clamped then .clamped else .ok)

/-- The reply frame of R163. -/
def Reply.frame (r : Reply) : List Byte :=
  withCrc (BitVec.ofNat 8 r.status.code :: (be 2 r.data.length ++ r.data))

/-- The byte that a port shifts out at a position of a transaction: the output buffer from its first byte, then 0xFF (R168). -/
def sdo (c : PortCtl) (position : Nat) : Byte :=
  match c.output with
  | some r => r.frame.getD position 0xFF#8
  | none => 0xFF#8

/-! ## Fields -/

/-- A flag (R166). -/
def flag (b : Bool) : List Byte := be 1 b.toNat

/-- An optional field: its present flag and its value, zeros where it is absent (R165). -/
def optional (width : Nat) (x : Option Nat) : List Byte := flag x.isSome ++ be width (x.getD 0)

/-- AVAILABLE 1, UNAVAILABLE 0 (R166). -/
def Availability.code : Availability → Nat
  | .unavailable => 0
  | .available => 1

/-- STOPPED 0, RUNNING 1 (R165). -/
def RunState.code : RunState → Nat
  | .stopped => 0
  | .running => 1

/-- COLD 0, WARMING 1, FIRING 2, HOLD 3, BURNOUT 4, TRIPPED 5 (R165). -/
def Mode.code : Mode → Nat
  | .cold => 0
  | .warming => 1
  | .firing => 2
  | .hold => 3
  | .burnout => 4
  | .tripped => 5

/-- PF 0, PG 1, PD 2, INTERNAL 3 (R165). -/
def TripCause.sourceCode : TripCause → Nat
  | .byPort p _ => p.id
  | .overTemp => 3
  | .grateJam => 3
  | .reset => 3

/-- The controller's code, or OVER_TEMP 1, GRATE_JAM 2, RESET 3 under source INTERNAL (R165). -/
def TripCause.code : TripCause → Nat
  | .byPort _ c => c
  | .overTemp => 1
  | .grateJam => 2
  | .reset => 3

/-- OFF 0, WAIT 1, DWELL 2, STROKE 3, JAMMED 4 (R165). -/
def ChannelState.code : ChannelState → Nat
  | .off => 0
  | .wait => 1
  | .dwell => 2
  | .stroke => 3
  | .jammed => 4

/-- AUTO 0, FIXED 1 (R166). -/
def Source.code : Source → Nat
  | .auto => 0
  | .fixed => 1

/-- POWER_FIRST 0, HEAT_FIRST 1 (R166). -/
def Priority.code : Priority → Nat
  | .powerFirst => 0
  | .heatFirst => 1

/-- UNSET 0, RUNNING 1 (R165). -/
def MeterState.code : MeterState → Nat
  | .unset => 0
  | .running => 1

/-- BLANK 0, VALID 1, CORRUPT 2, LOCKED 3 (R165). -/
def SectionState.code : SectionState → Nat
  | .blank => 0
  | .valid => 1
  | .corrupt => 2
  | .locked => 3

/-- ACTIVE 0, QUIET 1 (R165). -/
def LinkState.code : LinkState → Nat
  | .active => 0
  | .quiet => 1

/-! ## The clock and the mode -/

/-- The data of READ_CLOCK (R6). -/
def clockData (c : Clock) : List Byte :=
  let l := c.latched
  be 1 l.run.code ++ be 2 l.time.day ++ be 1 l.time.hour ++ be 1 l.time.minute ++ be 1 l.time.second ++ be 1 l.weekday
    ++ be 1 l.offset ++ be 3 l.divisor ++ be 3 l.period ++ be 4 l.minuteKey ++ be 2 l.remaining ++ be 2 c.leads.pf
    ++ be 2 c.leads.pg ++ be 2 c.leads.pd

/-- The trip record behind its present flag (R35). -/
def tripData : Option TripRecord → List Byte
  | some t => flag true ++ be 1 t.cause.sourceCode ++ be 1 t.cause.code ++ be 2 t.day ++ be 3 t.secondOfDay ++ be 1 t.count
  | none => flag false ++ be 8 0

/-- The data of READ_MODE (R35). -/
def modeData (lim : Option Limits) (m : ModeCtl) : List Byte :=
  be 1 m.mode.code ++ flag m.causes.lowTemp ++ flag m.causes.tempStale ++ flag m.causes.cleaning ++ flag m.causes.noFeed
    ++ flag m.feedArmed ++ flag m.burner ++ be 1 m.timer ++ flag (qualified lim m) ++ optional 2 m.temp ++ be 2 m.tempAge
    ++ flag (tempStale lim m) ++ be 1 m.rams ++ be 1 m.cleaning.code ++ tripData m.trip

/-! ## The emission accounts and the history -/

/-- A channel's running accounts (R53). -/
def accumulatorData (a : Accumulator) : List Byte :=
  be 4 a.sum ++ be 2 a.valid ++ be 2 a.cal ++ be 2 a.fault ++ be 2 a.maint ++ be 2 a.highO2 ++ be 3 a.maximum
    ++ flag a.saturated ++ be 3 (runningAverage a)

/-- The open period behind its flag (R53). -/
def periodData : Option OpenPeriod → List Byte
  | some p => flag true ++ be 3 p.number ++ flag p.fired ++ flag p.isPart ++ optional 2 (p.copy.map Limits.serial)
  | none => flag false ++ be 8 0

/-- The last-accepted-second marker behind its present flag (R53). -/
def markerData : Option ClockTime → List Byte
  | some t => flag true ++ be 2 t.day ++ be 1 t.hour ++ be 1 t.minute ++ be 1 t.second
  | none => flag false ++ be 5 0

/-- A reagent's availability and base demand (R53, R91). -/
def reagentData (r : ReagentSetting) : List Byte := be 1 r.availability.code ++ be 2 r.base

/-- The data of READ_ACCUMULATORS (R53). -/
def accumulatorsData (lim : Option Limits) (e : Emission) : List Byte :=
  periodData e.period ++ e.accounts.toList.flatMap accumulatorData ++ be 2 e.sampleAge ++ flag (samplesStale lim e.sampleAge)
    ++ flag e.staleInFiring ++ markerData e.marker ++ be 1 e.cleaning.code ++ e.reagents.toList.flatMap reagentData

/-- A channel's entry of a half-hour record (R61). -/
def halfHourChannelData (c : HalfHourChannel) : List Byte :=
  optional 3 c.average ++ be 2 c.valid ++ be 2 c.cal ++ be 2 c.fault ++ be 2 c.maint ++ be 3 c.maximum ++ flag c.saturated
    ++ flag c.highO2 ++ flag c.exceeded

/-- A half-hour record (R61). -/
def halfHourData (r : HalfHourRecord) : List Byte :=
  be 3 r.period ++ flag r.isPart ++ flag r.fired ++ flag r.closedAtStop ++ optional 2 r.serial ++ be 2 r.expected
    ++ r.channels.toList.flatMap halfHourChannelData

/-- A channel's entry of a day record (R67). -/
def dayChannelData (c : DayChannel) : List Byte :=
  be 1 c.halves ++ optional 3 c.average ++ be 1 c.exceededCount ++ flag c.exceeded

/-- A day record (R67). -/
def dayData (r : DayRecord) : List Byte :=
  be 2 r.day ++ flag r.notOperated ++ be 1 r.held ++ be 1 r.fired ++ optional 2 r.serial ++ r.channels.toList.flatMap dayChannelData

/-- What a scan of a ring finds: the oldest record lies above the number asked for, or the records returned (R69, R70). -/
def scanRing {α : Type} (number : α → Nat) (ring : List α) (from' count : Nat) : Option (List α) :=
  match ring with
  | [] => some []
  | oldest :: _ =>
    if from' < number oldest then none else some ((ring.dropWhile fun r => number r < from').take count)

/-- A reply from a ring: the number held, the oldest and newest numbers, the number returned, and the records (R69, R71). -/
def ringReply {α : Type} (width : Nat) (number : α → Nat) (encode : α → List Byte) (ring : List α) (from' count : Nat) : Reply :=
  let figures := be 1 ring.length ++ be width ((ring.head?.map number).getD 0) ++ be width ((ring.getLast?.map number).getD 0)
  match scanRing number ring from' count with
  | none => ⟨.gone, figures ++ be 1 0⟩
  | some found => ⟨.ok, figures ++ be 1 found.length ++ found.flatMap encode⟩

/-- The largest period number (R4). -/
def lastPeriod : Nat := 3145727

/-- The count of READ_HISTORY and READ_DAYS is 1 to 8 (R69, R71). -/
def countInRange (count : Byte) : Bool := 1 ≤ count.toNat && count.toNat ≤ 8

/-- READ_HISTORY (R69). -/
def historyReply (ring : List HalfHourRecord) (period : BitVec 24) (count : Byte) : Reply :=
  if lastPeriod < period.toNat then .plain .range
  else if countInRange count then ringReply 3 HalfHourRecord.period halfHourData ring period.toNat count.toNat
  else .plain .range

/-- READ_DAYS (R71). -/
def daysReply (ring : List DayRecord) (day : BitVec 16) (count : Byte) : Reply :=
  if countInRange count then ringReply 2 DayRecord.day dayData ring day.toNat count.toNat else .plain .range

/-! ## The envelope, the strokes, the ledger and the meters -/

/-- A channel's figures of the last recomputation (R90). -/
def figureData (f : CapFigure) : List Byte := be 2 f.ratio ++ flag f.takesPart ++ be 2 f.cap

/-- The data of READ_ENVELOPE (R90). -/
def envelopeData (lim : Option Limits) (pl : Option Plant) (stale : Bool) (e : Envelope) : List Byte :=
  be 2 e.request ++ be 2 e.boilerLimit ++ be 2 e.computedCap ++ be 2 e.effectiveCap ++ be 2 e.target ++ be 2 e.grant
    ++ flag e.limiting ++ optional 1 (e.capping.map Pollutant.id) ++ flag stale ++ e.figures.toList.flatMap figureData
    ++ optional 2 (lim.map Limits.serial) ++ be 2 ((lim.map Limits.floor).getD 0) ++ be 1 ((lim.map Limits.recovery).getD 0)
    ++ be 1 ((pl.map Plant.grantRamp).getD 0)

/-- One reagent's part of READ_DEMAND (R91). -/
def demandData (r : ReagentSetting) (d : ReagentDemand) : List Byte :=
  reagentData r ++ be 2 d.demand ++ optional 2 (d.driving.map Prod.fst) ++ optional 1 (d.driving.map fun x => x.2.id)

/-- The data of READ_DEMAND (R91). -/
def demandsData (e : Emission) (f : Envelope) : List Byte :=
  demandData e.reagents.sorbent f.demand.sorbent ++ demandData e.reagents.carbon f.demand.carbon
    ++ demandData e.reagents.reductant f.demand.reductant

/-- The waiting flag of READ_CHANNELS: an AUTO ram whose lane grant is below the cutoff, clear while PLANT is not valid (R114). -/
def waitingFlag (pl : Option Plant) (a : StrokeArray) (ch : StrokeChannel) (r : StrokeRecord) : Bool :=
  pl.isSome && mustWait a ch r

/-- One channel's part of READ_CHANNELS (R114). The computed period of an AUTO ram below the cutoff, which has none (R107), is sent as
0, as R114 has it for a PLANT copy that is not valid (DESIGN CHOICE, unsafe: log entry 28). -/
def strokeData (mode : Mode) (pl : Option Plant) (a : StrokeArray) (ch : StrokeChannel) : List Byte :=
  let r := a.channels.get ch
  be 1 r.state.code ++ flag r.enabled ++ be 1 r.source.code ++ be 2 r.fixedPeriod ++ be 2 r.period ++ be 2 r.limit
    ++ be 2 r.counter ++ optional 2 r.preload ++ be 2 r.capture ++ be 1 r.jamCount ++ be 4 r.strokeCount
    ++ be 2 ((computedPeriod mode pl a ch r).getD 0) ++ flag (waitingFlag pl a ch r)

/-- The data of READ_CHANNELS (R114). -/
def channelsData (mode : Mode) (pl : Option Plant) (a : StrokeArray) : List Byte :=
  be 2 a.grant ++ be 2 a.split ++ be 2 a.laneA ++ be 2 a.laneB ++ be 2 a.massA ++ be 2 a.massB ++ be 1 a.rams
    ++ StrokeChannel.all.flatMap (strokeData mode pl a)

/-- The data of READ_LEDGER (R136). -/
def ledgerData (pl : Option Plant) (l : Ledger) : List Byte :=
  be 2 l.steam ++ flag l.present ++ be 2 l.age ++ flag l.stale ++ be 2 l.aux ++ be 1 l.turbine.code ++ be 1 l.extraction.code
    ++ be 2 l.powerTarget ++ be 2 l.heatTarget ++ be 2 l.powerSetpoint ++ be 2 l.heatSetpoint ++ be 1 (priorityOf l).code
    ++ be 1 (rampOf l) ++ flag l.active.isNone ++ be 2 l.alloc.aux ++ be 2 l.alloc.power ++ be 2 l.alloc.heat
    ++ be 2 l.alloc.dump ++ be 3 l.shortfall ++ flag l.dumpOver ++ be 2 l.request ++ be 2 ((pl.map Plant.snom).getD 0)
    ++ be 2 ((pl.map Plant.auxMax).getD 0) ++ be 2 ((pl.map Plant.heatMax).getD 0) ++ be 2 ((pl.map Plant.dumpCap).getD 0)
    ++ be 1 ((pl.map Plant.steamStale).getD 0)

/-- An order record in the layout of R166. -/
def orderData (o : Order) : List Byte :=
  be 2 o.tag ++ optional 2 o.day ++ be 1 o.hour ++ be 1 o.minute ++ be 2 o.power ++ be 2 o.heat ++ be 1 o.priority.code
    ++ be 1 o.ramp

/-- The active order behind its present flag (R137). -/
def activeData : Option Order → List Byte
  | some o => flag true ++ orderData o
  | none => flag false ++ be 13 0

/-- The data of READ_ORDERS (R137). -/
def ordersData (now : Nat) (l : Ledger) : List Byte :=
  be 4 now ++ activeData l.active ++ be 1 l.queue.length ++ l.queue.flatMap fun q => be 4 q.key ++ orderData q.order

/-- The bytes of packed decimal of digits, most significant first: two digits to a byte (R165, 9.1). -/
def packedDecimal : Digits → List Byte
  | lo :: hi :: rest => packedDecimal rest ++ [BitVec.ofNat 8 (hi * 16 + lo)]
  | _ => []

/-- The EXPORT or the HEAT meter's part of READ_METERS (R150). -/
def energyData (m : EnergyMeter) : List Byte :=
  m.bands.toList.flatMap packedDecimal ++ packedDecimal m.grand ++ be 2 m.residue ++ flag m.wrapped
    ++ m.waiting.toList.flatMap (be 4)

/-- A last-addition record behind its present flag (R150). -/
def additionData : Option LastAddition → List Byte
  | some a => flag true ++ be 1 a.band ++ be 3 a.period
  | none => flag false ++ be 4 0

/-- The data of READ_METERS (R150). -/
def metersData (s : State) : List Byte :=
  let m := s.fmu
  be 1 m.state.code ++ flag m.pendingSat ++ energyData m.exported ++ energyData m.heat ++ packedDecimal m.waste.grand
    ++ flag m.waste.wrapped ++ be 4 m.waste.waiting ++ additionData m.exported.last ++ additionData m.heat.last
    ++ additionData m.waste.last ++ be 1 s.band ++ be 1 (slotOf s.clock.latched) ++ be 1 (dayTypeOf s.holidays s.clock.latched)
    ++ flag s.bandForced

/-! ## The permit store -/

/-- A section as the store holds it. -/
def PermitStore.stored (p : PermitStore) : PermitSection → StoredSection
  | .limits => p.limits
  | .plant => p.plant
  | .tariff => p.tariff

/-- The serial of the stored LIMITS image: absent when BLANK, and for a CORRUPT section present or not by a free choice (R162; log
entry 4). -/
def storedSerial (x : StoredSection) : Option Nat :=
  match x.state with
  | .blank => none
  | .corrupt => if Config.corruptSerialPresent then some (imageSerial x.image) else none
  | .valid => some (imageSerial x.image)
  | .locked => some (imageSerial x.image)

/-- The store activity, with the section, the operation (PROGRAM 0, LOCK 1) and the port when BUSY (R162). -/
def activityData : StoreActivity → List Byte
  | .idle => be 4 0
  | .programming sec p _ => be 1 1 ++ be 1 sec.id ++ be 1 0 ++ be 1 p.id
  | .locking sec p => be 1 1 ++ be 1 sec.id ++ be 1 1 ++ be 1 p.id

/-- The data of STORE_STATUS (R162). -/
def storeData (p : PermitStore) : List Byte :=
  be 1 p.limits.state.code ++ flag p.workingLimits.isSome ++ flag p.pendingLimits.isSome ++ be 1 p.plant.state.code
    ++ flag p.workingPlant.isSome ++ be 1 p.tariff.state.code ++ flag p.workingTariff.isSome ++ flag p.pendingTariff.isSome
    ++ flag p.heldPlant.isSome ++ optional 2 (storedSerial p.limits) ++ optional 2 (p.workingLimits.map Limits.serial)
    ++ optional 2 (p.pendingLimits.map Limits.serial) ++ activityData p.activity ++ p.latches.toList.flatMap flag

/-- The image that a selector selects, where there is one (R162). -/
def selectedImage (p : PermitStore) (sec : PermitSection) (sel : Selector) : Option (List Byte) :=
  match sel, sec with
  | .stored, sec => if (p.stored sec).state = .blank then none else some (p.stored sec).image
  | .working, .limits => p.workingLimits.map encodeLimits
  | .working, .plant => p.workingPlant.map encodePlant
  | .working, .tariff => p.workingTariff.map encodeTariff
  | .pending, .limits => p.pendingLimits.map encodeLimits
  | .pending, .plant => p.heldPlant.map encodePlant
  | .pending, .tariff => p.pendingTariff.map encodeTariff

/-- READ_SECTION (R162). -/
def imageReply (p : PermitStore) (number selector : Byte) : Reply :=
  match PermitSection.ofCode number, selectorOf selector with
  | some sec, some sel =>
    ⟨.ok, be 1 (p.stored sec).state.code ++ flag (selectedImage p sec sel).isSome
      ++ (selectedImage p sec sel).getD (be sec.imageLength 0)⟩
  | _, _ => .plain .range

/-! ## The notices (R181) -/

/-- The data of READ_NOTICES. -/
def noticesData (c : PortCtl) : List Byte := be 2 c.notices.toNat ++ be 1 c.link.code ++ be 2 c.wakeMask.toNat

/-- READ_NOTICES: the set, the link state and the mask as they stand, and the set emptied where the clear flag is set. -/
def State.readNotices (p : Port) (clear : Byte) (s : State) : State × Reply :=
  match flagOf clear with
  | some c =>
    (if c then s.setPort p { s.port p with notices := 0#16 } else s, ⟨.ok, noticesData (s.port p)⟩)
  | none => (s, .plain .range)

/-! ## Carrying out a read -/

/-- A read command carried out for a port: at its take and at each armed FETCH (R178). -/
def State.runRead (p : Port) (r : ReadCmd) (s : State) : State × Reply :=
  match r with
  | .clock => (s, ⟨.ok, clockData s.clock⟩)
  | .mode => (s, ⟨.ok, modeData s.limits s.mode⟩)
  | .accumulators => (s, ⟨.ok, accumulatorsData s.limits s.eau⟩)
  | .history period count => (s, historyReply s.eau.halfHours period count)
  | .days day count => (s, daysReply s.eau.days day count)
  | .envelope => (s, ⟨.ok, envelopeData s.limits s.plant s.eau.staleInFiring s.feu⟩)
  | .demand => (s, ⟨.ok, demandsData s.eau s.feu⟩)
  | .channels => (s, ⟨.ok, channelsData s.plantMode s.plant s.sta⟩)
  | .ledger => (s, ⟨.ok, ledgerData s.plant s.slg⟩)
  | .orders => (s, ⟨.ok, ordersData s.clock.latched.minuteKey s.slg⟩)
  | .meters => (s, ⟨.ok, metersData s⟩)
  | .storeStatus => (s, ⟨.ok, storeData s.pst⟩)
  | .image number selector => (s, imageReply s.pst number selector)
  | .notices clear => s.readNotices p clear

end Sys2Proof.Machine
end

