-- ==== Sys2Proof/Machine/ClockCommands.lean ====
section
/-! DEFINITION. The commands of the plant clock (chapter 01), each with its checks in the order of its rule and the reply it gives. -/

namespace Sys2Proof.Machine

/-- A refused command: the state as it was, and the status that names the reason. -/
def refuse (status : Status) (s : State) : State × Reply := (s, .plain status)

/-- Every argument of SET_TIME lies in its range (R8). -/
def timeInRange (hour minute second : BitVec 8) (divisor : BitVec 24) (offset : BitVec 8) : Bool :=
  hour.toNat ≤ 23 && minute.toNat ≤ 59 && second.toNat ≤ 59 && 1 ≤ divisor.toNat && divisor.toNat ≤ 65536 && offset.toNat ≤ 6

/-- SET_TIME accepted: the counters, the divisor and the offset loaded, the scaler at 0, the latched copy taken, the marker cleared
(R8). -/
def State.loadTime (t : ClockTime) (divisor offset : Nat) (s : State) : State :=
  (s.setClock (latch { s.clock with scaler := 0, divisor := divisor, time := t, offset := offset })).setEau
    { s.eau with marker := none }

/-- SET_TIME (R7, R8). -/
def State.doSetTime (p : Port) (day : BitVec 16) (hour minute second : BitVec 8) (divisor : BitVec 24) (offset : BitVec 8)
    (s : State) : State × Reply :=
  if p ≠ .pd then refuse .notOwner s
  else if s.clock.run = .running then refuse .state s
  else if timeInRange hour minute second divisor offset then
    (s.loadTime ⟨day.toNat, hour.toNat, minute.toNat, second.toNat⟩ divisor.toNat offset.toNat, .plain .ok)
  else refuse .range s

/-- The loaded time lies in a period that the half-hour ring has already closed (R9). -/
def State.periodUsed (s : State) : Bool :=
  match s.eau.halfHours.getLast? with
  | some r => s.clock.latched.period ≤ r.period
  | none => false

/-- The activation check of START_CLOCK, with the keys brought back where the loaded day is below 65,535 (R10, R127). -/
def State.startActivation (s : State) : State :=
  (if s.clock.latched.time.day < 65535 then s.setSlg { s.slg with queue := rekey s.slg.queue } else s).runActivation
    s.clock.latched.minuteKey

/-- START_CLOCK accepted (R10): RUNNING from the loaded time with the scaler at 0, a partial period open, the activation check. -/
def State.startRunning (s : State) : State :=
  ((s.setClock (latch { s.clock with run := .running, scaler := 0 })).openAtStart).startActivation

/-- START_CLOCK (R7, R9, R10). -/
def State.doStartClock (p : Port) (s : State) : State × Reply :=
  if p ≠ .pd then refuse .notOwner s
  else if s.clock.run = .running then refuse .state s
  else if s.periodUsed then refuse .periodUsed s
  else (s.startRunning, .plain .ok)

/-- STOP_CLOCK accepted (R11): STOPPED with the scaler at 0, the open period closed as a partial record. -/
def State.stopRunning (s : State) : State :=
  (s.setClock (latch { s.clock with run := .stopped, scaler := 0 })).closeAtStop

/-- STOP_CLOCK (R7, R11). -/
def State.doStopClock (p : Port) (s : State) : State × Reply :=
  if p ≠ .pd then refuse .notOwner s
  else if s.clock.run = .stopped then refuse .state s
  else if s.plantMode ≠ .cold then refuse .state s
  else (s.stopRunning, .plain .ok)

/-- The seconds of plant time from day 0, 00:00:00 to a time. -/
def absoluteSecond (t : ClockTime) : Nat := t.day * 86400 + secondOfDay t

/-- The new time lies in another period than the current one: every period is 1800 seconds from a multiple of 1800 (R12).
DEDUCED, safe: log entry 25. -/
def crossesPeriod (t : ClockTime) (shift : Int) : Bool := (absoluteSecond t + shift) / 1800 ≠ (absoluteSecond t / 1800 : Nat)

/-- The time a step away within the period: the minute and the second take the new time (R13). -/
def steppedTime (t : ClockTime) (shift : Int) : ClockTime :=
  let n := ((absoluteSecond t : Int) + shift).toNat
  { t with minute := n / 60 % 60, second := n % 60 }

/-- The minute event that a forward step raises when it passes second 0 of a minute (R13). -/
def State.passedMinute (old : ClockTime) (s : State) : State :=
  if minuteKeyOf old < s.clock.latched.minuteKey then s.runActivation s.clock.latched.minuteKey else s

/-- An accepted ADJUST_CLOCK with a step other than 0 (R13, R15): the counters moved, the latched copy taken, the marker cleared,
and for a forward step the leads passed over met and the minute entered raised. -/
def State.stepClock (shift : Int) (s : State) : State :=
  let old := s.clock.latched
  let s1 := (s.setClock (latch { s.clock with time := steppedTime old.time shift })).setEau { s.eau with marker := none }
  if 0 < shift then (s1.meetLeads (old.remaining - shift.toNat) (old.remaining - 1)).passedMinute old.time else s1

/-- ADJUST_CLOCK (R7, R12, R13). -/
def State.doAdjustClock (p : Port) (shift : BitVec 8) (s : State) : State × Reply :=
  if p ≠ .pd then refuse .notOwner s
  else if s.clock.run = .stopped then refuse .state s
  else if shift.toInt < -30 ∨ 30 < shift.toInt then refuse .range s
  else if crossesPeriod s.clock.latched.time shift.toInt then refuse .boundary s
  else if shift.toInt = 0 then (s, .plain .ok)
  else (s.stepClock shift.toInt, .plain .ok)

/-- SET_LEAD (R14). -/
def State.doSetLead (p : Port) (lead : BitVec 16) (s : State) : State × Reply :=
  if 1800 < lead.toNat then refuse .range s
  else (s.setClock { s.clock with leads := s.clock.leads.set p lead.toNat }, .plain .ok)

end Sys2Proof.Machine
end

