-- ==== Sys2Proof/Machine/ModeCommands.lean ====
section
/-! DEFINITION. The commands of the mode controller (chapter 02). -/

namespace Sys2Proof.Machine

/-- START (R25). -/
def State.doStart (p : Port) (s : State) : State × Reply :=
  if p ≠ .pf then refuse .notOwner s
  else if s.plantMode ≠ .cold then refuse .state s
  else if s.clock.run = .stopped then refuse .noTime s
  else if s.limits.isNone ∨ s.plant.isNone then refuse .state s
  else (s.goTo .warming, .plain .ok)

/-- FEED accepted: the feed armed, then the firing entry check (R26). -/
def State.armFeed (s : State) : State := (s.setMode { s.mode with feedArmed := true }).entryCheck

/-- FEED (R26). -/
def State.doFeed (p : Port) (s : State) : State × Reply :=
  if p ≠ .pf then refuse .notOwner s
  else if s.plantMode ≠ .warming then refuse .state s
  else (s.armFeed, .plain .ok)

/-- STOP, accepted from every port (R29). -/
def State.doStop (s : State) : State × Reply :=
  match s.plantMode with
  | .warming => (s.goTo .burnout, .plain .ok)
  | .firing => (s.goTo .burnout, .plain .ok)
  | .hold => (s.goTo .burnout, .plain .ok)
  | .cold => (s, .plain .ok)
  | .burnout => (s, .plain .ok)
  | .tripped => refuse .state s

/-- An accepted TRIP (R31, R33). -/
def State.takeTrip (p : Port) (code : Nat) (s : State) : State :=
  if s.plantMode = .tripped then s.setMode (countTrip s.mode) else s.goTripped (.byPort p code)

/-- TRIP, accepted from every port (R31). -/
def State.doTrip (p : Port) (cause : BitVec 8) (s : State) : State × Reply :=
  if cause.toNat = 0 then refuse .range s
  else if s.clock.run = .stopped then refuse .noTime s
  else (s.takeTrip p cause.toNat, .plain .ok)

/-- The furnace is still warm: a fresh temperature at or above Tcold, and the PLANT copy valid (R34). -/
def State.stillWarm (s : State) : Bool :=
  match s.limits with
  | some l => tempFreshAtLeast s.limits s.mode l.tcold && s.plant.isSome
  | none => false

/-- CLEAR_TRIP accepted (R34). -/
def State.leaveTripped (s : State) : State := s.goTo (if s.stillWarm then .burnout else .cold)

/-- CLEAR_TRIP (R34). -/
def State.doClearTrip (p : Port) (s : State) : State × Reply :=
  if p ≠ .pf then refuse .notOwner s
  else if s.plantMode ≠ .tripped then refuse .state s
  else if grateJammed s.sta then refuse .state s
  else (s.leaveTripped, .plain .ok)

/-- The highest temperature (R20). -/
def tempTop : Nat := 1999

/-- POST_TEMPERATURE (R20). -/
def State.doPostTemperature (p : Port) (value : BitVec 16) (s : State) : State × Reply :=
  if p ≠ .pf then refuse .notOwner s
  else (s.takeTemperature (min tempTop value.toNat), .done (tempTop < value.toNat))

end Sys2Proof.Machine
end

