-- ==== Sys2Proof/Machine/EmissionCommands.lean ====
section
/-! DEFINITION. The commands of the emission accounting unit (chapters 03 and 04) and of the firing envelope unit (chapter 05). -/

namespace Sys2Proof.Machine

/-- A sample set with its codes read: the O2 value, its status and the entries (R38). -/
structure SampleSet where
  o2       : Nat
  o2Status : SampleStatus
  entries  : List Sample
deriving DecidableEq, Repr

/-- The set of a POST_SAMPLES whose values and codes pass check 3 of R38. -/
def sampleSetOf (o2 : BitVec 16) (o2Status : BitVec 8) (entries : List SampleEntry) : Option SampleSet :=
  match sampleStatusOf o2Status, samplesOf entries with
  | some st, some xs => if o2.toNat ≤ 2100 then some ⟨o2.toNat, st, xs⟩ else none
  | _, _ => none

/-- An accepted sample set under the period copy (R45): the entries taken, the age 0, the marker set, the stale-in-FIRING condition
ended, the envelope recomputed. -/
def State.takeSamples (l : Limits) (x : SampleSet) (s : State) : State :=
  (s.setEau { s.eau with
    accounts := takeEntries l x.o2 x.o2Status x.entries s.eau.accounts
    sampleAge := 0
    marker := some s.clock.latched.time
    staleInFiring := false }).recompute

/-- The period copy, absent while it is not valid or no period is open (R57). -/
def State.periodCopy (s : State) : Option Limits := s.eau.period.bind OpenPeriod.copy

/-- Checks 4 to 7 of R38 on a set whose values are in range, and its effect. -/
def State.doSampleSet (x : SampleSet) (s : State) : State × Reply :=
  if channelsDistinct x.entries then
    if s.clock.run = .stopped then refuse .noTime s
    else
      match s.periodCopy with
      | none => refuse .state s
      | some l =>
        if s.eau.marker = some s.clock.latched.time then refuse .tooSoon s
        else (s.takeSamples l x, ⟨.ok, entriesReply l x.o2 x.o2Status x.entries s.eau.accounts⟩)
  else refuse .duplicate s

/-- POST_SAMPLES (R38, R45). -/
def State.doPostSamples (p : Port) (o2 : BitVec 16) (o2Status : BitVec 8) (entries : List SampleEntry) (s : State) :
    State × Reply :=
  if p ≠ .pg then refuse .notOwner s
  else if entries.length = 0 ∨ 6 < entries.length then refuse .range s
  else
    match sampleSetOf o2 o2Status entries with
    | none => refuse .range s
    | some x => s.doSampleSet x

/-- SET_CLEANING (R50): a change is handed to the mode controller. -/
def State.doSetCleaning (p : Port) (availability : BitVec 8) (s : State) : State × Reply :=
  if p ≠ .pg then refuse .notOwner s
  else
    match Availability.ofCode availability with
    | none => refuse .range s
    | some a =>
      if a = s.eau.cleaning then (s, .plain .ok)
      else ((s.setEau { s.eau with cleaning := a }).takeCleaning a, .plain .ok)

/-- The highest per mille figure. -/
def perMilleTop : Nat := 1000

/-- One reagent's new setting, its base demand clamped (R51). -/
def reagentSettingOf (r : ReagentArgs) : Option ReagentSetting :=
  (Availability.ofCode r.availability).map fun a => ⟨a, min perMilleTop r.base.toNat⟩

/-- SET_REAGENTS (R51). -/
def State.doSetReagents (p : Port) (sorbent carbon reductant : ReagentArgs) (s : State) : State × Reply :=
  if p ≠ .pg then refuse .notOwner s
  else
    match reagentSettingOf sorbent, reagentSettingOf carbon, reagentSettingOf reductant with
    | some a, some b, some c =>
      ((s.setEau { s.eau with reagents := ⟨a, b, c⟩ }).recompute,
        .done (perMilleTop < sorbent.base.toNat || perMilleTop < carbon.base.toNat || perMilleTop < reductant.base.toNat))
    | _, _, _ => refuse .range s

/-- CLEAR_HISTORY (R72). -/
def State.doClearHistory (p : Port) (s : State) : State × Reply :=
  if p ≠ .pg then refuse .notOwner s
  else if s.clock.run = .running then refuse .state s
  else (s.setEau { s.eau with halfHours := [], days := [] }, .plain .ok)

/-- SET_BOILER_LIMIT (R76). -/
def State.doSetBoilerLimit (p : Port) (limit : BitVec 16) (s : State) : State × Reply :=
  if p ≠ .pf then refuse .notOwner s
  else ((s.setFeu { s.feu with boilerLimit := min perMilleTop limit.toNat }).retarget, .done (perMilleTop < limit.toNat))

end Sys2Proof.Machine
end

