-- ==== Sys2Proof/Machine/StrokeCommands.lean ====
section
/-! DEFINITION. The commands and the timed events of the stroke timer array (chapter 06). -/

namespace Sys2Proof.Machine

/-- One channel's record replaced, and a change of ram feed capability handed to the mode controller (R105). -/
def State.putChannel (ch : StrokeChannel) (r : StrokeRecord) (s : State) : State :=
  (s.setSta (setRecord ch r s.sta)).handRams s.sta.rams

/-! ## Commands -/

/-- The lowest fixed period of a channel: Ls + 10, Ls being 50 while the PLANT copy is not valid (R112). -/
def lowestFixed (pl : Option Plant) (ch : StrokeChannel) : Nat := ((pl.map fun p => (timingOf p ch).ls).getD 50) + 10

/-- A channel's record after its settings have been recorded: it becomes active or inactive, leaves WAIT, or has its preload
written; a JAMMED channel records the settings alone (R103, R112). -/
def settle (mode : Mode) (pl : Option Plant) (a : StrokeArray) (ch : StrokeChannel) (r : StrokeRecord) : StrokeRecord :=
  if r.state = .jammed then r
  else if active mode ch r then
    if r.state = .off then activate mode pl a ch r else releaseWait mode pl a ch (writePreload mode pl a ch r)
  else if r.state = .off then r
  else deactivate r

/-- SET_CHANNEL accepted (R112). -/
def State.setSettings (ch : StrokeChannel) (enabled : Bool) (source : Source) (fixedPeriod : Nat) (s : State) : State :=
  let r := { s.sta.channels.get ch with enabled := enabled, source := source, fixedPeriod := fixedPeriod }
  s.putChannel ch (settle s.plantMode s.plant s.sta ch r)

/-- SET_CHANNEL (R112). -/
def State.doSetChannel (p : Port) (number enabled source : BitVec 8) (fixedPeriod : BitVec 16) (s : State) : State × Reply :=
  if p ≠ .pf then refuse .notOwner s
  else
    match StrokeChannel.ofCode number, flagOf enabled, Source.ofCode source with
    | some ch, some en, some src =>
      (s.setSettings ch en src (max (lowestFixed s.plant ch) fixedPeriod.toNat),
        .done (fixedPeriod.toNat < lowestFixed s.plant ch))
    | _, _, _ => refuse .range s

/-- The largest mass per stroke (R113). -/
def massTop : Nat := 2000

/-- SET_LANES accepted (R113): the settings taken, the lane grants formed again with the preloads and the waiting rams. -/
def State.setLaneItems (split massA massB : Nat) (s : State) : State :=
  s.setSta (relane s.plantMode s.plant { s.sta with split := split, massA := massA, massB := massB })

/-- SET_LANES (R113). -/
def State.doSetLanes (p : Port) (split massA massB : BitVec 16) (s : State) : State × Reply :=
  if p ≠ .pf then refuse .notOwner s
  else
    (s.setLaneItems (clampTo 300 700 split.toNat) (min massTop massA.toNat) (min massTop massB.toNat),
      .done (split.toNat < 300 || 700 < split.toNat || massTop < massA.toNat || massTop < massB.toNat))

/-- A JAMMED channel cleared: active again, or OFF with its counter at 0 (R104) and its other fields as they
were (DEDUCED, unsafe: log entry 26). -/
def clearedRecord (mode : Mode) (pl : Option Plant) (a : StrokeArray) (ch : StrokeChannel) (r : StrokeRecord) : StrokeRecord :=
  if active mode ch r then activate mode pl a ch { r with jamCount := 0 }
  else { r with state := .off, counter := 0, jamCount := 0 }

/-- CLEAR_JAM (R104). -/
def State.doClearJam (p : Port) (number : BitVec 8) (s : State) : State × Reply :=
  if p ≠ .pf then refuse .notOwner s
  else
    match StrokeChannel.ofCode number with
    | none => refuse .range s
    | some ch =>
      if (s.sta.channels.get ch).state = .jammed then
        (s.putChannel ch (clearedRecord s.plantMode s.plant s.sta ch (s.sta.channels.get ch)), .plain .ok)
      else refuse .state s

/-! ## Timed events and arrivals -/

/-- One channel's record replaced where the number of feed-capable rams does not change. -/
def State.putRecord (ch : StrokeChannel) (r : StrokeRecord) (s : State) : State :=
  s.setSta { s.sta with channels := s.sta.channels.set ch r }

/-- The period expiry of a channel, where it is due (R94, R98). -/
def State.expirePeriod (ch : StrokeChannel) (s : State) : State :=
  let r := s.sta.channels.get ch
  if periodDue r then s.putRecord ch (startStroke s.plant s.sta ch r) else s

/-- A stroke limit expiry on a ram jams it (R101). -/
def State.jamRam (ch : StrokeChannel) (s : State) : State :=
  (s.post .jam .pf).putChannel ch (jamChannel 1 (s.sta.channels.get ch))

/-- A stroke limit expiry on a grate channel: its retry, or its jam and the trip (R102). -/
def State.jamGrate (ch : StrokeChannel) (s : State) : State :=
  let r := s.sta.channels.get ch
  if r.jamCount = 0 then s.putRecord ch (retryStroke r)
  else ((s.putRecord ch (jamChannel 2 r)).post .jam .pf).grateJamTrip

/-- The stroke limit expiry of a channel, where it is due (R94, R101, R102). -/
def State.expireLimit (ch : StrokeChannel) (s : State) : State :=
  if limitDue (s.sta.channels.get ch) then
    if isRam ch then s.jamRam ch else s.jamGrate ch
  else s

/-- A rising edge on a channel's end-of-stroke input: ignored outside STROKE (R99); a completed ram stroke hands its lane's mass to
the meters (R100). -/
def State.arriveEos (ch : StrokeChannel) (s : State) : State :=
  let r := s.sta.channels.get ch
  if r.state = .stroke then
    let s1 := s.putRecord ch (completeStroke r)
    if isRam ch then s1.bookWaste (laneMass s.sta ch) else s1
  else s

/-- Either expiry of a channel, where one is due: no channel has both (R94). -/
def State.expire (s : State) (ch : StrokeChannel) : State := (s.expirePeriod ch).expireLimit ch

/-- An expiry is due at a channel. -/
def expiryDue (r : StrokeRecord) : Bool := periodDue r || limitDue r

/-- The number of channels at which an expiry is due. -/
def dueCount (a : StrokeArray) : Nat := (a.channels.toList.filter expiryDue).length

/-- Every expiry that is due taken, one after the other: in id order where one alone is due, else in an order drawn as a free value
(R102; DESIGN CHOICE, safe: log entry 2). -/
def State.expireAll (s : State) : State :=
  if dueCount s.sta ≤ 1 then StrokeChannel.all.foldl State.expire s
  else (Config.expiryOrder s.draw.1 ++ StrokeChannel.all).foldl State.expire s.draw.2

/-- One stroke unit (R94): the expiries that an earlier unit left due come first, then the counters go up (DESIGN
CHOICE, safe: log entry 10). -/
def State.strokeUnit (s : State) : State :=
  let s1 := s.expireAll
  s1.setSta (countUnit s1.sta)

end Sys2Proof.Machine
end

