-- ==== Sys2Proof/Machine/LedgerCommands.lean ====
section
/-! DEFINITION. The commands of the steam ledger (chapter 07). -/

namespace Sys2Proof.Machine

/-- The steam figure posted; the stale flag cleared and the request recomputed free of its bound where the PLANT copy is valid; the
allocation recomputed (R116, R117, R134). -/
def State.takeSteam (flow : Nat) (s : State) : State :=
  let s1 := s.setSlg { s.slg with steam := flow, present := true, age := 0 }
  (if s.slg.stale ∧ s.plant.isSome then (s1.setSlg { s1.slg with stale := false }).writeRequest else s1).reallocate

/-- POST_STEAM (R116). -/
def State.doPostSteam (p : Port) (flow : BitVec 16) (s : State) : State × Reply :=
  if p ≠ .pf then refuse .notOwner s else (s.takeSteam flow.toNat, .plain .ok)

/-- The aux demand as SET_AUX_DEMAND clamps it: unclamped while the PLANT copy is not valid (R118). -/
def auxClamped (pl : Option Plant) (demand : Nat) : Nat :=
  match pl with
  | some p => min p.auxMax demand
  | none => demand

/-- A new aux demand, with the request and the allocation recomputed; a value already held recomputes nothing (R118). -/
def State.takeAux (demand : Nat) (s : State) : State :=
  if demand = s.slg.aux then s else ((s.setSlg { s.slg with aux := demand }).writeRequest).reallocate

/-- SET_AUX_DEMAND (R118). -/
def State.doSetAuxDemand (p : Port) (demand : BitVec 16) (s : State) : State × Reply :=
  if p ≠ .pf then refuse .notOwner s
  else (s.takeAux (auxClamped s.plant demand.toNat), .done (auxClamped s.plant demand.toNat < demand.toNat))

/-- A setpoint under its consumer's new availability: 0 at once for a consumer that is UNAVAILABLE (R119). -/
def setpointUnder (a : Availability) (setpoint : Nat) : Nat :=
  match a with
  | .available => setpoint
  | .unavailable => 0

/-- New consumer availabilities, with the targets, the request and the allocation recomputed; values already held recompute nothing
(R119). A consumer that was UNAVAILABLE before has a setpoint of 0 already. -/
def State.takeConsumers (turbine extraction : Availability) (s : State) : State :=
  if turbine = s.slg.turbine ∧ extraction = s.slg.extraction then s
  else
    ((s.setSlg (retargetLedger s.plant { s.slg with
      turbine := turbine, extraction := extraction
      powerSetpoint := setpointUnder turbine s.slg.powerSetpoint
      heatSetpoint := setpointUnder extraction s.slg.heatSetpoint })).writeRequest).reallocate

/-- SET_CONSUMERS (R119). -/
def State.doSetConsumers (p : Port) (turbine extraction : BitVec 8) (s : State) : State × Reply :=
  if p ≠ .pd then refuse .notOwner s
  else
    match Availability.ofCode turbine, Availability.ofCode extraction with
    | some t, some e => (s.takeConsumers t e, .plain .ok)
    | _, _ => refuse .range s

/-- The most orders the queue holds (R122). -/
def queueDepth : Nat := 16

/-- The reply data of a placed order: its key and the clamped flag (R120). -/
def placedData (key : Nat) (clamped : Bool) : List Byte := be 4 key ++ flag clamped

/-- An order placed under its key (R122): active at once, in place of a queued order with the key, in the queue, or refused FULL. -/
def State.placeOrder (o : Order) (clamped : Bool) (s : State) : State × Reply :=
  let now := s.clock.latched.minuteKey
  let key := orderKey now o
  if key ≤ now then (s.activateOrder o, ⟨(Reply.done clamped).status, placedData key clamped⟩)
  else if keyTaken key s.slg.queue then
    (s.setSlg { s.slg with queue := enqueue ⟨key, o⟩ (s.slg.queue.filter (·.key ≠ key)) }, ⟨.replaced, placedData key clamped⟩)
  else if queueDepth ≤ s.slg.queue.length then refuse .full s
  else (s.setSlg { s.slg with queue := enqueue ⟨key, o⟩ s.slg.queue }, ⟨(Reply.done clamped).status, placedData key clamped⟩)

/-- POST_ORDER (R120). -/
def State.doPostOrder (p : Port) (args : OrderArgs) (s : State) : State × Reply :=
  if p ≠ .pd then refuse .notOwner s
  else
    match orderOf args with
    | none => refuse .range s
    | some o =>
      if s.clock.run = .stopped then refuse .noTime s
      else
        match s.plant with
        | none => refuse .state s
        | some pl => s.placeOrder (clampOrder pl o) (clampOrder pl o ≠ o)

/-- CANCEL_ORDERS (R123). -/
def State.doCancelOrders (p : Port) (tag : BitVec 16) (s : State) : State × Reply :=
  if p ≠ .pd then refuse .notOwner s
  else
    (s.setSlg { s.slg with queue := s.slg.queue.filter (·.order.tag ≠ tag.toNat) },
      ⟨.ok, be 1 (s.slg.queue.filter (·.order.tag = tag.toNat)).length⟩)

end Sys2Proof.Machine
end

