-- ==== Sys2Proof/Machine/MeterCommands.lean ====
section
/-! DEFINITION. The commands of the fiscal meter unit (chapter 08). -/

namespace Sys2Proof.Machine

/-- The reply data of POST_ENERGY: the band, the meter state and, in RUNNING, each meter's kilowatt-hours and new residue (R142). -/
def energyReply (band exported heat : Nat) (m : Meters) : List Byte :=
  be 1 band ++ be 1 m.state.code ++
    match m.state with
    | .running =>
      be 3 (energyIncrement exported m.exported) ++ be 2 (residuePath band exported m.exported).residue
        ++ be 3 (energyIncrement heat m.heat) ++ be 2 (residuePath band heat m.heat).residue
    | .unset => []

/-- POST_ENERGY (R142). -/
def State.doPostEnergy (p : Port) (exported heat : BitVec 32) (s : State) : State × Reply :=
  if p ≠ .pd then refuse .notOwner s
  else (s.bookEnergy exported.toNat heat.toNat, ⟨.ok, energyReply s.band exported.toNat heat.toNat s.fmu⟩)

/-- The reply data of RESTORE_METERS and FRESH_METERS: the kilowatt-hours and kilograms folded, the new residues and PENDING_SAT
(R147, R148). -/
def loadReply (before after : Meters) : List Byte :=
  be 4 (foldedKwh before.exported) ++ be 4 (foldedKwh before.heat) ++ be 4 before.waste.waiting ++ be 2 after.exported.residue
    ++ be 2 after.heat.residue ++ flag after.pendingSat

/-- RESTORE_METERS (R147). -/
def State.doRestoreMeters (p : Port) (totals : MeterArgs) (s : State) : State × Reply :=
  if p ≠ .pd then refuse .notOwner s
  else if s.fmu.state = .running then refuse .state s
  else
    match firstBadDigit (meterTotals totals) 0, mismatchOf (totalsOf totals) with
    | some i, _ => (s, ⟨.badDigit, be 1 i⟩)
    | none, some m => (s, ⟨.mismatch, be 1 m⟩)
    | none, none => (s.loadTotals (totalsOf totals), ⟨.ok, loadReply s.fmu (loadMeters (totalsOf totals) s.fmu)⟩)

/-- FRESH_METERS (R148). -/
def State.doFreshMeters (p : Port) (s : State) : State × Reply :=
  if p ≠ .pd then refuse .notOwner s
  else if s.fmu.state = .running then refuse .state s
  else (s.loadTotals totalsZero, ⟨.ok, loadReply s.fmu (loadMeters totalsZero s.fmu)⟩)

end Sys2Proof.Machine
end

