-- ==== Sys2Proof/Machine/PermitCommands.lean ====
section
/-! DEFINITION. The permit store (chapter 09): its commands, the completions of its cycles, and the load at a reset. -/

namespace Sys2Proof.Machine

/-- A port's write latch set or cleared. -/
def State.setLatch (p : Port) (b : Bool) (s : State) : State := s.setPst { s.pst with latches := s.pst.latches.set p b }

/-- A stored section replaced. -/
def PermitStore.store (p : PermitStore) (sec : PermitSection) (x : StoredSection) : PermitStore :=
  match sec with
  | .limits => { p with limits := x }
  | .plant => { p with plant := x }
  | .tariff => { p with tariff := x }

/-- The activity begun by an accepted command, or ended. -/
def State.setActivity (a : StoreActivity) (s : State) : State := s.setPst { s.pst with activity := a }

/-- ENABLE_WRITE (R154). -/
def State.doEnableWrite (p : Port) (s : State) : State × Reply := (s.setLatch p true, .plain .ok)

/-- A PROGRAM_SECTION or LOCK_SECTION that the store refuses clears the sending port's latch (R154, R155, R160). -/
def State.refuseStore (p : Port) (status : Status) (s : State) : State × Reply := (s.setLatch p false, .plain status)

/-- FIRING or HOLD: the modes in which PLANT cannot be programmed and a PLANT copy is held (R155, R159). -/
def firingOrHold (mode : Mode) : Bool := mode == .firing || mode == .hold

/-- Checks 2 to 7 of R155 on a section, and the start of its programming cycle. -/
def State.programSection (p : Port) (sec : PermitSection) (image : List Byte) (s : State) : State × Reply :=
  if sec.owner ≠ p then s.refuseStore p .notOwner
  else if s.pst.latches.get p = false then s.refuseStore p .noLatch
  else if (s.pst.stored sec).state = .locked then s.refuseStore p .locked
  else if s.pst.activity ≠ .idle then s.refuseStore p .busy
  else if sec = .plant ∧ firingOrHold s.plantMode then s.refuseStore p .state
  else
    match imageFault sec image with
    | some offset => (s.setLatch p false, ⟨.badImage, be 1 sec.id ++ be 2 offset⟩)
    | none => (s.setActivity (.programming sec p image), .plain .ok)

/-- PROGRAM_SECTION (R155). -/
def State.doProgramSection (p : Port) (number : BitVec 8) (image : List Byte) (s : State) : State × Reply :=
  match PermitSection.ofCode number with
  | none => s.refuseStore p .range
  | some sec => s.programSection p sec image

/-- Checks 2 to 5 of R160 on a section, and the start of its lock cycle. -/
def State.lockSection (p : Port) (sec : PermitSection) (s : State) : State × Reply :=
  if sec.owner ≠ p then s.refuseStore p .notOwner
  else if s.pst.latches.get p = false then s.refuseStore p .noLatch
  else if s.pst.activity ≠ .idle then s.refuseStore p .busy
  else if (s.pst.stored sec).state ≠ .valid then s.refuseStore p .state
  else (s.setActivity (.locking sec p), .plain .ok)

/-- LOCK_SECTION (R160). -/
def State.doLockSection (p : Port) (number : BitVec 8) (s : State) : State × Reply :=
  match PermitSection.ofCode number with
  | none => s.refuseStore p .range
  | some sec => s.lockSection p sec

/-! ## Completions (R158 to R160) -/

/-- The image as the store writes it: for LIMITS over a VALID section, with the serial after the stored one and its CRC computed
again; otherwise as sent (R158). -/
def finalImage (sec : PermitSection) (before : StoredSection) (image : List Byte) : List Byte :=
  if sec = .limits ∧ before.state = .valid then withSerial image ((imageSerial before.image + 1) % 65536) else image

/-- A completed image takes effect: LIMITS and TARIFF wait as the pending copy, PLANT is put in force or held (R159). -/
def State.takeImage (sec : PermitSection) (image : List Byte) (s : State) : State :=
  match sec with
  | .limits => s.setPst { s.pst with pendingLimits := some (decodeLimits image) }
  | .tariff => s.setPst { s.pst with pendingTariff := some (decodeTariff image) }
  | .plant =>
    if firingOrHold s.plantMode then s.setPst { s.pst with heldPlant := some (decodePlant image) }
    else s.plantInForce (decodePlant image)

/-- The end of a cycle at the store: IDLE, the port's latch cleared, PERMIT_DONE to that port (R158, R160). -/
def State.endCycle (p : Port) (s : State) : State := ((s.setActivity .idle).setLatch p false).post .permitDone p

/-- The completion of a programming cycle, where one is in flight (R158, R159). -/
def State.completeProgramming (s : State) : State :=
  match s.pst.activity with
  | .programming sec p image =>
    let final := finalImage sec (s.pst.stored sec) image
    let x : StoredSection := { s.pst.stored sec with state := .valid, image := final }
    ((s.setPst (s.pst.store sec x)).endCycle p).takeImage sec final
  | _ => s

/-- The completion of a lock cycle, where one is in flight (R160). -/
def State.completeLock (s : State) : State :=
  match s.pst.activity with
  | .locking sec p =>
    let x : StoredSection := { s.pst.stored sec with state := .locked, lockBit := true }
    (s.setPst (s.pst.store sec x)).endCycle p
  | _ => s

/-! ## The load at a reset (R161) -/

/-- The bytes found in a section whose programming cycle was cut off: free values (DESIGN CHOICE, safe: log entry 3). -/
def tornImage (free : Nat) (length : Nat) : List Byte := (List.range length).map (Config.tornByte free)

/-- A programming cycle in flight cut off: its section is left CORRUPT. A lock cycle cut off leaves its section as it was. -/
def State.cutOff (s : State) : State :=
  match s.pst.activity with
  | .programming sec _ _ =>
    let x : StoredSection := { s.pst.stored sec with state := .corrupt, image := tornImage s.draw.1 sec.imageLength }
    s.draw.2.setPst (s.pst.store sec x)
  | _ => s

/-- A section as the load finds it. A CORRUPT section stays CORRUPT until a programming cycle completes (R153; DEDUCED,
safe: log entry 15). -/
def loadedSection (x : StoredSection) : StoredSection :=
  match x.state with
  | .blank => x
  | .corrupt => x
  | .valid => if crcOk x.image then (if x.lockBit then { x with state := .locked } else x) else { x with state := .corrupt }
  | .locked => if crcOk x.image then x else { x with state := .corrupt }

/-- The image that a working copy is loaded from: that of a VALID or LOCKED section. -/
def loadableImage (x : StoredSection) : Option (List Byte) :=
  match x.state with
  | .valid => some x.image
  | .locked => some x.image
  | .blank => none
  | .corrupt => none

/-- The store after the load of R161: the sections read and checked, the working copies loaded, the pending and held copies
discarded, IDLE, the latches clear. -/
def loadedStore (p : PermitStore) : PermitStore :=
  let l := loadedSection p.limits
  let q := loadedSection p.plant
  let t := loadedSection p.tariff
  { limits := l, plant := q, tariff := t, workingLimits := (loadableImage l).map decodeLimits,
    workingPlant := (loadableImage q).map decodePlant, workingTariff := (loadableImage t).map decodeTariff,
    pendingLimits := none, pendingTariff := none, heldPlant := none, latches := ⟨false, false, false⟩, activity := .idle }

/-- The permit store's own reset (R161). -/
def State.loadStore (s : State) : State := s.cutOff.setPst (loadedStore s.cutOff.pst)

end Sys2Proof.Machine
end

