-- ==== Sys2Proof/Machine/Resets.lean ====
section
/-! DEFINITION. The two resets of the part (00, "Resets"): what each block takes at power-on and at the fall of RSTN, and the release. -/

namespace Sys2Proof.Machine

/-! ## The fall of RSTN -/

/-- The trip record after a pin reset: none in COLD, one more cause in TRIPPED, a new record elsewhere (R33, R37). -/
def resetTrip (m : ModeCtl) (t : ClockTime) : Option TripRecord :=
  match m.mode with
  | .cold => none
  | .tripped => (countTrip m).trip
  | _ => some (newTrip .reset t)

/-- The mode controller after a pin reset (R37). -/
def resetMode (m : ModeCtl) (t : ClockTime) : ModeCtl :=
  { ModeCtl.reset with mode := if m.mode = .cold then .cold else .tripped, trip := resetTrip m t }

/-- The emission unit after a pin reset: the marker absent, cleaning UNAVAILABLE, the condition off; the rest kept (R39, R46, R47, R49,
R52, R74). -/
def resetEmission (e : Emission) : Emission := { e with marker := none, cleaning := .unavailable, staleInFiring := false }

/-- The envelope after a reset: its reset values, the effective cap at 1000, then a recomputation from the accounts and the copy as
they stand (R92). -/
def resetEnvelope (lim : Option Limits) (em : Emission) : Envelope := recomputed lim em .reset

/-- A port controller's reset values (R184): RESET_SEEN alone in the notice set. The level of CS is the controller's, not the part's. -/
def resetPort (c : PortCtl) : PortCtl := { PortCtl.reset with csLow := c.csLow }

/-- The blocks after the fall of RSTN, the store's load made (R17, R37, R52, R92, R115, R138, R152, R184). -/
def State.pinResetBlocks (s : State) : State :=
  { s with
    clock := { s.clock with leads := ⟨0, 0, 0⟩ }
    mode := resetMode s.mode s.clock.latched.time
    eau := resetEmission s.eau
    feu := resetEnvelope s.limits (resetEmission s.eau)
    sta := .reset
    slg := .reset
    ports := s.ports.map fun _ c => resetPort c
    rstnLow := true }

/-- RSTN taken low; a level already low falls no further. -/
def State.pinReset (s : State) : State := if s.rstnLow then s else s.loadStore.pinResetBlocks

/-- A port at the release of RSTN: a transaction whose CS is already low is ignored to its end (R184). -/
def releasePort (c : PortCtl) : PortCtl := { c with ignoring := c.csLow }

/-- The rise of RSTN (R184); a level already high rises no further. -/
def State.releaseReset (s : State) : State :=
  if s.rstnLow then { s with rstnLow := false, ports := s.ports.map fun _ c => releasePort c } else s

/-! ## Power-on -/

/-- A port controller at power-on: its reset values, and with RSTN high a transaction already under way is ignored to its end (R184;
DESIGN CHOICE, unsafe: log entry 11). -/
def powerPort (rstnLow : Bool) (c : PortCtl) : PortCtl := { resetPort c with ignoring := c.csLow && !rstnLow }

/-- The blocks after power-on, the store's load made (R16, R36, R46, R52, R73, R92, R115, R138, R151, R184). -/
def State.powerOnBlocks (s : State) : State :=
  { s with
    clock := .reset
    mode := .reset
    eau := .reset
    feu := resetEnvelope s.limits .reset
    sta := .reset
    slg := .reset
    fmu := .reset
    ports := s.ports.map fun _ c => powerPort s.rstnLow c }

/-- Application of supply: the non-volatile sections are loaded, everything else takes its power-on value; the levels of RSTN and of
the chip selects are those of the pins (DESIGN CHOICE, unsafe: log entry 11). -/
def State.powerOn (s : State) : State := s.loadStore.powerOnBlocks

end Sys2Proof.Machine
end

