-- ==== Sys2Proof/Machine/Ports.lean ====
section
/-! DEFINITION. The port controllers (chapter 10): taking a frame, FETCH, SET_QUIET and PORT_RESET, and the transactions that bring a
frame's bytes, whole or in parts. -/

namespace Sys2Proof.Machine

/-! ## Taking a frame (R170, R171, R177, R182) -/

/-- The rise of CS: the transaction is over. -/
def endTransaction (c : PortCtl) : PortCtl := { c with csLow := false, ignoring := false }

/-- The frame in progress is none, with its flag and its timer. -/
def dropFrame (c : PortCtl) : PortCtl := { c with frame := [], suspended := false, timer := .stopped }

/-- The port at the take of a frame: the transaction over, no frame in progress. -/
def taken (c : PortCtl) : PortCtl := dropFrame (endTransaction c)

/-- The take of a frame other than SET_QUIET and FETCH: the link ACTIVE, the port disarmed (R177, R182). -/
def State.beginTake (p : Port) (s : State) : State :=
  s.setPort p { taken (s.port p) with link := .active, arm := none }

/-- A reply placed in the reply slot (R171). -/
def State.answer (p : Port) (r : Reply) (s : State) : State := s.setPort p { s.port p with slot := some r }

/-- A command that is not a read, taken: carried out, its reply into the slot. -/
def State.takeWrite (p : Port) (run : State → State × Reply) (s : State) : State :=
  let r := run (s.beginTake p)
  r.1.answer p r.2

/-- The port armed with a read (R177). -/
def State.setArm (p : Port) (r : ReadCmd) (s : State) : State := s.setPort p { s.port p with arm := some r }

/-- A read command taken: carried out, its reply into the slot, and with the repeat flag the port armed unless the read's argument
checks refused it (R177). -/
def State.takeRead (p : Port) (rep : Bool) (cmd : ReadCmd) (s : State) : State :=
  let r := (s.beginTake p).runRead p cmd
  let s1 := r.1.answer p r.2
  if rep ∧ r.2.status ≠ .range then s1.setArm p cmd else s1

/-- A frame that fails a check of R170, or whose LEN is above 1024 (R169): answered, and handed to no block. -/
def State.takeBad (p : Port) (status : Status) (s : State) : State := (s.beginTake p).answer p (.plain status)

/-- The output buffer replaced and the slot emptied (R172). -/
def State.putOutput (p : Port) (r : Reply) (s : State) : State :=
  s.setPort p { s.port p with output := some r, slot := none }

/-- FETCH (R172, R178): the slot's reply, the armed read re-executed, or NO_REPLY, into the output buffer. -/
def State.takeFetch (p : Port) (s : State) : State :=
  let s1 := s.setPort p { taken (s.port p) with link := .active }
  match (s.port p).slot, (s.port p).arm with
  | some r, _ => s1.putOutput p r
  | none, some cmd =>
    let r := s1.runRead p cmd
    r.1.putOutput p r.2
  | none, none => s1.putOutput p (.plain .noReply)

/-- SET_QUIET (R182): QUIET with the mask given; like every frame other than FETCH it disarms the port. -/
def State.takeQuiet (p : Port) (mask : BitVec 16) (s : State) : State :=
  s.setPort p { taken (s.port p) with link := .quiet, wakeMask := mask, arm := none, slot := some (.plain .ok) }

/-- A port controller after PORT_RESET (R183). -/
def portReset (c : PortCtl) : PortCtl :=
  { taken c with output := none, arm := none, notices := 0#16, link := .active, wakeMask := 0#16, slot := some (.plain .ok) }

/-- PORT_RESET (R183): the port controller's starting state, its write latch cleared. -/
def State.takePortReset (p : Port) (s : State) : State := (s.setPort p (portReset (s.port p))).setLatch p false

/-- A frame that has passed the checks of R170 is handed to its command. The rows that are no command reach no block this way. -/
def State.takeFrame (i : Instr) (s : State) : State :=
  match i with
  | .setTime p day hour minute second divisor offset => s.takeWrite p (State.doSetTime p day hour minute second divisor offset)
  | .startClock p => s.takeWrite p (State.doStartClock p)
  | .stopClock p => s.takeWrite p (State.doStopClock p)
  | .adjustClock p shift => s.takeWrite p (State.doAdjustClock p shift)
  | .setLead p lead => s.takeWrite p (State.doSetLead p lead)
  | .readClock p rep => s.takeRead p rep .clock
  | .start p => s.takeWrite p (State.doStart p)
  | .feed p => s.takeWrite p (State.doFeed p)
  | .stop p => s.takeWrite p State.doStop
  | .trip p cause => s.takeWrite p (State.doTrip p cause)
  | .clearTrip p => s.takeWrite p (State.doClearTrip p)
  | .postTemperature p value => s.takeWrite p (State.doPostTemperature p value)
  | .readMode p rep => s.takeRead p rep .mode
  | .postSamples p o2 o2Status entries => s.takeWrite p (State.doPostSamples p o2 o2Status entries)
  | .setCleaning p availability => s.takeWrite p (State.doSetCleaning p availability)
  | .setReagents p sorbent carbon reductant => s.takeWrite p (State.doSetReagents p sorbent carbon reductant)
  | .clearHistory p => s.takeWrite p (State.doClearHistory p)
  | .readAccumulators p rep => s.takeRead p rep .accumulators
  | .readHistory p rep period count => s.takeRead p rep (.history period count)
  | .readDays p rep day count => s.takeRead p rep (.days day count)
  | .setBoilerLimit p limit => s.takeWrite p (State.doSetBoilerLimit p limit)
  | .readEnvelope p rep => s.takeRead p rep .envelope
  | .readDemand p rep => s.takeRead p rep .demand
  | .setChannel p number enabled source fixedPeriod => s.takeWrite p (State.doSetChannel p number enabled source fixedPeriod)
  | .setLanes p split massA massB => s.takeWrite p (State.doSetLanes p split massA massB)
  | .clearJam p number => s.takeWrite p (State.doClearJam p number)
  | .readChannels p rep => s.takeRead p rep .channels
  | .postSteam p flow => s.takeWrite p (State.doPostSteam p flow)
  | .setAuxDemand p demand => s.takeWrite p (State.doSetAuxDemand p demand)
  | .setConsumers p turbine extraction => s.takeWrite p (State.doSetConsumers p turbine extraction)
  | .postOrder p order => s.takeWrite p (State.doPostOrder p order)
  | .cancelOrders p tag => s.takeWrite p (State.doCancelOrders p tag)
  | .readLedger p rep => s.takeRead p rep .ledger
  | .readOrders p rep => s.takeRead p rep .orders
  | .postEnergy p exported heat => s.takeWrite p (State.doPostEnergy p exported heat)
  | .restoreMeters p totals => s.takeWrite p (State.doRestoreMeters p totals)
  | .freshMeters p => s.takeWrite p (State.doFreshMeters p)
  | .readMeters p rep => s.takeRead p rep .meters
  | .enableWrite p => s.takeWrite p (State.doEnableWrite p)
  | .programSection p number image => s.takeWrite p (State.doProgramSection p number image)
  | .lockSection p number => s.takeWrite p (State.doLockSection p number)
  | .storeStatus p rep => s.takeRead p rep .storeStatus
  | .readSection p rep number selector => s.takeRead p rep (.image number selector)
  | .fetch p => s.takeFetch p
  | .readNotices p rep clear => s.takeRead p rep (.notices clear)
  | .setQuiet p mask => s.takeQuiet p mask
  | .portReset p => s.takePortReset p
  | .powerOn => s
  | .pinReset => s
  | .pinResetRelease => s
  | .refckEdge => s
  | .secondEvent => s
  | .strokeUnitTick => s
  | .periodExpiry _ => s
  | .strokeLimitExpiry _ => s
  | .eosArrival _ => s
  | .programmingCompletion => s
  | .lockCompletion => s
  | .badFrame .. => s
  | .frameSuspend .. => s
  | .frameResume _ => s
  | .frameTimeout _ => s
  | .linkError .. => s

/-- A complete frame taken at the rise of CS (R170). -/
def State.takeBytes (p : Port) (frame : List Byte) (s : State) : State :=
  match checkFrame p frame with
  | .badCrc => s.takeBad p .badCrc
  | .unknownOp => s.takeBad p .unknownOp
  | .badLen => s.takeBad p .badLen
  | .command i => s.takeFrame i

/-! ## Transactions (R168, R169, R173, R175) -/

/-- What the bytes of a frame in progress amount to at the rise of CS. -/
inductive FrameState where
  /-- No byte of a frame has come. -/
  | idle
  /-- A frame begun and not complete. -/
  | part (bytes : List Byte)
  /-- LEN is above 1024 and cannot delimit a frame. -/
  | tooLong
  /-- A complete frame; the bytes after it are discarded. -/
  | complete (frame : List Byte)
deriving DecidableEq, Repr

/-- The bytes of a transaction without the idle bytes before a frame, dropped while no frame is in progress (R168, R169). -/
def joinBytes (inProgress bytes : List Byte) : List Byte :=
  match inProgress with
  | [] => bytes.dropWhile (· == 0xFF#8)
  | _ => inProgress ++ bytes

/-- The frame state of the bytes received so far (R169). -/
def frameState (bytes : List Byte) : FrameState :=
  if bytes = [] then .idle
  else if bytes.length < 3 then .part bytes
  else if maxLen < field bytes 1 2 then .tooLong
  else if bytes.length < field bytes 1 2 + 5 then .part bytes
  else .complete (bytes.take (field bytes 1 2 + 5))

/-- The frame in progress suspended at the rise of CS, its timer from zero (R173). -/
def suspend (bytes : List Byte) (c : PortCtl) : PortCtl :=
  { endTransaction c with frame := bytes, suspended := true, timer := .running }

/-- The frame in progress discarded with a status in the slot; it is not taken, and the arm, the link and the latch stay (R174, R175). -/
def discard (status : Status) (c : PortCtl) : PortCtl := { dropFrame c with slot := some (.plain status) }

/-- The port takes no bytes: RSTN is low, or the transaction is one to be ignored to its end (R184). -/
def deaf (s : State) (p : Port) : Bool := s.rstnLow || (s.port p).ignoring

/-- The rise of CS on a transaction of whole bytes, with an incomplete byte after them where `cut` is set. -/
def State.receive (p : Port) (bytes : List Byte) (cut : Bool) (s : State) : State :=
  match frameState (joinBytes (s.port p).frame bytes) with
  | .idle => s.setPort p (endTransaction (s.port p))
  | .part all => s.setPort p (if cut then discard .linkError (endTransaction (s.port p)) else suspend all (s.port p))
  | .tooLong => s.takeBad p .badLen
  | .complete frame => s.takeBytes p frame

/-- A whole transaction on a port (R168, R169): the five bytes of a PORT_RESET alone are recognised whether or not a frame is suspended
(R183). -/
def State.transaction (p : Port) (bytes : List Byte) (cut : Bool) (s : State) : State :=
  if deaf s p then s.setPort p (endTransaction (s.port p))
  else if bytes = portResetFrame ∧ cut = false then s.takePortReset p
  else s.receive p bytes cut

/-! ## Arrivals of command rows -/

/-- The bytes that a command row's transaction carries while a frame is in progress: the rest of its own frame where that frame is the
one in progress, else the whole frame (DESIGN CHOICE, safe: log entry 9). -/
def restOfFrame (inProgress frame : List Byte) : List Byte :=
  if inProgress.isPrefixOf frame ∧ inProgress.length < frame.length then frame.drop inProgress.length else frame

/-- A command row: the transaction that ends with the command's frame. With no frame in progress the frame is taken whole. -/
def State.arrive (p : Port) (i : Instr) (s : State) : State :=
  if deaf s p then s.setPort p (endTransaction (s.port p))
  else if (s.port p).frame = [] then s.takeFrame i
  else if i = .portReset p then s.takePortReset p
  else s.transaction p (restOfFrame (s.port p).frame (commandFrame i)) false

/-! ## The fall of CS and the frame timer -/

/-- The fall of CS that begins a port's next transaction: the frame timer stops and a suspended frame resumes (R173). A transaction
already begun has no second fall. -/
def resume (c : PortCtl) : PortCtl := { c with csLow := true, suspended := false, timer := .stopped }

/-- FRAME_RESUME (R173); while RSTN is low the level of CS alone changes. -/
def State.resumeFrame (p : Port) (s : State) : State := s.setPort p (resume (s.port p))

/-- FRAME_TIMEOUT (R174): a suspended frame is discarded; with none suspended the timer does not run. -/
def State.timeoutFrame (p : Port) (s : State) : State :=
  if (s.port p).timer = .running then s.setPort p (discard .frameTimeout (s.port p)) else s

end Sys2Proof.Machine
end

