-- ==== Sys2Proof/Machine/Arrivals.lean ====
section
/-! DEFINITION. The meaning of every row of the table that is a command sent on a port: the arrival of its frame (DESIGN CHOICE, safe: log
entry 9). What the
command does stands in the family files (`State.doSetTime` in ClockCommands.lean, and so on), what a frame's take does around it in
Ports.lean. -/

namespace Sys2Proof.Machine

/-- SET_TIME (R8). -/
def execSetTime (port : Port) (day : BitVec 16) (hour minute second : BitVec 8) (divisor : BitVec 24) (offset : BitVec 8)
    (s : State) : Host.Outcome State Fault Refusal :=
  .next (s.arrive port (.setTime port day hour minute second divisor offset))

/-- START_CLOCK (R10). -/
def execStartClock (port : Port) (s : State) : Host.Outcome State Fault Refusal :=
  .next (s.arrive port (.startClock port))

/-- STOP_CLOCK (R11). -/
def execStopClock (port : Port) (s : State) : Host.Outcome State Fault Refusal :=
  .next (s.arrive port (.stopClock port))

/-- ADJUST_CLOCK (R12, R13). -/
def execAdjustClock (port : Port) (shift : BitVec 8)
    (s : State) : Host.Outcome State Fault Refusal :=
  .next (s.arrive port (.adjustClock port shift))

/-- SET_LEAD (R14). -/
def execSetLead (port : Port) (lead : BitVec 16)
    (s : State) : Host.Outcome State Fault Refusal :=
  .next (s.arrive port (.setLead port lead))

/-- READ_CLOCK (R6). -/
def execReadClock (port : Port) (rep : Bool) (s : State) : Host.Outcome State Fault Refusal :=
  .next (s.arrive port (.readClock port rep))

/-- START (R25). -/
def execStart (port : Port) (s : State) : Host.Outcome State Fault Refusal :=
  .next (s.arrive port (.start port))

/-- FEED (R26). -/
def execFeed (port : Port) (s : State) : Host.Outcome State Fault Refusal :=
  .next (s.arrive port (.feed port))

/-- STOP (R29). -/
def execStop (port : Port) (s : State) : Host.Outcome State Fault Refusal :=
  .next (s.arrive port (.stop port))

/-- TRIP (R31). -/
def execTrip (port : Port) (cause : BitVec 8) (s : State) : Host.Outcome State Fault Refusal :=
  .next (s.arrive port (.trip port cause))

/-- CLEAR_TRIP (R34). -/
def execClearTrip (port : Port) (s : State) : Host.Outcome State Fault Refusal :=
  .next (s.arrive port (.clearTrip port))

/-- POST_TEMPERATURE (R20). -/
def execPostTemperature (port : Port) (value : BitVec 16)
    (s : State) : Host.Outcome State Fault Refusal :=
  .next (s.arrive port (.postTemperature port value))

/-- READ_MODE (R35). -/
def execReadMode (port : Port) (rep : Bool) (s : State) : Host.Outcome State Fault Refusal :=
  .next (s.arrive port (.readMode port rep))

/-- POST_SAMPLES (R38, R45). -/
def execPostSamples (port : Port) (o2 : BitVec 16) (o2Status : BitVec 8) (entries : List SampleEntry)
    (s : State) : Host.Outcome State Fault Refusal :=
  .next (s.arrive port (.postSamples port o2 o2Status entries))

/-- SET_CLEANING (R50). -/
def execSetCleaning (port : Port) (availability : BitVec 8)
    (s : State) : Host.Outcome State Fault Refusal :=
  .next (s.arrive port (.setCleaning port availability))

/-- SET_REAGENTS (R51). -/
def execSetReagents (port : Port) (sorbent carbon reductant : ReagentArgs)
    (s : State) : Host.Outcome State Fault Refusal :=
  .next (s.arrive port (.setReagents port sorbent carbon reductant))

/-- CLEAR_HISTORY (R72). -/
def execClearHistory (port : Port) (s : State) : Host.Outcome State Fault Refusal :=
  .next (s.arrive port (.clearHistory port))

/-- READ_ACCUMULATORS (R53). -/
def execReadAccumulators (port : Port) (rep : Bool)
    (s : State) : Host.Outcome State Fault Refusal :=
  .next (s.arrive port (.readAccumulators port rep))

/-- READ_HISTORY (R69). -/
def execReadHistory (port : Port) (rep : Bool) (period : BitVec 24) (count : BitVec 8)
    (s : State) : Host.Outcome State Fault Refusal :=
  .next (s.arrive port (.readHistory port rep period count))

/-- READ_DAYS (R71). -/
def execReadDays (port : Port) (rep : Bool) (day : BitVec 16) (count : BitVec 8)
    (s : State) : Host.Outcome State Fault Refusal :=
  .next (s.arrive port (.readDays port rep day count))

/-- SET_BOILER_LIMIT (R76). -/
def execSetBoilerLimit (port : Port) (limit : BitVec 16)
    (s : State) : Host.Outcome State Fault Refusal :=
  .next (s.arrive port (.setBoilerLimit port limit))

/-- READ_ENVELOPE (R90). -/
def execReadEnvelope (port : Port) (rep : Bool)
    (s : State) : Host.Outcome State Fault Refusal :=
  .next (s.arrive port (.readEnvelope port rep))

/-- READ_DEMAND (R91). -/
def execReadDemand (port : Port) (rep : Bool) (s : State) : Host.Outcome State Fault Refusal :=
  .next (s.arrive port (.readDemand port rep))

/-- SET_CHANNEL (R112). -/
def execSetChannel (port : Port) (number enabled source : BitVec 8) (fixedPeriod : BitVec 16)
    (s : State) : Host.Outcome State Fault Refusal :=
  .next (s.arrive port (.setChannel port number enabled source fixedPeriod))

/-- SET_LANES (R113). -/
def execSetLanes (port : Port) (split massA massB : BitVec 16)
    (s : State) : Host.Outcome State Fault Refusal :=
  .next (s.arrive port (.setLanes port split massA massB))

/-- CLEAR_JAM (R104). -/
def execClearJam (port : Port) (number : BitVec 8)
    (s : State) : Host.Outcome State Fault Refusal :=
  .next (s.arrive port (.clearJam port number))

/-- READ_CHANNELS (R114). -/
def execReadChannels (port : Port) (rep : Bool)
    (s : State) : Host.Outcome State Fault Refusal :=
  .next (s.arrive port (.readChannels port rep))

/-- POST_STEAM (R116). -/
def execPostSteam (port : Port) (flow : BitVec 16)
    (s : State) : Host.Outcome State Fault Refusal :=
  .next (s.arrive port (.postSteam port flow))

/-- SET_AUX_DEMAND (R118). -/
def execSetAuxDemand (port : Port) (demand : BitVec 16)
    (s : State) : Host.Outcome State Fault Refusal :=
  .next (s.arrive port (.setAuxDemand port demand))

/-- SET_CONSUMERS (R119). -/
def execSetConsumers (port : Port) (turbine extraction : BitVec 8)
    (s : State) : Host.Outcome State Fault Refusal :=
  .next (s.arrive port (.setConsumers port turbine extraction))

/-- POST_ORDER (R120). -/
def execPostOrder (port : Port) (order : OrderArgs)
    (s : State) : Host.Outcome State Fault Refusal :=
  .next (s.arrive port (.postOrder port order))

/-- CANCEL_ORDERS (R123). -/
def execCancelOrders (port : Port) (tag : BitVec 16)
    (s : State) : Host.Outcome State Fault Refusal :=
  .next (s.arrive port (.cancelOrders port tag))

/-- READ_LEDGER (R136). -/
def execReadLedger (port : Port) (rep : Bool) (s : State) : Host.Outcome State Fault Refusal :=
  .next (s.arrive port (.readLedger port rep))

/-- READ_ORDERS (R137). -/
def execReadOrders (port : Port) (rep : Bool) (s : State) : Host.Outcome State Fault Refusal :=
  .next (s.arrive port (.readOrders port rep))

/-- POST_ENERGY (R142). -/
def execPostEnergy (port : Port) (exported heat : BitVec 32)
    (s : State) : Host.Outcome State Fault Refusal :=
  .next (s.arrive port (.postEnergy port exported heat))

/-- RESTORE_METERS (R147). -/
def execRestoreMeters (port : Port) (totals : MeterArgs)
    (s : State) : Host.Outcome State Fault Refusal :=
  .next (s.arrive port (.restoreMeters port totals))

/-- FRESH_METERS (R148). -/
def execFreshMeters (port : Port) (s : State) : Host.Outcome State Fault Refusal :=
  .next (s.arrive port (.freshMeters port))

/-- READ_METERS (R150). -/
def execReadMeters (port : Port) (rep : Bool) (s : State) : Host.Outcome State Fault Refusal :=
  .next (s.arrive port (.readMeters port rep))

/-- ENABLE_WRITE (R154). -/
def execEnableWrite (port : Port) (s : State) : Host.Outcome State Fault Refusal :=
  .next (s.arrive port (.enableWrite port))

/-- PROGRAM_SECTION (R155). -/
def execProgramSection (port : Port) (number : BitVec 8) (image : List Byte)
    (s : State) : Host.Outcome State Fault Refusal :=
  .next (s.arrive port (.programSection port number image))

/-- LOCK_SECTION (R160). -/
def execLockSection (port : Port) (number : BitVec 8)
    (s : State) : Host.Outcome State Fault Refusal :=
  .next (s.arrive port (.lockSection port number))

/-- STORE_STATUS (R162). -/
def execStoreStatus (port : Port) (rep : Bool)
    (s : State) : Host.Outcome State Fault Refusal :=
  .next (s.arrive port (.storeStatus port rep))

/-- READ_SECTION (R162). -/
def execReadSection (port : Port) (rep : Bool) (number selector : BitVec 8)
    (s : State) : Host.Outcome State Fault Refusal :=
  .next (s.arrive port (.readSection port rep number selector))

/-- FETCH (R172). -/
def execFetch (port : Port) (s : State) : Host.Outcome State Fault Refusal :=
  .next (s.arrive port (.fetch port))

/-- READ_NOTICES (R181). -/
def execReadNotices (port : Port) (rep : Bool) (clear : BitVec 8)
    (s : State) : Host.Outcome State Fault Refusal :=
  .next (s.arrive port (.readNotices port rep clear))

/-- SET_QUIET (R182). -/
def execSetQuiet (port : Port) (mask : BitVec 16)
    (s : State) : Host.Outcome State Fault Refusal :=
  .next (s.arrive port (.setQuiet port mask))

/-- PORT_RESET (R183). -/
def execPortReset (port : Port) (s : State) : Host.Outcome State Fault Refusal :=
  .next (s.arrive port (.portReset port))

end Sys2Proof.Machine
end

