-- ==== Sys2Proof/Machine/Events.lean ====
section
/-! DEFINITION. The meanings of the rows that are events of the part: resets, clock edges, stroke timers and pins, store completions, and
the events of a port's link. An event that the state does not allow leaves the state as it is (DESIGN CHOICE, safe: log
entry 8); the lengths of the timers are not modelled (log entry 6). -/

namespace Sys2Proof.Machine

/-- POWER_ON (R16). -/
def execPowerOn (s : State) : Host.Outcome State Fault Refusal := .next s.powerOn

/-- PIN_RESET (R37): the fall of RSTN. -/
def execPinReset (s : State) : Host.Outcome State Fault Refusal := .next s.pinReset

/-- PIN_RESET_RELEASE (R184): the rise of RSTN. -/
def execPinResetRelease (s : State) : Host.Outcome State Fault Refusal := .next s.releaseReset

/-- One rising edge of REFCK (R1): the scaler counts it, or wraps and raises the second event; a stopped clock ignores it. -/
def State.refckEdge (s : State) : State :=
  match s.clock.run with
  | .stopped => s
  | .running =>
    if s.clock.scaler + 1 < s.clock.divisor then s.setClock { s.clock with scaler := s.clock.scaler + 1 } else s.secondEvent

/-- REFCK_EDGE (R1). -/
def execRefckEdge (s : State) : Host.Outcome State Fault Refusal := .next s.refckEdge

/-- SECOND_EVENT (R2): the edge at which the scaler wraps, with the edges still missing before it (DESIGN CHOICE, safe: log entry
5); none is raised while
the clock is STOPPED (R3). -/
def execSecondEvent (s : State) : Host.Outcome State Fault Refusal :=
  match s.clock.run with
  | .stopped => .next s
  | .running => .next s.secondEvent

/-- STROKE_UNIT_TICK (R94). -/
def execStrokeUnitTick (s : State) : Host.Outcome State Fault Refusal := .next s.strokeUnit

/-- PERIOD_EXPIRY (R98). -/
def execPeriodExpiry (ch : StrokeChannel) (s : State) : Host.Outcome State Fault Refusal := .next (s.expirePeriod ch)

/-- STROKE_LIMIT_EXPIRY (R101, R102). -/
def execStrokeLimitExpiry (ch : StrokeChannel) (s : State) : Host.Outcome State Fault Refusal := .next (s.expireLimit ch)

/-- EOS_ARRIVAL (R99). -/
def execEosArrival (ch : StrokeChannel) (s : State) : Host.Outcome State Fault Refusal := .next (s.arriveEos ch)

/-- PROGRAMMING_COMPLETION (R158, R159). -/
def execProgrammingCompletion (s : State) : Host.Outcome State Fault Refusal := .next s.completeProgramming

/-- LOCK_COMPLETION (R160). -/
def execLockCompletion (s : State) : Host.Outcome State Fault Refusal := .next s.completeLock

/-- BAD_FRAME (R170): the bytes of one transaction, taken as the bytes they are. -/
def execBadFrame (port : Port) (bytes : List Byte) (s : State) : Host.Outcome State Fault Refusal :=
  .next (s.transaction port bytes false)

/-- FRAME_SUSPEND (R173): the bytes of one transaction, taken as the bytes they are. -/
def execFrameSuspend (port : Port) (bytes : List Byte) (s : State) : Host.Outcome State Fault Refusal :=
  .next (s.transaction port bytes false)

/-- FRAME_RESUME (R173). -/
def execFrameResume (port : Port) (s : State) : Host.Outcome State Fault Refusal := .next (s.resumeFrame port)

/-- FRAME_TIMEOUT (R174). -/
def execFrameTimeout (port : Port) (s : State) : Host.Outcome State Fault Refusal := .next (s.timeoutFrame port)

/-- LINK_ERROR (R175): the whole bytes of a transaction whose CS rises within the next byte. -/
def execLinkError (port : Port) (bytes : List Byte) (s : State) : Host.Outcome State Fault Refusal :=
  .next (s.transaction port bytes true)

end Sys2Proof.Machine
end

