-- ==== Sys2Proof/Machine/Dispatch.lean ====
section
/-! DEFINITION. One arm per row of spec/opcode_table.json, each a call of that row's meaning. -/

namespace Sys2Proof.Machine

def exec (i : Instr) (s : State) : Host.Outcome State Fault Refusal :=
  match i with
  | .powerOn => Sys2Proof.Machine.execPowerOn s
  | .pinReset => Sys2Proof.Machine.execPinReset s
  | .pinResetRelease => Sys2Proof.Machine.execPinResetRelease s
  | .refckEdge => Sys2Proof.Machine.execRefckEdge s
  | .secondEvent => Sys2Proof.Machine.execSecondEvent s
  | .setTime port day hour minute second divisor offset => Sys2Proof.Machine.execSetTime port day hour minute second divisor offset s
  | .startClock port => Sys2Proof.Machine.execStartClock port s
  | .stopClock port => Sys2Proof.Machine.execStopClock port s
  | .adjustClock port shift => Sys2Proof.Machine.execAdjustClock port shift s
  | .setLead port lead => Sys2Proof.Machine.execSetLead port lead s
  | .readClock port rep => Sys2Proof.Machine.execReadClock port rep s
  | .start port => Sys2Proof.Machine.execStart port s
  | .feed port => Sys2Proof.Machine.execFeed port s
  | .stop port => Sys2Proof.Machine.execStop port s
  | .trip port cause => Sys2Proof.Machine.execTrip port cause s
  | .clearTrip port => Sys2Proof.Machine.execClearTrip port s
  | .postTemperature port value => Sys2Proof.Machine.execPostTemperature port value s
  | .readMode port rep => Sys2Proof.Machine.execReadMode port rep s
  | .postSamples port o2 o2Status entries => Sys2Proof.Machine.execPostSamples port o2 o2Status entries s
  | .setCleaning port availability => Sys2Proof.Machine.execSetCleaning port availability s
  | .setReagents port sorbent carbon reductant => Sys2Proof.Machine.execSetReagents port sorbent carbon reductant s
  | .clearHistory port => Sys2Proof.Machine.execClearHistory port s
  | .readAccumulators port rep => Sys2Proof.Machine.execReadAccumulators port rep s
  | .readHistory port rep period count => Sys2Proof.Machine.execReadHistory port rep period count s
  | .readDays port rep day count => Sys2Proof.Machine.execReadDays port rep day count s
  | .setBoilerLimit port limit => Sys2Proof.Machine.execSetBoilerLimit port limit s
  | .readEnvelope port rep => Sys2Proof.Machine.execReadEnvelope port rep s
  | .readDemand port rep => Sys2Proof.Machine.execReadDemand port rep s
  | .strokeUnitTick => Sys2Proof.Machine.execStrokeUnitTick s
  | .periodExpiry ch => Sys2Proof.Machine.execPeriodExpiry ch s
  | .strokeLimitExpiry ch => Sys2Proof.Machine.execStrokeLimitExpiry ch s
  | .eosArrival ch => Sys2Proof.Machine.execEosArrival ch s
  | .setChannel port number enabled source fixedPeriod => Sys2Proof.Machine.execSetChannel port number enabled source fixedPeriod s
  | .setLanes port split massA massB => Sys2Proof.Machine.execSetLanes port split massA massB s
  | .clearJam port number => Sys2Proof.Machine.execClearJam port number s
  | .readChannels port rep => Sys2Proof.Machine.execReadChannels port rep s
  | .postSteam port flow => Sys2Proof.Machine.execPostSteam port flow s
  | .setAuxDemand port demand => Sys2Proof.Machine.execSetAuxDemand port demand s
  | .setConsumers port turbine extraction => Sys2Proof.Machine.execSetConsumers port turbine extraction s
  | .postOrder port order => Sys2Proof.Machine.execPostOrder port order s
  | .cancelOrders port tag => Sys2Proof.Machine.execCancelOrders port tag s
  | .readLedger port rep => Sys2Proof.Machine.execReadLedger port rep s
  | .readOrders port rep => Sys2Proof.Machine.execReadOrders port rep s
  | .postEnergy port exported heat => Sys2Proof.Machine.execPostEnergy port exported heat s
  | .restoreMeters port totals => Sys2Proof.Machine.execRestoreMeters port totals s
  | .freshMeters port => Sys2Proof.Machine.execFreshMeters port s
  | .readMeters port rep => Sys2Proof.Machine.execReadMeters port rep s
  | .enableWrite port => Sys2Proof.Machine.execEnableWrite port s
  | .programSection port number image => Sys2Proof.Machine.execProgramSection port number image s
  | .programmingCompletion => Sys2Proof.Machine.execProgrammingCompletion s
  | .lockSection port number => Sys2Proof.Machine.execLockSection port number s
  | .lockCompletion => Sys2Proof.Machine.execLockCompletion s
  | .storeStatus port rep => Sys2Proof.Machine.execStoreStatus port rep s
  | .readSection port rep number selector => Sys2Proof.Machine.execReadSection port rep number selector s
  | .fetch port => Sys2Proof.Machine.execFetch port s
  | .readNotices port rep clear => Sys2Proof.Machine.execReadNotices port rep clear s
  | .setQuiet port mask => Sys2Proof.Machine.execSetQuiet port mask s
  | .portReset port => Sys2Proof.Machine.execPortReset port s
  | .badFrame port bytes => Sys2Proof.Machine.execBadFrame port bytes s
  | .frameSuspend port bytes => Sys2Proof.Machine.execFrameSuspend port bytes s
  | .frameResume port => Sys2Proof.Machine.execFrameResume port s
  | .frameTimeout port => Sys2Proof.Machine.execFrameTimeout port s
  | .linkError port bytes => Sys2Proof.Machine.execLinkError port bytes s

end Sys2Proof.Machine
end

