-- ==== Sys2Proof/Safety.lean ====
section
/-! DEFINITION. What the manual says of every state of the running part, as predicates on State: the laws that hold between any two events.
Each is a decidable proposition, so that a test can evaluate it. -/

namespace Sys2Proof.Machine

/-! ## When a port takes a command -/

/-- The port takes the next command frame whole: RSTN is high, no transaction is being ignored, and no frame is in progress. -/
abbrev Ready (p : Port) (s : State) : Prop :=
  s.rstnLow = false ∧ (s.port p).ignoring = false ∧ (s.port p).frame = []

/-- A port at the take of any frame: no frame in progress, the transaction over, ACTIVE (R170, R182). -/
def opened (c : PortCtl) : PortCtl :=
  { c with frame := [], suspended := false, timer := .stopped, csLow := false, ignoring := false, link := .active }

/-- A port after the take of a frame other than FETCH, SET_QUIET and PORT_RESET: no frame in progress, the reply in the slot, disarmed,
ACTIVE; the output buffer, the notice set and the wake mask as they were (R170, R171, R177, R182). -/
def answered (r : Reply) (c : PortCtl) : PortCtl :=
  { c with frame := [], suspended := false, timer := .stopped, csLow := false, ignoring := false, link := .active, arm := none,
           slot := some r }

/-- The state that differs from another only by one port's take of a frame and its reply. -/
def State.replied (p : Port) (r : Reply) (s : State) : State := s.setPort p (answered r (s.port p))

/-- The same for a read command, which arms the port where its repeat flag is set (R177). -/
def State.readReplied (p : Port) (rep : Bool) (cmd : ReadCmd) (r : Reply) (s : State) : State :=
  s.setPort p { answered r (s.port p) with arm := if rep then some cmd else none }

/-- The data of a reply: fields one after the other, each with its width in bytes and its value, most significant byte first (R163,
R165). -/
def fieldsOf (fields : List (Nat × Nat)) : List Byte := fields.flatMap fun f => be f.1 f.2

/-- The two fields of an optional field: its present flag, and its value or zeros (R165). -/
def optionalField (width : Nat) (x : Option Nat) : List (Nat × Nat) := [(1, x.isSome.toNat), (width, x.getD 0)]

/-- A port's notice set holds a cause. -/
def State.holds (p : Port) (n : Notice) (s : State) : Bool := noticeHeld (s.port p).notices n

/-- The read that a read row carries out, with its repeat flag. -/
def asRead : Instr → Option (ReadCmd × Bool)
  | .readClock _ rep => some (.clock, rep)
  | .readMode _ rep => some (.mode, rep)
  | .readAccumulators _ rep => some (.accumulators, rep)
  | .readHistory _ rep period count => some (.history period count, rep)
  | .readDays _ rep day count => some (.days day count, rep)
  | .readEnvelope _ rep => some (.envelope, rep)
  | .readDemand _ rep => some (.demand, rep)
  | .readChannels _ rep => some (.channels, rep)
  | .readLedger _ rep => some (.ledger, rep)
  | .readOrders _ rep => some (.orders, rep)
  | .readMeters _ rep => some (.meters, rep)
  | .storeStatus _ rep => some (.storeStatus, rep)
  | .readSection _ rep number selector => some (.image number selector, rep)
  | .readNotices _ rep clear => some (.notices clear, rep)
  | _ => none

/-- The owning port of a command that has a fixed one (R167, R176). -/
def ownerOf : Instr → Option Port
  | .setTime .. => some .pd
  | .startClock _ => some .pd
  | .stopClock _ => some .pd
  | .adjustClock .. => some .pd
  | .start _ => some .pf
  | .feed _ => some .pf
  | .clearTrip _ => some .pf
  | .postTemperature .. => some .pf
  | .postSamples .. => some .pg
  | .setCleaning .. => some .pg
  | .setReagents .. => some .pg
  | .clearHistory _ => some .pg
  | .setBoilerLimit .. => some .pf
  | .setChannel .. => some .pf
  | .setLanes .. => some .pf
  | .clearJam .. => some .pf
  | .postSteam .. => some .pf
  | .setAuxDemand .. => some .pf
  | .setConsumers .. => some .pd
  | .postOrder .. => some .pd
  | .cancelOrders .. => some .pd
  | .postEnergy .. => some .pd
  | .restoreMeters .. => some .pd
  | .freshMeters _ => some .pd
  | _ => none

/-- The port on whose link a row happens: a command's, or that of a link event; none for a reset, a clock edge, a stroke event and a
store completion. -/
def rowPort : Instr → Option Port
  | .badFrame p _ => some p
  | .frameSuspend p _ => some p
  | .frameResume p => some p
  | .frameTimeout p => some p
  | .linkError p _ => some p
  | i => i.port?

/-- A row that is a reset of the part, or the end of one. -/
def isReset : Instr → Bool
  | .powerOn => true
  | .pinReset => true
  | .pinResetRelease => true
  | _ => false

/-- The command code table (R167): each code, whether it is a read and so may carry 0x80, and its LEN, none for the two whose LEN varies
(POST_SAMPLES 0x20, PROGRAM_SECTION 0x49). -/
def commandTable : List (Nat × Bool × Option Nat) :=
  [(0x01, false, some 9), (0x02, false, some 0), (0x03, false, some 0), (0x04, false, some 1), (0x05, false, some 2),
   (0x06, true, some 0), (0x10, false, some 0), (0x11, false, some 0), (0x12, false, some 0), (0x13, false, some 1),
   (0x14, false, some 0), (0x15, false, some 2), (0x16, true, some 0), (0x20, false, none), (0x21, false, some 1),
   (0x22, false, some 9), (0x23, false, some 0), (0x24, true, some 0), (0x25, true, some 4), (0x26, true, some 3),
   (0x28, false, some 2), (0x29, true, some 0), (0x2A, true, some 0), (0x30, false, some 5), (0x31, false, some 6),
   (0x32, false, some 1), (0x33, true, some 0), (0x38, false, some 2), (0x39, false, some 2), (0x3A, false, some 2),
   (0x3B, false, some 13), (0x3C, false, some 2), (0x3D, true, some 0), (0x3E, true, some 0), (0x40, false, some 8),
   (0x41, false, some 66), (0x42, false, some 0), (0x43, true, some 0), (0x48, false, some 0), (0x49, false, none),
   (0x4A, false, some 1), (0x4B, true, some 0), (0x4C, true, some 2), (0x50, false, some 0), (0x51, true, some 1),
   (0x52, false, some 2), (0x53, false, some 0)]

/-- OP spells the code of a row of the table, a read's with 0x80 added or not (R170, check 2). -/
abbrev spells (op : Nat) (row : Nat × Bool × Option Nat) : Prop := op = row.1 ∨ row.2.1 = true ∧ op = row.1 + 0x80

/-- The arguments' length fits the command of a row (R170, check 3): the table's LEN; for POST_SAMPLES 4 and four for each entry that
argument byte 3 counts; for PROGRAM_SECTION 1 to 1024. -/
def lenFits (row : Nat × Bool × Option Nat) (args : List Byte) : Bool :=
  match row.2.2 with
  | some n => args.length == n
  | none =>
    if row.1 = 0x20 then 4 ≤ args.length && args.length == 4 + 4 * (byteAt args 3).toNat else 1 ≤ args.length && args.length ≤ 1024

/-! ## The plant clock -/

/-- A time of day. -/
abbrev TimeInRange (t : ClockTime) : Prop := t.day ≤ 65535 ∧ t.hour ≤ 23 ∧ t.minute ≤ 59 ∧ t.second ≤ 59

/-- The clock's own law (R1, R4, R5, R14): every counter in its range, the scaler below the divisor and 0 while STOPPED, the leads at
most 1800, and the latched copy that of the counters, with its derived quantities. -/
abbrev ClockLaw (c : Clock) : Prop :=
  TimeInRange c.time ∧ 1 ≤ c.divisor ∧ c.divisor ≤ 65536 ∧ c.offset ≤ 6 ∧ c.scaler < c.divisor
    ∧ (c.run = .stopped → c.scaler = 0) ∧ c.leads.pf ≤ 1800 ∧ c.leads.pg ≤ 1800 ∧ c.leads.pd ≤ 1800 ∧ c.latched = latchedOf c

/-- The law of R7: the mode is COLD whenever the clock is STOPPED. -/
abbrev StoppedIsCold (s : State) : Prop := s.clock.run = .stopped → s.mode.mode = .cold

/-! ## The mode controller -/

/-- The items that go with the mode (R19, R23, R27, R28, R33): the burner request, the timer, the hold causes, the feed-armed flag, the
trip record. -/
abbrev ModeLaw (m : ModeCtl) : Prop :=
  m.burner = burnerFor m.mode
    ∧ m.timer ≤ 60 ∧ (m.timer ≠ 0 → m.mode = .warming ∨ m.mode = .hold)
    ∧ (m.causes ≠ .none → m.mode = .hold)
    ∧ (m.feedArmed = true → m.mode = .warming ∨ m.mode = .firing ∨ m.mode = .hold)
    ∧ (m.mode = .firing ∨ m.mode = .hold → m.feedArmed = true)
    ∧ (m.trip.isSome = true ↔ m.mode = .tripped)
    ∧ m.tempAge ≤ 65535 ∧ m.temp.getD 0 ≤ 1999

/-- The feed interlock as R24 states it: in FIRING cleaning is AVAILABLE and a ram is feed-capable; in HOLD whatever of the two is
missing stands in the hold-cause set; and the controller's facts are those of the blocks that own them. -/
abbrev InterlockLaw (s : State) : Prop :=
  s.mode.cleaning = s.eau.cleaning ∧ (s.mode.rams = 0 ↔ s.sta.rams = 0) ∧ s.sta.rams = countRams s.sta
    ∧ (s.mode.mode = .firing → s.mode.cleaning = .available ∧ 1 ≤ s.mode.rams)
    ∧ (s.mode.mode = .hold → (s.mode.cleaning = .unavailable → s.mode.causes.cleaning = true)
        ∧ (s.mode.rams = 0 → s.mode.causes.noFeed = true))

/-! ## The emission accounts -/

/-- An accumulator within its field ranges, its average at most 999,999 (4.3, R44). -/
abbrev AccumulatorLaw (a : Accumulator) : Prop :=
  a.sum ≤ sumTop ∧ a.sum ≤ a.valid * normTop ∧ a.valid ≤ 65535 ∧ a.cal ≤ 65535 ∧ a.fault ≤ 65535 ∧ a.maint ≤ 65535
    ∧ a.highO2 ≤ 65535 ∧ a.maximum ≤ normTop

/-- The emission unit's law (R46, R48, R54, R55, R63, R67): a period is open exactly while the clock runs and carries the current
period number, the accumulators hold zeros while none is open, the condition is on only in FIRING, the rings keep their depths. -/
abbrev EmissionLaw (s : State) : Prop :=
  (s.eau.period.isSome = true ↔ s.clock.run = .running)
    ∧ (∀ p ∈ s.eau.period.toList, p.number = s.clock.latched.period)
    ∧ (s.eau.period = none → s.eau.accounts = accountsZero)
    ∧ (∀ a ∈ s.eau.accounts.toList, AccumulatorLaw a)
    ∧ (s.eau.staleInFiring = true → s.mode.mode = .firing)
    ∧ s.eau.sampleAge ≤ 65535 ∧ s.eau.halfHours.length ≤ 48 ∧ s.eau.days.length ≤ 8

/-! ## The permit store -/

/-- The values of a LIMITS copy in the ranges of 10.1. -/
abbrev LimitsInRange (l : Limits) : Prop := imageFault .limits (encodeLimits l) = none

/-- The values of a PLANT copy in the ranges of 10.1. -/
abbrev PlantInRange (p : Plant) : Prop := imageFault .plant (encodePlant p) = none

/-- The values of a TARIFF copy in the ranges of 10.1. -/
abbrev TariffInRange (t : Tariff) : Prop := imageFault .tariff (encodeTariff t) = none

/-- A stored section: its lock bit goes with LOCKED, and a VALID or LOCKED section holds an image that passes every check (R153, R156). -/
abbrev SectionLaw (sec : PermitSection) (x : StoredSection) : Prop :=
  (x.lockBit = true ↔ x.state = .locked) ∧ (x.state = .valid ∨ x.state = .locked → imageFault sec x.image = none)

/-- A cycle in flight: a programming cycle carries an image that has passed the checks, for a section that is not LOCKED; a lock cycle
is on a VALID section (R155, R160). -/
def activityLawful (p : PermitStore) : Bool :=
  match p.activity with
  | .idle => true
  | .programming sec _ image => imageFault sec image == none && (p.stored sec).state != .locked
  | .locking sec _ => (p.stored sec).state == .valid

/-- The store's law: every section, every copy and the cycle in flight (R153 to R161). -/
abbrev PermitLaw (p : PermitStore) : Prop :=
  SectionLaw .limits p.limits ∧ SectionLaw .plant p.plant ∧ SectionLaw .tariff p.tariff ∧ activityLawful p = true
    ∧ (∀ l ∈ p.workingLimits.toList ++ p.pendingLimits.toList, LimitsInRange l)
    ∧ (∀ q ∈ p.workingPlant.toList ++ p.heldPlant.toList, PlantInRange q)
    ∧ (∀ t ∈ p.workingTariff.toList ++ p.pendingTariff.toList, TariffInRange t)

/-- The section of a programming cycle in flight. -/
def programming? : StoreActivity → Option PermitSection
  | .programming sec _ _ => some sec
  | _ => none

/-- What the load at a reset leaves of the store (R161): the section of a programming cycle in flight CORRUPT, every other section checked
against its CRC, the working copies those of the VALID and LOCKED images, no copy waiting, IDLE, the latches clear. -/
abbrev StoreLoaded (p q : PermitStore) : Prop :=
  (∀ sec ∈ [PermitSection.limits, .plant, .tariff],
      if programming? p.activity = some sec then
        (q.stored sec).state = .corrupt ∧ (q.stored sec).lockBit = (p.stored sec).lockBit
      else if ((p.stored sec).state = .valid ∨ (p.stored sec).state = .locked) ∧ crcOk (p.stored sec).image = false then
        q.stored sec = { p.stored sec with state := .corrupt }
      else if (p.stored sec).state = .valid ∧ (p.stored sec).lockBit = true then q.stored sec = { p.stored sec with state := .locked }
      else q.stored sec = p.stored sec)
    ∧ q.workingLimits = (loadableImage q.limits).map decodeLimits ∧ q.workingPlant = (loadableImage q.plant).map decodePlant
    ∧ q.workingTariff = (loadableImage q.tariff).map decodeTariff ∧ q.pendingLimits = none ∧ q.pendingTariff = none
    ∧ q.heldPlant = none ∧ q.latches = ⟨false, false, false⟩ ∧ q.activity = .idle

/-! ## The firing envelope -/

/-- The cap's law (R80, R81): both caps lie between F and 1000, the effective cap at or below the computed cap; without a valid LIMITS
copy both are 1000. -/
abbrev CapLaw (s : State) : Prop :=
  s.feu.effectiveCap ≤ s.feu.computedCap ∧ s.feu.computedCap ≤ 1000
    ∧ (∀ l ∈ s.pst.workingLimits.toList, l.floor ≤ s.feu.effectiveCap)
    ∧ (s.pst.workingLimits = none → s.feu.effectiveCap = 1000)

/-- The figures' law (R77 to R80, R89): the ratios, the computed cap, the capping channel and the demand record are at all times those of
the accounts, the availabilities and the working copy as they stand. -/
abbrev FormedLaw (s : State) : Prop :=
  s.feu.figures = capFigures s.pst.workingLimits s.eau ∧ s.feu.computedCap = computedCapOf s.pst.workingLimits s.eau
    ∧ s.feu.capping = cappingOf s.feu.figures s.eau s.feu.computedCap ∧ s.feu.demand = demandsOf s.pst.workingLimits s.eau

/-- The grant's law (R75, R84, R85, R88): the request is the ledger's, the target and the limiting flag are those of the terms as they
stand, the grant is at most the target, and the stroke timer array holds the grant. -/
abbrev GrantLaw (s : State) : Prop :=
  s.feu.request = s.slg.request ∧ s.feu.target = targetOf s.mode.mode s.feu ∧ s.feu.limiting = limitingFlag s.mode.mode s.feu
    ∧ s.feu.grant ≤ s.feu.target ∧ s.sta.grant = s.feu.grant

/-- The lane grants are those of the grant and the split, each at most 1000 (R106). -/
abbrev LaneLaw (a : StrokeArray) : Prop :=
  a.laneA = min 1000 (a.grant * a.split / 500) ∧ a.laneB = min 1000 (a.grant * (1000 - a.split) / 500)

/-- The period of an AUTO channel under the lane grants of an array (R107, R108): from its lane grant for a ram, for a grate channel from
the greater of its lane grant and grate_min in FIRING and from grate_min elsewhere; to the nearest, halves up, at most 65,535 and at least
Ls + 10. -/
def autoPeriod (mode : Mode) (pl : Plant) (a : StrokeArray) (ch : StrokeChannel) : Nat :=
  let lane := laneGrant a ch
  let figure := if isRam ch then lane else if mode = .firing then max lane pl.grateMin else pl.grateMin
  max ((timingOf pl ch).ls + 10) (min 65535 (((timingOf pl ch).pnom * 1000 + figure / 2) / figure))

/-- What the stroke timer array is after it is handed a new grant, from the array before (R106, R109, R110): the grant divided between the
lanes; each AUTO channel in DWELL or STROKE with its computed period in its preload, each waiting AUTO ram whose lane grant reaches 50 at the
start of a cycle under its computed period; a FIXED channel, and an AUTO ram below 50, as it was. -/
abbrev GrantTaken (mode : Mode) (pl : Plant) (grant : Nat) (a b : StrokeArray) : Prop :=
  b = { a with
      grant := grant, laneA := min 1000 (grant * a.split / 500), laneB := min 1000 (grant * (1000 - a.split) / 500)
      channels := b.channels }
    ∧ ∀ ch ∈ StrokeChannel.all, let r := a.channels.get ch
      b.channels.get ch =
        if r.source = .fixed ∨ (isRam ch = true ∧ laneGrant b ch < 50) then r
        else if r.state = .wait then
          { r with state := .dwell, counter := 0, preload := none, period := autoPeriod mode pl b ch, limit := (timingOf pl ch).ls }
        else if r.state = .dwell ∨ r.state = .stroke then { r with preload := some (autoPeriod mode pl b ch) }
        else r

/-- A change of the grant reaches the stroke timer array at its event, and without one the array stays (R85, R106). -/
abbrev GrantFollows (s t : State) : Prop :=
  (t.feu.grant = s.feu.grant → t.sta = s.sta)
    ∧ (t.feu.grant ≠ s.feu.grant → ∀ pl ∈ t.pst.workingPlant.toList, GrantTaken t.mode.mode pl t.feu.grant s.sta t.sta)

/-- What a recomputation of the envelope leaves, from the state before it (R80, R81, R84, R85, R88): the figures formed from the accounts
and the copy as they now stand, the effective cap fallen to a lower computed cap, the target and the limiting flag of the new terms, the
grant fallen to a lower target, the stroke timer array holding it and following its change (R106); the request and the boiler limit as they
were. -/
abbrev RecomputedFrom (s t : State) : Prop :=
  FormedLaw t ∧ t.feu.request = s.feu.request ∧ t.feu.boilerLimit = s.feu.boilerLimit
    ∧ t.feu.effectiveCap = min s.feu.effectiveCap t.feu.computedCap ∧ t.feu.target = targetOf t.mode.mode t.feu
    ∧ t.feu.limiting = limitingFlag t.mode.mode t.feu ∧ t.feu.grant = min s.feu.grant t.feu.target ∧ t.sta.grant = t.feu.grant
    ∧ GrantFollows s t

/-- The firing entry check is met (R26, R28): the qualification timer has counted the dwell of the working LIMITS copy, and in WARMING the
feed is armed, cleaning AVAILABLE and a ram feed-capable, in HOLD no hold cause is left. -/
abbrev EntryMet (lim : Option Limits) (m : ModeCtl) : Prop :=
  ∃ l ∈ lim.toList, l.dwell ≤ m.timer
    ∧ (m.mode = .warming ∧ m.feedArmed = true ∧ m.cleaning = .available ∧ 1 ≤ m.rams ∨ m.mode = .hold ∧ m.causes = .none)

/-- What a stroke channel is after the change of mode into FIRING (R95 to R97, R103, R109): JAMMED or disabled, as it was; OFF, active
under its computed period, or waiting as an AUTO ram below the cutoff; a running grate channel, its AUTO period in its preload. -/
abbrev ChannelFired (u t : State) (ch : StrokeChannel) : Prop :=
  let r := u.sta.channels.get ch
  let x := t.sta.channels.get ch
  let period := computedPeriod .firing u.pst.workingPlant u.sta ch r
  if r.state = .jammed ∨ r.enabled = false then x = r
  else if r.state = .off then
    x = { r with state := x.state, counter := 0, preload := none, period := x.period, limit := x.limit }
      ∧ x.state = (if isRam ch = true ∧ r.source = .auto ∧ laneGrant u.sta ch < 50 then .wait else .dwell)
      ∧ (x.state = .wait → x.period = r.period ∧ x.limit = r.limit)
      ∧ ∀ pl ∈ u.pst.workingPlant.toList, x.state = .dwell → x.limit = (timingOf pl ch).ls ∧ period = some x.period
  else x = { r with preload := if r.source = .auto then period.or r.preload else r.preload }

/-- The change of mode from WARMING or HOLD into FIRING, under the working LIMITS copy, from the state before it (R26, R28, R48, R84, R87,
R88, R97): the burner off, the timer 0, no hold cause; with stale samples the stale-in-FIRING condition begun and the computed cap F; the
target of the terms as they stand, the grant 0; each channel at its start; MODE at all three ports, whose replies stay. -/
abbrev EntersFiring (l : Limits) (u t : State) : Prop :=
  t.mode = { u.mode with mode := .firing, burner := false, timer := 0, causes := .none, trip := none }
    ∧ t.eau = { u.eau with staleInFiring := u.eau.staleInFiring || decide (l.sampleStale ≤ u.eau.sampleAge) }
    ∧ (u.eau.sampleAge < l.sampleStale ∨ u.eau.staleInFiring = true →
        t.feu = { u.feu with target := t.feu.target, limiting := t.feu.limiting })
    ∧ (l.sampleStale ≤ u.eau.sampleAge → u.eau.staleInFiring = false →
        FormedLaw t ∧ t.feu.computedCap = l.floor ∧ t.feu.effectiveCap = min u.feu.effectiveCap l.floor
          ∧ t.feu.request = u.feu.request ∧ t.feu.boilerLimit = u.feu.boilerLimit
          ∧ t.holds .pf .sampleStale = true ∧ t.holds .pg .sampleStale = true)
    ∧ t.feu.target = min (min u.feu.request t.feu.effectiveCap) u.feu.boilerLimit ∧ t.feu.grant = 0
    ∧ t.feu.limiting = decide (t.feu.effectiveCap < u.feu.request ∧ t.feu.effectiveCap < u.feu.boilerLimit)
    ∧ (t.feu.limiting = true → t.holds .pf .capLimiting = true ∧ t.holds .pd .capLimiting = true)
    ∧ t.sta = { u.sta with channels := t.sta.channels } ∧ (∀ ch ∈ StrokeChannel.all, ChannelFired u t ch)
    ∧ (∀ p ∈ Port.all, t.holds p .mode = true) ∧ (∀ p ∈ Port.all, t.port p = { u.port p with notices := (t.port p).notices })
    ∧ t.clock = u.clock ∧ t.slg = u.slg ∧ t.fmu = u.fmu ∧ t.pst = u.pst

/-- What the firing entry check at the end of an event leaves of the state that the event's other effects made (R26, R28): that state
where the check is not met, and the change of mode into FIRING where it is. -/
abbrev EntryChecked (u t : State) : Prop :=
  (¬ EntryMet u.pst.workingLimits u.mode → t = u)
    ∧ ∀ l ∈ u.pst.workingLimits.toList, EntryMet u.pst.workingLimits u.mode → EntersFiring l u t

/-- No waste is fed and no grant given (R85, R87, R95): target and grant 0 at the envelope and at the stroke timer array, and each ram OFF
or JAMMED. -/
abbrev FeedStopped (t : State) : Prop :=
  t.feu.target = 0 ∧ t.feu.grant = 0 ∧ t.feu.limiting = false ∧ t.sta.grant = 0
    ∧ (t.sta.channels.ramA.state = .off ∨ t.sta.channels.ramA.state = .jammed)
    ∧ (t.sta.channels.ramB.state = .off ∨ t.sta.channels.ramB.state = .jammed)

/-- A channel whose gate closes (R96, R103): JAMMED or OFF, as it was; else OFF with its counter at 0 and no preload, its capture, its counts
and its settings kept. A ram released from WAIT earlier in the same event has the period and limit of that release. -/
abbrev Deactivated (r x : StrokeRecord) : Prop :=
  if r.state = .jammed ∨ r.state = .off then x = r
  else x = { r with
    state := .off, counter := 0, preload := none
    period := if r.state = .wait then x.period else r.period, limit := if r.state = .wait then x.limit else r.limit }

/-- A grate channel at an entry into HOLD or BURNOUT under a PLANT copy (R95, R97, R103, R107 to R109, R111): JAMMED, or OFF and disabled, as
it was; started where it was OFF; a channel in DWELL or STROKE runs on, with its computed period, that of grate_min in AUTO, in its preload
where its source is AUTO or the copy is new. -/
abbrev GrateRunsOn (pl : Plant) (new : Bool) (ch : StrokeChannel) (r x : StrokeRecord) : Prop :=
  let timing := timingOf pl ch
  let period := max (timing.ls + 10)
    (if r.source = .fixed then r.fixedPeriod else min 65535 ((timing.pnom * 1000 + pl.grateMin / 2) / pl.grateMin))
  (r.state = .jammed ∨ r.state = .off ∧ r.enabled = false → x = r)
    ∧ (r.enabled = true → r.state = .off →
        x = { r with state := .dwell, counter := 0, preload := none, period := period, limit := timing.ls })
    ∧ (r.enabled = true → r.state = .dwell ∨ r.state = .stroke →
        x = { r with preload := if r.source = .auto ∨ new = true then some period else r.preload })

/-- The array's own items when the grant falls to 0 at a change of mode, from the array before; what is not named stays (R87, R106). -/
abbrev GrantDropped (a b : StrokeArray) : Prop :=
  b = { a with grant := 0, laneA := b.laneA, laneB := b.laneB, rams := b.rams, channels := b.channels }
    ∧ (a.grant ≠ 0 → b.laneA = 0 ∧ b.laneB = 0)

/-- The stroke channels at an entry into HOLD or BURNOUT, from the state before it (R87, R95, R96, R109, R111): the rams' gates close, the
grate runs on at its minimum under the copy then in force, a copy released at the change being new to every running channel. -/
abbrev FeedEnds (s t : State) : Prop :=
  GrantDropped s.sta t.sta
    ∧ (∀ ch ∈ [StrokeChannel.ramA, .ramB], Deactivated (s.sta.channels.get ch) (t.sta.channels.get ch))
    ∧ ∀ pl ∈ t.pst.workingPlant.toList, ∀ ch ∈ StrokeChannel.all, isRam ch = false →
        GrateRunsOn pl (s.pst.heldPlant.isSome && t.pst.heldPlant.isNone) ch (s.sta.channels.get ch) (t.sta.channels.get ch)

/-- The stroke channels at an entry into TRIPPED or COLD, from the state before it: every gate closes (R95, R96). -/
abbrev StrokesStop (s t : State) : Prop :=
  GrantDropped s.sta t.sta ∧ ∀ ch ∈ StrokeChannel.all, Deactivated (s.sta.channels.get ch) (t.sta.channels.get ch)

/-! ## The stroke channels -/

/-- A channel's law (R93, R95, R97): an inactive channel is OFF or JAMMED, an active one is not OFF, only a ram waits. -/
abbrev ChannelLaw (mode : Mode) (ch : StrokeChannel) (r : StrokeRecord) : Prop :=
  (active mode ch r = false → r.state = .off ∨ r.state = .jammed) ∧ (active mode ch r = true → r.state ≠ .off)
    ∧ (r.state = .wait → isRam ch = true)

/-- Every channel's law under the mode. -/
abbrev StrokeLaw (s : State) : Prop := ∀ ch ∈ StrokeChannel.all, ChannelLaw s.mode.mode ch (s.sta.channels.get ch)

/-! ## The steam ledger -/

/-- The law of R130: the four allocations sum to the steam figure. -/
abbrev AllocationLaw (l : Ledger) : Prop := l.alloc.aux + l.alloc.power + l.alloc.heat + l.alloc.dump = l.steam

/-- The division of the steam in the order of service, with the shortfall it leaves (R126, R130, R131): aux, then the consumer that the
active order's priority puts first, then the other, then dump. -/
abbrev ServedInOrder (l : Ledger) : Prop :=
  let rest := l.steam - l.alloc.aux
  let heatFirst := l.active.map Order.priority = some .heatFirst
  l.alloc.aux = min l.aux l.steam
    ∧ l.alloc.power = min l.powerSetpoint (if heatFirst then rest - l.alloc.heat else rest)
    ∧ l.alloc.heat = min l.heatSetpoint (if heatFirst then rest else rest - l.alloc.power)
    ∧ l.alloc.dump = rest - l.alloc.power - l.alloc.heat
    ∧ l.shortfall = l.powerSetpoint + l.heatSetpoint - (l.alloc.power + l.alloc.heat)

/-- What a recomputation of the allocation leaves, from the state before its event (R130 to R132): the steam served in order, the
dump-over flag of the working PLANT copy, and the notices of a shortfall and of a dump-over that arise. -/
abbrev ReallocatedFrom (s t : State) : Prop :=
  ServedInOrder t.slg ∧ (t.slg.dumpOver = true ↔ ∃ pl ∈ t.pst.workingPlant.toList, pl.dumpCap < t.slg.alloc.dump)
    ∧ (0 < t.slg.shortfall → s.slg.shortfall = 0 → t.holds .pd .shortfall = true)
    ∧ (t.slg.dumpOver = true → s.slg.dumpOver = false → t.holds .pd .dumpOver = true ∧ t.holds .pf .dumpOver = true)

/-- A new working PLANT copy at the ledger, from the state before it (R135): the aux demand at most aux max, the targets of the active
order under Snom and heat max, the request of R133 under the bound of R134, the allocation again; the setpoints and the orders stay. -/
abbrev PlantReachesLedger (pl : Plant) (s t : State) : Prop :=
  let aux := min s.slg.aux pl.auxMax
  let power := if s.slg.turbine = .available then (s.slg.active.map fun o => min o.power pl.snom).getD 0 else 0
  let heat := if s.slg.extraction = .available then (s.slg.active.map fun o => min o.heat pl.heatMax).getD 0 else 0
  let asked := min 1000 (((power + heat + aux) * 1000 + pl.snom - 1) / pl.snom)
  t.slg = { s.slg with
      aux := aux, powerTarget := power, heatTarget := heat, request := if s.slg.stale then min asked s.slg.request else asked
      alloc := t.slg.alloc, shortfall := t.slg.shortfall, dumpOver := t.slg.dumpOver }
    ∧ ReallocatedFrom s t ∧ t.feu.request = t.slg.request

/-- What a change of mode to BURNOUT or TRIPPED does with the held PLANT copy (R159): with none held the ledger and the store stay; a held
copy becomes the working copy, the slot empties, and the copy reaches the ledger. -/
abbrev HeldCopyReleased (s t : State) : Prop :=
  (s.pst.heldPlant = none → t.slg = s.slg ∧ t.pst = s.pst)
    ∧ ∀ pl ∈ s.pst.heldPlant.toList,
        t.pst = { s.pst with workingPlant := some pl, heldPlant := none } ∧ PlantReachesLedger pl s t

/-- A ledger in which an order has become the active one under a working PLANT copy (R126, R128, R133, R134): the targets of the order under
Snom and heat max, 0 for a consumer that is UNAVAILABLE, and the request they and the aux demand call for, at most the one held while the
bound of stale steam applies. -/
def Ledger.activeUnder (pl : Plant) (o : Order) (bound : Bool) (l : Ledger) : Ledger :=
  let power := if l.turbine = .available then min o.power pl.snom else 0
  let heat := if l.extraction = .available then min o.heat pl.heatMax else 0
  let asked := min 1000 (((power + heat + l.aux) * 1000 + pl.snom - 1) / pl.snom)
  { l with active := some o, powerTarget := power, heatTarget := heat, request := if bound then min asked l.request else asked }

/-- What an activation leaves, from the state before its event (R126, R128, R130 to R134): the order active with its targets and its request,
the same request at the envelope, the steam served again, ORDER_ACTIVE at PD; the setpoints and all else of the ledger but the queue stay. -/
abbrev OrderActivated (pl : Plant) (o : Order) (s t : State) : Prop :=
  t.slg = { s.slg.activeUnder pl o s.slg.stale with
      queue := t.slg.queue, alloc := t.slg.alloc, shortfall := t.slg.shortfall, dumpOver := t.slg.dumpOver }
    ∧ ReallocatedFrom s t ∧ t.feu.request = t.slg.request ∧ t.holds .pd .orderActive = true

/-- A setpoint moved toward a target by at most a ramp rate (R129). -/
def movedBy (rate target setpoint : Nat) : Nat :=
  if setpoint < target then min target (setpoint + rate) else if target < setpoint then max target (setpoint - rate) else setpoint

/-- What an activation at a second event leaves, from the state before the event (R117, R126, R129): either the ledger's own second comes
first, which moves the setpoints at the old rate toward the old targets, and the stale flag as the event leaves it bounds the request; or
the activation comes first, the flag held bounds the request, and the setpoints move at the new rate toward the new targets. -/
abbrev OrderActivatedAtSecond (pl : Plant) (o : Order) (s t : State) : Prop :=
  (∃ secondFirst : Bool,
    let l := s.slg.activeUnder pl o (if secondFirst then t.slg.stale else s.slg.stale)
    let ramped := if secondFirst then s.slg else l
    let rate := (ramped.active.map Order.ramp).getD 0
    t.slg = { l with
        queue := t.slg.queue, age := min 65535 (s.slg.age + 1), stale := t.slg.stale
        powerSetpoint := movedBy rate ramped.powerTarget s.slg.powerSetpoint
        heatSetpoint := movedBy rate ramped.heatTarget s.slg.heatSetpoint
        alloc := t.slg.alloc, shortfall := t.slg.shortfall, dumpOver := t.slg.dumpOver })
    ∧ (t.slg.stale = true ↔ s.slg.stale = true ∨ pl.steamStale ≤ min 65535 (s.slg.age + 1))
    ∧ ReallocatedFrom s t ∧ t.feu.request = t.slg.request ∧ t.holds .pd .orderActive = true

/-- The key of a daily order's next occurrence: its hour and minute on the current day where they are later than the current minute, else
on the day that follows (R121). -/
def nextKey (now : Nat) (o : Order) : Nat :=
  let today := now / 1440 * 1440 + o.hour * 60 + o.minute
  if now < today then today else today + 1440

/-- The queue with the keys at or above 94,371,840 brought back by that amount, to the front, where the ascending order has them: they
stand beside keys of day 65,535 alone (R127). -/
def broughtBack (queue : List QueuedOrder) : List QueuedOrder :=
  (queue.filter fun q => 94371840 ≤ q.key).map (fun q => { q with key := q.key - 94371840 })
    ++ queue.filter fun q => q.key < 94371840

/-- A daily order that falls due is not put back (R125): a later order holds its next key, or one due before it has taken it. -/
def putBackBarred (now : Nat) (due later : List QueuedOrder) (q : QueuedOrder) (place : Nat) : Bool :=
  later.any (fun x => x.key == nextKey now q.order)
    || (due.take place).any fun x => x.order.day.isNone && nextKey now x.order == nextKey now q.order

/-- The queue and the notices after an activation, from the orders due and the orders for later minutes (R124, R125): every later order
stays; each daily order due is put back unchanged under its next key, or dropped with ORDER_DROPPED where that key is taken; nothing
else is queued, and the keys ascend. -/
abbrev PutBack (now : Nat) (due later : List QueuedOrder) (s t : State) : Prop :=
  t.slg.queue.Pairwise (fun a b => a.key < b.key) ∧ (∀ q ∈ later, q ∈ t.slg.queue)
    ∧ (∀ x ∈ due.zipIdx, x.1.order.day = none → putBackBarred now due later x.1 x.2 = false →
        { key := nextKey now x.1.order, order := x.1.order } ∈ t.slg.queue)
    ∧ (∀ q ∈ t.slg.queue, q ∈ later ∨ ∃ d ∈ due, d.order.day = none ∧ q = { key := nextKey now d.order, order := d.order })
    ∧ (t.holds .pd .orderDropped = true ↔ s.holds .pd .orderDropped = true
        ∨ ∃ x ∈ due.zipIdx, x.1.order.day = none ∧ putBackBarred now due later x.1 x.2 = true)

/-- A queued order's own law: its time of day in range, and for a one-shot order the key of its own minute (R120, R121). -/
abbrev QueuedLaw (q : QueuedOrder) : Prop :=
  q.order.hour ≤ 23 ∧ q.order.minute ≤ 59 ∧ q.key < keyWrap + 1440
    ∧ (∀ d ∈ q.order.day.toList, d ≤ 65535 ∧ q.key = d * 1440 + q.order.hour * 60 + q.order.minute)

/-- The law of R122: at most 16 orders in strictly ascending key, and while the clock runs none at or before the current minute. The
keys past the wrap stand beside keys of day 65,535 alone, and while the clock runs on that day alone (R121, R127). -/
abbrev QueueLaw (s : State) : Prop :=
  s.slg.queue.length ≤ 16 ∧ s.slg.queue.Pairwise (fun a b => a.key < b.key) ∧ (∀ q ∈ s.slg.queue, QueuedLaw q)
    ∧ (s.clock.run = .running → ∀ q ∈ s.slg.queue, s.clock.latched.minuteKey < q.key)
    ∧ (s.clock.run = .running → s.clock.latched.time.day < 65535 → ∀ q ∈ s.slg.queue, q.key < keyWrap)
    ∧ (∀ q ∈ s.slg.queue, keyWrap ≤ q.key → ∀ r ∈ s.slg.queue, 65535 * 1440 ≤ r.key)

/-! ## The fiscal meters -/

/-- The number that a total's digits spell, least significant first. -/
def totalValue : Digits → Nat
  | [] => 0
  | d :: ds => d + 10 * totalValue ds

/-- A total: twelve digits, each 0 to 9 (R139). -/
abbrev TotalLaw (d : Digits) : Prop := d.length = 12 ∧ ∀ x ∈ d, x ≤ 9

/-- The law of R139 for EXPORT and for HEAT, with the range of the residue (R143). -/
abbrev EnergyLaw (m : EnergyMeter) : Prop :=
  (∀ d ∈ m.bands.toList, TotalLaw d) ∧ TotalLaw m.grand ∧ bandSum m.bands = m.grand ∧ m.residue ≤ 999
    ∧ ∀ w ∈ m.waiting.toList, w ≤ waitTop

/-- The meters' law (R139, R140, R146): every total of digits, the band sums equal to the grand totals modulo 10^12, totals of zeros
while UNSET, and accumulators that are empty once RUNNING. -/
abbrev MeterLaw (m : Meters) : Prop :=
  EnergyLaw m.exported ∧ EnergyLaw m.heat ∧ TotalLaw m.waste.grand ∧ m.waste.waiting ≤ waitTop
    ∧ (m.state = .unset → m.exported.bands = totalsZero.exported ∧ m.exported.grand = zeroTotal ∧ m.heat.bands = totalsZero.heat
        ∧ m.heat.grand = zeroTotal ∧ m.waste.grand = zeroTotal)
    ∧ (m.state = .running → m.exported.waiting = ⟨0, 0, 0, 0⟩ ∧ m.heat.waiting = ⟨0, 0, 0, 0⟩ ∧ m.waste.waiting = 0)

/-! ## The ports -/

/-- A port controller's law (R171, R173, R174): the frame in progress is a frame begun and not complete, it is suspended exactly while
the timer runs, and the timer runs only while CS is high. -/
abbrev PortLaw (c : PortCtl) : Prop :=
  (c.frame = [] ∨ frameState c.frame = .part c.frame) ∧ (c.suspended = true ↔ c.timer = .running)
    ∧ (c.suspended = true → c.frame ≠ [] ∧ c.csLow = false) ∧ (c.ignoring = true → c.csLow = true ∧ c.frame = [])

/-- Every port's law, and no frame in progress while RSTN is low (R184). -/
abbrev PortsLaw (s : State) : Prop :=
  ∀ p ∈ Port.all, PortLaw (s.port p) ∧ (s.rstnLow = true → (s.port p).frame = [] ∧ (s.port p).ignoring = false)

end Sys2Proof.Machine
end

