-- ==== Sys2Proof/Certificates/Slice0/Obligations.lean ====
section
/-! DEFINITION. The statements for the provers, each a proposition about the model for every state that meets its hypotheses. A command is
stated through `exec`, with the port ready to take it (`Ready`); where a statement gives the next state whole, everything it does not
write is unchanged. -/

open Sys2Proof Sys2Proof.Machine

/-! ## The step -/

/-- A step takes the command at the front of the queue and carries it out with the queue's rest. The queue and its order are the model's
choice (log entries 7 and 13). -/
def Obligations.StepTakesFront : Prop :=
  ∀ (c : Instr) (rest : List Instr) (s : State), step { s with pending := c :: rest } = exec c { s with pending := rest }

/-- Every command and every event of the part completes: `exec` answers a next state, leaves the queue alone, and moves the level of
RSTN only at the two rows that are its edges: POWER_ON keeps it (the model's choice, log entry 11). With an empty queue the part idles
(the model's choice, log entry 7). -/
def Obligations.EveryRowCompletes : Prop :=
  (∀ (i : Instr) (s : State), ∃ t, exec i s = .next t ∧ t.pending = s.pending ∧ (i ≠ .pinReset → i ≠ .pinResetRelease → t.rstnLow = s.rstnLow))
    ∧ ∀ s : State, s.pending = [] → step s = .next s

/-- The machine after reset meets every law of Safety.lean. That this machine has a blank store, RSTN high and every CS high is the
model's choice (log entry 22). -/
def Obligations.ResetMeetsTheLaws : Prop :=
  ClockLaw State.reset.clock ∧ StoppedIsCold State.reset ∧ ModeLaw State.reset.mode ∧ InterlockLaw State.reset
    ∧ EmissionLaw State.reset ∧ PermitLaw State.reset.pst ∧ CapLaw State.reset ∧ FormedLaw State.reset ∧ GrantLaw State.reset
    ∧ LaneLaw State.reset.sta ∧ StrokeLaw State.reset ∧ AllocationLaw State.reset.slg ∧ QueueLaw State.reset ∧ MeterLaw State.reset.fmu
    ∧ PortsLaw State.reset

/-! ## Frames -/

/-- Every command that fits a frame is read back from its own frame, with every argument at every value (R163 to R167, R170). -/
def Obligations.CommandFrameRoundTrip : Prop :=
  ∀ (i : Instr) (p : Port), i.port? = some p → i.wellFormed = true → checkFrame p (commandFrame i) = .command i

/-- A frame cut anywhere on a byte boundary is suspended with its timer running, resumed by the fall of CS, and acts as if sent whole
(R173). A rest that is itself a PORT_RESET frame is taken as one (R183) and is left out here. That a command row met by a frame in
progress sends the rest of its own frame is the model's choice (log entry 9). -/
def Obligations.FrameSplitAnywhere : Prop :=
  ∀ (i : Instr) (p : Port) (a b : List Byte) (s : State), i.port? = some p → i.wellFormed = true → Ready p s →
    commandFrame i = a ++ b → a ≠ [] → b ≠ [] → b ≠ portResetFrame →
    let u := s.setPort p { s.port p with frame := a, suspended := true, timer := .running, csLow := false, ignoring := false }
    let v := s.setPort p { s.port p with frame := a, suspended := false, timer := .stopped, csLow := true, ignoring := false }
    exec (.frameSuspend p a) s = .next u ∧ exec (.frameResume p) u = .next v ∧ exec i u = exec i s ∧ exec i v = exec i s

/-- Idle bytes before a frame and bytes after it are dropped; the frame itself is answered BAD_CRC, UNKNOWN_OP or BAD_LEN, or acts as its
command; a header whose LEN is above 1024 is answered BAD_LEN (R169, R170). The three checks in their order: BAD_CRC where the last two bytes
are not the CRC-16 of those before them, else UNKNOWN_OP where OP spells no code of the table, nor a read's with 0x80 added, else BAD_LEN
where the length does not fit that command (R167, R170). -/
def Obligations.FrameDelimitedAndChecked : Prop :=
  ∀ (p : Port) (idle : Nat) (frame after : List Byte) (s : State), Ready p s → frame.head? ≠ some 0xFF#8 →
    (frameState frame = .complete frame →
      exec (.badFrame p (List.replicate idle 0xFF#8 ++ frame ++ after)) s =
        match checkFrame p frame with
        | .badCrc => .next (s.replied p (.plain .badCrc))
        | .unknownOp => .next (s.replied p (.plain .unknownOp))
        | .badLen => .next (s.replied p (.plain .badLen))
        | .command i => exec i s)
    ∧ (frameState frame = .tooLong →
      exec (.badFrame p (List.replicate idle 0xFF#8 ++ frame ++ after)) s = .next (s.replied p (.plain .badLen)))
    ∧ (frameState frame = .complete frame →
      let op := (byteAt frame 0).toNat
      let args := (frame.drop 3).take (frame.length - 5)
      let closed := frame = withCrc (frame.take (frame.length - 2))
      (checkFrame p frame = .badCrc ↔ ¬ closed)
      ∧ (checkFrame p frame = .unknownOp ↔ closed ∧ ∀ row ∈ commandTable, ¬ spells op row)
      ∧ (checkFrame p frame = .badLen ↔ closed ∧ ∃ row ∈ commandTable, spells op row ∧ lenFits row args = false)
      ∧ ∀ i, checkFrame p frame = .command i → i.port? = some p ∧ i.opcode = op)

/-- The events of a port's link: FRAME_SUSPEND joins bytes to the frame in progress and starts the timer, FRAME_RESUME stops it,
FRAME_TIMEOUT and LINK_ERROR discard the frame with their status in the slot and leave the arm, the link and the set (R173 to R175). A
LINK_ERROR with no frame in progress leaves the slot as it was; a complete frame before the cut byte is taken, and answered BAD_CRC,
UNKNOWN_OP or BAD_LEN or carried out as its command, and a frame whose LEN is above 1024 is answered BAD_LEN (R169, R170, R175). While
RSTN is low, and for a transaction already under way at its release, a port takes nothing (R184). A FRAME_TIMEOUT with the timer stopped
does nothing (the model's choice, log entry 8). -/
def Obligations.LinkEventsOfAFrame : Prop :=
  ∀ (p : Port) (bytes all : List Byte) (s : State),
    (exec (.frameResume p) s = .next (s.setPort p { s.port p with csLow := true, suspended := false, timer := .stopped }))
    ∧ ((s.port p).timer = .running → exec (.frameTimeout p) s = .next (s.setPort p { s.port p with
        frame := [], suspended := false, timer := .stopped, slot := some (.plain .frameTimeout) }))
    ∧ ((s.port p).timer = .stopped → exec (.frameTimeout p) s = .next s)
    ∧ (s.rstnLow = false → (s.port p).ignoring = false → frameState (joinBytes (s.port p).frame bytes) = .part all →
      (bytes ≠ portResetFrame → exec (.frameSuspend p bytes) s = .next (s.setPort p { s.port p with
        frame := all, suspended := true, timer := .running, csLow := false, ignoring := false }))
      ∧ exec (.linkError p bytes) s = .next (s.setPort p { s.port p with
        frame := [], suspended := false, timer := .stopped, csLow := false, ignoring := false, slot := some (.plain .linkError) }))
    ∧ (s.rstnLow = false → (s.port p).ignoring = false →
      (frameState (joinBytes (s.port p).frame bytes) = .idle →
        exec (.linkError p bytes) s = .next (s.setPort p { s.port p with csLow := false, ignoring := false }))
      ∧ (frameState (joinBytes (s.port p).frame bytes) = .tooLong →
        exec (.linkError p bytes) s = .next (s.replied p (.plain .badLen)))
      ∧ ∀ frame, frameState (joinBytes (s.port p).frame bytes) = .complete frame →
        exec (.linkError p bytes) s =
          match checkFrame p frame with
          | .badCrc => .next (s.replied p (.plain .badCrc))
          | .unknownOp => .next (s.replied p (.plain .unknownOp))
          | .badLen => .next (s.replied p (.plain .badLen))
          | .command i => exec i (s.setPort p { s.port p with frame := [], suspended := false, timer := .stopped }))
    ∧ (s.rstnLow = true ∨ (s.port p).ignoring = true →
      (∀ i, i.port? = some p → exec i s = .next (s.setPort p { s.port p with csLow := false, ignoring := false }))
      ∧ exec (.frameSuspend p bytes) s = .next (s.setPort p { s.port p with csLow := false, ignoring := false })
      ∧ exec (.badFrame p bytes) s = .next (s.setPort p { s.port p with csLow := false, ignoring := false })
      ∧ exec (.linkError p bytes) s = .next (s.setPort p { s.port p with csLow := false, ignoring := false }))

/-! ## Replies, reads and ports -/

/-- FETCH: the slot's reply moves to the output buffer, an armed read is carried out again, or NO_REPLY stands in; the slot is empty
after it and the arm stays (R172, R178). The carrying-out of an armed read is that of the read command itself at its own take. -/
def Obligations.FetchFillsTheOutputBuffer : Prop :=
  ∀ (p : Port) (s : State), Ready p s →
    (∀ r, (s.port p).slot = some r →
      exec (.fetch p) s = .next (s.setPort p { opened (s.port p) with output := some r, slot := none }))
    ∧ ((s.port p).slot = none → (s.port p).arm = none →
      exec (.fetch p) s = .next (s.setPort p { opened (s.port p) with output := some ⟨.noReply, []⟩, slot := none }))
    ∧ (∀ cmd, (s.port p).slot = none → (s.port p).arm = some cmd →
      let v := s.setPort p (opened (s.port p))
      exec (.fetch p) s = .next ((v.runRead p cmd).1.setPort p
        { (v.runRead p cmd).1.port p with output := some (v.runRead p cmd).2, slot := none }))
    ∧ (∀ i cmd rep, i.port? = some p → asRead i = some (cmd, rep) →
      let v := s.setPort p { opened (s.port p) with arm := none }
      exec i s = .next ((v.runRead p cmd).1.setPort p { (v.runRead p cmd).1.port p with
        slot := some (v.runRead p cmd).2
        arm := if rep = true ∧ (v.runRead p cmd).2.status ≠ .range then some cmd else none }))

/-- SET_QUIET and PORT_RESET, whole; a PORT_RESET reaches its port whatever frame is in progress there; and a port's attention line is
asserted exactly while its notice set holds a cause that is not masked, in QUIET one outside the wake mask being masked (R181 to R183). -/
def Obligations.QuietAndPortReset : Prop :=
  ∀ (p : Port) (mask : BitVec 16) (s : State),
    (Ready p s →
      exec (.setQuiet p mask) s = .next (s.setPort p { answered (.plain .ok) (s.port p) with link := .quiet, wakeMask := mask }))
    ∧ (s.rstnLow = false → (s.port p).ignoring = false →
      exec (.portReset p) s = .next ((s.setPort p { answered (.plain .ok) (s.port p) with
        output := none, notices := 0#16, wakeMask := 0#16 }).setPst { s.pst with latches := s.pst.latches.set p false })
      ∧ exec (.frameSuspend p portResetFrame) s = exec (.portReset p) s)
    ∧ (attention (s.port p) = true ↔
      ∃ n, s.holds p n = true ∧ ((s.port p).link = .quiet → noticeHeld (s.port p).wakeMask n = true))

/-- Every command but FETCH, SET_QUIET and PORT_RESET leaves a reply in its port's slot, no frame in progress, the link ACTIVE, and the port
disarmed, or armed with the command itself for a read with the repeat flag that was not refused RANGE; the output buffer and the mask stay
(R170, R171, R177, R182). -/
def Obligations.TakeLeavesTheReply : Prop :=
  ∀ (i : Instr) (p : Port) (s : State), i.port? = some p → Ready p s → i ≠ .fetch p → (∀ m, i ≠ .setQuiet p m) → i ≠ .portReset p →
    ∃ t r, exec i s = .next t ∧ t.port p = { answered r (s.port p) with
      notices := (t.port p).notices
      arm := match asRead i with
        | some (cmd, true) => if r.status = .range then none else some cmd
        | _ => none }

/-- A row on one port's link, or on none, changes no other port: it can only add causes to that port's notice set (R176, R180). -/
def Obligations.OtherPortsOnlyGainNotices : Prop :=
  ∀ (i : Instr) (p : Port) (s t : State), isReset i = false → rowPort i ≠ some p → exec i s = .next t →
    t.port p = { s.port p with notices := (t.port p).notices } ∧ ∀ n, s.holds p n = true → t.holds p n = true

/-- A command with a fixed owning port, sent on another port, is answered NOT_OWNER and changes nothing else (R176). -/
def Obligations.NotOwnerChangesNothing : Prop :=
  ∀ (i : Instr) (p q : Port) (s : State), i.port? = some p → ownerOf i = some q → p ≠ q → Ready p s →
    exec i s = .next (s.replied p (.plain .notOwner))

/-- The reads return the state as it stands, field by field in the order of their rules, and change nothing but their port; READ_NOTICES
returns the set before it clears it, READ_SECTION the image its selector names, and each refuses RANGE an argument outside its codes (R6,
R35, R53, R90, R91, R114, R136, R137, R150, R162, R177, R181, with the codes and widths of R165). The zeros of an absent group behind one
present flag, and of the figure of an AUTO ram that has no computed period, are the model's choice (log entries 12 and 28), as are the day
type without a TARIFF copy (log entry 29), the serial of a CORRUPT section (log entry 4) and READ_MODE's number of rams (log entry 18). -/
def Obligations.ReadsReturnTheState : Prop :=
  ∀ (p : Port) (rep : Bool) (number selector clear : BitVec 8) (s : State), Ready p s →
    let told (cmd : ReadCmd) (data : List (Nat × Nat)) := s.readReplied p rep cmd ⟨.ok, fieldsOf data⟩
    let ready (a : Availability) : Nat := if a = .available then 1 else 0
    let modeCode := [Mode.cold, .warming, .firing, .hold, .burnout, .tripped].idxOf s.mode.mode
    let cause (c : TripCause) : Nat × Nat := match c with
      | .byPort q code => ([Port.pf, .pg, .pd].idxOf q, code)
      | .overTemp => (3, 1)
      | .grateJam => (3, 2)
      | .reset => (3, 3)
    let reagent (r : ReagentSetting) : List (Nat × Nat) := [(1, ready r.availability), (2, r.base)]
    let order (o : Order) : List (Nat × Nat) := [(2, o.tag)] ++ optionalField 2 o.day ++ [(1, o.hour), (1, o.minute), (2, o.power), (2, o.heat),
      (1, if o.priority = .powerFirst then 0 else 1), (1, o.ramp)]
    let addition (a : Option LastAddition) : List (Nat × Nat) := [(1, a.isSome.toNat), (1, (a.map LastAddition.band).getD 0),
      (3, (a.map LastAddition.period).getD 0)]
    let digits (d : Digits) : List (Nat × Nat) := [(1, d.getD 11 0 * 16 + d.getD 10 0), (1, d.getD 9 0 * 16 + d.getD 8 0), (1, d.getD 7 0 * 16 + d.getD 6 0),
      (1, d.getD 5 0 * 16 + d.getD 4 0), (1, d.getD 3 0 * 16 + d.getD 2 0), (1, d.getD 1 0 * 16 + d.getD 0 0)]
    let energy (m : EnergyMeter) : List (Nat × Nat) := digits m.bands.band0 ++ digits m.bands.band1 ++ digits m.bands.band2 ++ digits m.bands.band3
      ++ digits m.grand ++ [(2, m.residue), (1, m.wrapped.toNat), (4, m.waiting.band0), (4, m.waiting.band1), (4, m.waiting.band2),
        (4, m.waiting.band3)]
    let sectionCode (x : StoredSection) := [SectionState.blank, .valid, .corrupt, .locked].idxOf x.state
    let c := s.clock.latched
    let trip := s.mode.trip
    let tooOld := ∀ l ∈ s.pst.workingLimits.toList, l.sampleStale ≤ s.eau.sampleAge
    let tempOld := s.mode.temp = none ∨ ∀ l ∈ s.pst.workingLimits.toList, l.tempStale ≤ s.mode.tempAge
    let copy (f : Plant → Nat) : Nat := (s.pst.workingPlant.map f).getD 0
    exec (.readClock p rep) s = .next (told .clock [(1, if c.run = .running then 1 else 0), (2, c.time.day), (1, c.time.hour),
        (1, c.time.minute), (1, c.time.second), (1, c.weekday), (1, c.offset), (3, c.divisor), (3, c.period), (4, c.minuteKey),
        (2, c.remaining), (2, s.clock.leads.pf), (2, s.clock.leads.pg), (2, s.clock.leads.pd)])
    ∧ exec (.readMode p rep) s = .next (told .mode ([(1, modeCode), (1, s.mode.causes.lowTemp.toNat),
        (1, s.mode.causes.tempStale.toNat), (1, s.mode.causes.cleaning.toNat), (1, s.mode.causes.noFeed.toNat),
        (1, s.mode.feedArmed.toNat), (1, s.mode.burner.toNat), (1, s.mode.timer),
        (1, if ∃ l ∈ s.pst.workingLimits.toList, l.dwell ≤ s.mode.timer then 1 else 0)] ++ optionalField 2 s.mode.temp
      ++ [(2, s.mode.tempAge), (1, if tempOld then 1 else 0), (1, s.mode.rams), (1, ready s.mode.cleaning), (1, trip.isSome.toNat),
        (1, (trip.map fun r => (cause r.cause).1).getD 0), (1, (trip.map fun r => (cause r.cause).2).getD 0),
        (2, (trip.map TripRecord.day).getD 0), (3, (trip.map TripRecord.secondOfDay).getD 0), (1, (trip.map TripRecord.count).getD 0)]))
    ∧ exec (.readAccumulators p rep) s = .next (told .accumulators ([(1, s.eau.period.isSome.toNat),
        (3, (s.eau.period.map OpenPeriod.number).getD 0), (1, (s.eau.period.map fun x => x.fired.toNat).getD 0),
        (1, (s.eau.period.map fun x => x.isPart.toNat).getD 0)] ++ optionalField 2 (s.periodCopy.map Limits.serial)
      ++ (Pollutant.all.flatMap fun ch =>
        let a := s.eau.accounts.get ch
        [(4, a.sum), (2, a.valid), (2, a.cal), (2, a.fault), (2, a.maint), (2, a.highO2), (3, a.maximum), (1, a.saturated.toNat),
          (3, if a.valid = 0 then 0 else a.sum / a.valid)])
      ++ [(2, s.eau.sampleAge), (1, if tooOld then 1 else 0), (1, s.eau.staleInFiring.toNat), (1, s.eau.marker.isSome.toNat),
        (2, (s.eau.marker.map ClockTime.day).getD 0), (1, (s.eau.marker.map ClockTime.hour).getD 0),
        (1, (s.eau.marker.map ClockTime.minute).getD 0), (1, (s.eau.marker.map ClockTime.second).getD 0), (1, ready s.eau.cleaning)]
      ++ reagent s.eau.reagents.sorbent ++ reagent s.eau.reagents.carbon ++ reagent s.eau.reagents.reductant))
    ∧ exec (.readEnvelope p rep) s = .next (told .envelope ([(2, s.feu.request), (2, s.feu.boilerLimit), (2, s.feu.computedCap),
        (2, s.feu.effectiveCap), (2, s.feu.target), (2, s.feu.grant), (1, s.feu.limiting.toNat)]
      ++ optionalField 1 (s.feu.capping.map Pollutant.id) ++ [(1, s.eau.staleInFiring.toNat)]
      ++ (Pollutant.all.flatMap fun ch =>
        let f := s.feu.figures.get ch
        [(2, f.ratio), (1, f.takesPart.toNat), (2, f.cap)])
      ++ optionalField 2 (s.pst.workingLimits.map Limits.serial) ++ [(2, (s.pst.workingLimits.map Limits.floor).getD 0),
        (1, (s.pst.workingLimits.map Limits.recovery).getD 0), (1, copy Plant.grantRamp)]))
    ∧ exec (.readDemand p rep) s = .next (told .demand ([Reagent.sorbent, .carbon, .reductant].flatMap fun r =>
        let d := s.feu.demand.get r
        reagent (s.eau.reagents.get r) ++ [(2, d.demand)] ++ optionalField 2 (d.driving.map fun x => x.1)
          ++ optionalField 1 (d.driving.map fun x => x.2.id)))
    ∧ exec (.readChannels p rep) s = .next (told .channels ([(2, s.sta.grant), (2, s.sta.split), (2, s.sta.laneA), (2, s.sta.laneB),
        (2, s.sta.massA), (2, s.sta.massB), (1, s.sta.rams)] ++ StrokeChannel.all.flatMap fun ch =>
      let r := s.sta.channels.get ch
      let waits := isRam ch = true ∧ r.source = .auto ∧ laneGrant s.sta ch < 50
      [(1, [ChannelState.off, .wait, .dwell, .stroke, .jammed].idxOf r.state), (1, r.enabled.toNat),
        (1, if r.source = .auto then 0 else 1), (2, r.fixedPeriod), (2, r.period), (2, r.limit), (2, r.counter)]
        ++ optionalField 2 r.preload ++ [(2, r.capture), (1, r.jamCount), (4, r.strokeCount),
          (2, (computedPeriod s.mode.mode s.pst.workingPlant s.sta ch r).getD 0),
          (1, if s.pst.workingPlant ≠ none ∧ waits then 1 else 0)]))
    ∧ exec (.readLedger p rep) s = .next (told .ledger [(2, s.slg.steam), (1, s.slg.present.toNat), (2, s.slg.age),
        (1, s.slg.stale.toNat), (2, s.slg.aux), (1, ready s.slg.turbine), (1, ready s.slg.extraction), (2, s.slg.powerTarget),
        (2, s.slg.heatTarget), (2, s.slg.powerSetpoint), (2, s.slg.heatSetpoint),
        (1, if s.slg.active.map Order.priority = some .heatFirst then 1 else 0), (1, (s.slg.active.map Order.ramp).getD 0),
        (1, s.slg.active.isNone.toNat), (2, s.slg.alloc.aux), (2, s.slg.alloc.power), (2, s.slg.alloc.heat), (2, s.slg.alloc.dump),
        (3, s.slg.shortfall), (1, s.slg.dumpOver.toNat), (2, s.slg.request), (2, copy Plant.snom), (2, copy Plant.auxMax),
        (2, copy Plant.heatMax), (2, copy Plant.dumpCap), (1, copy Plant.steamStale)])
    ∧ exec (.readOrders p rep) s = .next (told .orders ([(4, c.minuteKey), (1, s.slg.active.isSome.toNat)]
      ++ (s.slg.active.map order).getD [(13, 0)] ++ [(1, s.slg.queue.length)]
      ++ s.slg.queue.flatMap fun q => (4, q.key) :: order q.order))
    ∧ exec (.readMeters p rep) s = .next (told .meters ([(1, if s.fmu.state = .running then 1 else 0), (1, s.fmu.pendingSat.toNat)]
      ++ energy s.fmu.exported ++ energy s.fmu.heat ++ digits s.fmu.waste.grand ++ [(1, s.fmu.waste.wrapped.toNat), (4, s.fmu.waste.waiting)]
      ++ addition s.fmu.exported.last ++ addition s.fmu.heat.last ++ addition s.fmu.waste.last
      ++ [(1, s.band), (1, c.time.hour * 2 + if 30 ≤ c.time.minute then 1 else 0),
        (1, if 5 ≤ c.weekday ∧ c.weekday ≤ 6 ∨ ∃ x ∈ s.pst.workingTariff.toList, c.time.day ∈ x.holidayDays.take x.holidayCount then 1 else 0),
        (1, if s.pst.workingTariff = none ∨ c.run = .stopped then 1 else 0)]))
    ∧ exec (.storeStatus p rep) s = .next (told .storeStatus ([(1, sectionCode s.pst.limits), (1, s.pst.workingLimits.isSome.toNat),
        (1, s.pst.pendingLimits.isSome.toNat), (1, sectionCode s.pst.plant), (1, s.pst.workingPlant.isSome.toNat),
        (1, sectionCode s.pst.tariff), (1, s.pst.workingTariff.isSome.toNat), (1, s.pst.pendingTariff.isSome.toNat),
        (1, s.pst.heldPlant.isSome.toNat)]
      ++ optionalField 2 (if s.pst.limits.state = .blank ∨ s.pst.limits.state = .corrupt ∧ Config.corruptSerialPresent = false then none
        else some (imageSerial s.pst.limits.image))
      ++ optionalField 2 (s.pst.workingLimits.map Limits.serial) ++ optionalField 2 (s.pst.pendingLimits.map Limits.serial)
      ++ (match s.pst.activity with
        | .idle => [(1, 0), (1, 0), (1, 0), (1, 0)]
        | .programming sec q _ => [(1, 1), (1, sec.id), (1, 0), (1, q.id)]
        | .locking sec q => [(1, 1), (1, sec.id), (1, 1), (1, q.id)])
      ++ [(1, s.pst.latches.pf.toNat), (1, s.pst.latches.pg.toNat), (1, s.pst.latches.pd.toNat)]))
    ∧ (let noted := fieldsOf [(2, (s.port p).notices.toNat), (1, 0), (2, (s.port p).wakeMask.toNat)]
      (clear = 0#8 → exec (.readNotices p rep clear) s = .next (s.readReplied p rep (.notices clear) ⟨.ok, noted⟩))
      ∧ (clear = 1#8 → exec (.readNotices p rep clear) s = .next (s.setPort p
        { answered ⟨.ok, noted⟩ (s.port p) with notices := 0#16, arm := if rep then some (.notices clear) else none }))
      ∧ (2 ≤ clear.toNat → exec (.readNotices p rep clear) s = .next (s.replied p (.plain .range))))
    ∧ (∀ sec sel, PermitSection.ofCode number = some sec → selectorOf selector = some sel →
      exec (.readSection p rep number selector) s = .next (s.readReplied p rep (.image number selector)
        ⟨.ok, be 1 (sectionCode (s.pst.stored sec)) ++ be 1 (selectedImage s.pst sec sel).isSome.toNat
          ++ (selectedImage s.pst sec sel).getD (be sec.imageLength 0)⟩))
    ∧ (2 < number.toNat ∨ 2 < selector.toNat →
      exec (.readSection p rep number selector) s = .next (s.replied p (.plain .range)))

/-- READ_HISTORY and READ_DAYS scan their ring from the first record at or above the number asked for, in closing order, and answer GONE
below the oldest held and RANGE, unarmed, for arguments out of range (R69 to R71). Each record's data are its fields in the order of R61
and R67. RANGE carries no data, as R165's list of the data of refusals has it, although R69 speaks of every reply (the model's choice,
log entry 12). -/
def Obligations.HistoryReadsScanTheRing : Prop :=
  ∀ (p : Port) (rep : Bool) (period : BitVec 24) (day : BitVec 16) (count : BitVec 8) (s : State), Ready p s →
    let halfHourData (r : HalfHourRecord) := fieldsOf ([(3, r.period), (1, r.isPart.toNat), (1, r.fired.toNat),
        (1, r.closedAtStop.toNat)] ++ optionalField 2 r.serial ++ [(2, r.expected)] ++ Pollutant.all.flatMap fun ch =>
      let c := r.channels.get ch
      optionalField 3 c.average ++ [(2, c.valid), (2, c.cal), (2, c.fault), (2, c.maint), (3, c.maximum), (1, c.saturated.toNat),
        (1, c.highO2.toNat), (1, c.exceeded.toNat)])
    let dayData (r : DayRecord) := fieldsOf ([(2, r.day), (1, r.notOperated.toNat), (1, r.held), (1, r.fired)]
      ++ optionalField 2 r.serial ++ Pollutant.all.flatMap fun ch =>
        let c := r.channels.get ch
        [(1, c.halves)] ++ optionalField 3 c.average ++ [(1, c.exceededCount), (1, c.exceeded.toNat)])
    (period.toNat ≤ 3145727 → 1 ≤ count.toNat → count.toNat ≤ 8 → s.eau.halfHours = [] →
      exec (.readHistory p rep period count) s =
        .next (s.readReplied p rep (.history period count) ⟨.ok, be 1 0 ++ be 3 0 ++ be 3 0 ++ be 1 0⟩))
    ∧ (∀ oldest newest, s.eau.halfHours.head? = some oldest → s.eau.halfHours.getLast? = some newest →
        period.toNat ≤ 3145727 → 1 ≤ count.toNat → count.toNat ≤ 8 →
        let figures := be 1 s.eau.halfHours.length ++ be 3 oldest.period ++ be 3 newest.period
        let found := (s.eau.halfHours.dropWhile fun r => r.period < period.toNat).take count.toNat
        exec (.readHistory p rep period count) s = .next (s.readReplied p rep (.history period count)
          (if period.toNat < oldest.period then ⟨.gone, figures ++ be 1 0⟩
            else ⟨.ok, figures ++ be 1 found.length ++ found.flatMap halfHourData⟩)))
    ∧ (3145727 < period.toNat ∨ count.toNat = 0 ∨ 8 < count.toNat →
      exec (.readHistory p rep period count) s = .next (s.replied p (.plain .range)))
    ∧ (1 ≤ count.toNat → count.toNat ≤ 8 → s.eau.days = [] →
      exec (.readDays p rep day count) s =
        .next (s.readReplied p rep (.days day count) ⟨.ok, be 1 0 ++ be 2 0 ++ be 2 0 ++ be 1 0⟩))
    ∧ (∀ oldest newest, s.eau.days.head? = some oldest → s.eau.days.getLast? = some newest → 1 ≤ count.toNat → count.toNat ≤ 8 →
        let figures := be 1 s.eau.days.length ++ be 2 oldest.day ++ be 2 newest.day
        let found := (s.eau.days.dropWhile fun r => r.day < day.toNat).take count.toNat
        exec (.readDays p rep day count) s = .next (s.readReplied p rep (.days day count)
          (if day.toNat < oldest.day then ⟨.gone, figures ++ be 1 0⟩
            else ⟨.ok, figures ++ be 1 found.length ++ found.flatMap dayData⟩)))
    ∧ (count.toNat = 0 ∨ 8 < count.toNat → exec (.readDays p rep day count) s = .next (s.replied p (.plain .range)))

/-- Every step keeps the port law: a frame in progress is one begun and not complete, suspended exactly while its timer runs, and none is
in progress under reset (R169, R171, R173, R174, R184). -/
def Obligations.PortsLawKept : Prop := ∀ s t : State, PortsLaw s → step s = .next t → PortsLaw t

/-! ## The plant clock -/

/-- SET_TIME whole: its checks in order, what it loads, and the cleared marker (R8). SET_LEAD writes the sending port's own lead, and above
1800 is refused RANGE (R14). -/
def Obligations.SetTimeAndSetLead : Prop :=
  ∀ (p : Port) (day : BitVec 16) (hour minute second : BitVec 8) (divisor : BitVec 24) (offset : BitVec 8) (lead : BitVec 16)
      (s : State), Ready p s →
    exec (.setTime p day hour minute second divisor offset) s = .next (
      if p ≠ .pd then s.replied p (.plain .notOwner)
      else if s.clock.run = .running then s.replied p (.plain .state)
      else if hour.toNat ≤ 23 ∧ minute.toNat ≤ 59 ∧ second.toNat ≤ 59 ∧ 1 ≤ divisor.toNat ∧ divisor.toNat ≤ 65536
          ∧ offset.toNat ≤ 6 then
        ((s.replied p (.plain .ok)).setClock (latch { s.clock with
          scaler := 0, divisor := divisor.toNat, offset := offset.toNat
          time := { day := day.toNat, hour := hour.toNat, minute := minute.toNat, second := second.toNat } })).setEau
          { s.eau with marker := none }
      else s.replied p (.plain .range))
    ∧ exec (.setLead p lead) s = .next (
      if 1800 < lead.toNat then s.replied p (.plain .range)
      else (s.replied p (.plain .ok)).setClock { s.clock with leads := s.clock.leads.set p lead.toNat })

/-- START_CLOCK on PD: refused while RUNNING, and in a period that the history has closed; accepted, it answers OK and the clock runs from
the loaded time with the scaler at 0, a partial period is open with empty accounts under the working copy, the envelope recomputes, and
the orders due are activated, the last of them; with a loaded day below 65,535 the keys past the wrap are brought back first, and each
daily order due is put back at its next occurrence or dropped with ORDER_DROPPED. The activation forms the targets and the request, at
most the one held while the steam is stale, and serves the steam again (R9, R10, R54, R124 to R128, R133, R134). An order due without a
working PLANT copy, in no run of the part, gives the request 0 of R133. -/
def Obligations.StartClockOpensAPeriod : Prop :=
  ∀ s : State, Ready .pd s →
    (s.clock.run = .running → exec (.startClock .pd) s = .next (s.replied .pd (.plain .state)))
    ∧ (∀ newest, s.clock.run = .stopped → s.eau.halfHours.getLast? = some newest → s.clock.latched.period ≤ newest.period →
      exec (.startClock .pd) s = .next (s.replied .pd (.plain .periodUsed)))
    ∧ (s.clock.run = .stopped → (∀ newest, s.eau.halfHours.getLast? = some newest → newest.period < s.clock.latched.period) →
      StoppedIsCold s → GrantLaw s → (∀ q ∈ s.slg.queue, q.key < keyWrap) →
      ∃ t, exec (.startClock .pd) s = .next t ∧ (t.port .pd).slot = some (.plain .ok)
        ∧ t.clock = latch { s.clock with run := .running, scaler := 0 }
        ∧ t.eau = { s.eau with
            accounts := accountsZero
            period := some { number := periodOf s.clock.time, fired := false, isPart := true, copy := s.pst.workingLimits } }
        ∧ FormedLaw t ∧ t.feu.target = 0 ∧ t.feu.grant = 0 ∧ t.feu.effectiveCap = min s.feu.effectiveCap t.feu.computedCap
        ∧ t.mode = s.mode ∧ t.sta = s.sta ∧ t.fmu = s.fmu ∧ t.pst = s.pst
        ∧ ((∀ q ∈ s.slg.queue, minuteKeyOf s.clock.time < q.key) → t.slg = s.slg)
        ∧ (∀ last, (s.slg.queue.filter fun q => q.key ≤ minuteKeyOf s.clock.time).getLast? = some last →
            t.slg.active = some last.order ∧ t.holds .pd .orderActive = true
            ∧ ∀ pl ∈ s.pst.workingPlant.toList, OrderActivated pl last.order s t))
    ∧ (s.clock.run = .stopped → (∀ newest, s.eau.halfHours.getLast? = some newest → newest.period < s.clock.latched.period) →
      QueueLaw s →
      let now := minuteKeyOf s.clock.time
      let waiting := if s.clock.time.day < 65535 then broughtBack s.slg.queue else s.slg.queue
      let due := waiting.filter fun q => q.key ≤ now
      ∃ t, exec (.startClock .pd) s = .next t ∧ (t.port .pd).slot = some (.plain .ok)
        ∧ (due = [] → t.slg = { s.slg with queue := waiting })
        ∧ ∀ last, due.getLast? = some last → t.slg.active = some last.order ∧ t.holds .pd .orderActive = true
          ∧ PutBack now due (waiting.filter fun q => now < q.key) s t
          ∧ (∀ pl ∈ s.pst.workingPlant.toList, OrderActivated pl last.order s t)
          ∧ (s.pst.workingPlant = none → t.slg.request = 0 ∧ t.feu.request = 0))

/-- STOP_CLOCK on PD: refused while STOPPED and outside COLD; accepted, it answers OK, the clock stops with the scaler at 0, the open
period closes as a partial record, the newest of the ring, the accounts are empty, and PERIOD_CLOSED goes to PG (R11, R62). -/
def Obligations.StopClockClosesThePeriod : Prop :=
  ∀ s : State, Ready .pd s →
    (s.clock.run = .stopped ∨ s.mode.mode ≠ .cold → exec (.stopClock .pd) s = .next (s.replied .pd (.plain .state)))
    ∧ (∀ p, s.clock.run = .running → s.mode.mode = .cold → s.eau.period = some p → GrantLaw s →
      ∃ t, exec (.stopClock .pd) s = .next t ∧ (t.port .pd).slot = some (.plain .ok)
        ∧ t.clock = latch { s.clock with run := .stopped, scaler := 0 }
        ∧ t.eau = { s.eau with
            accounts := accountsZero, period := none
            halfHours := pushRing 48 s.eau.halfHours (halfHourRecord p s.eau.accounts true) }
        ∧ RecomputedFrom s t ∧ t.holds .pg .periodClosed = true
        ∧ ((halfHourRecord p s.eau.accounts true).anyExceeded = true →
            t.holds .pg .exceedance = true ∧ t.holds .pd .exceedance = true)
        ∧ t.mode = s.mode ∧ t.sta = s.sta ∧ t.slg = s.slg ∧ t.fmu = s.fmu ∧ t.pst = s.pst)

/-- ADJUST_CLOCK on PD: refused STATE, RANGE and BOUNDARY in that order; a step of 0 changes nothing, a backward step moves the time and
raises nothing, a forward step also meets the leads it passes over, and a step that enters no minute reaches no other block; one that
enters a minute activates the last order due, with its targets and its request, and puts the daily orders due back (R12, R13, R15, R124 to
R126, R128, R133, R134). That a step stays inside its period is compared on blocks of 1800 seconds counted from day 0, as the manual's
periods lie (DEDUCED: log entry 25). -/
def Obligations.AdjustClockStaysInThePeriod : Prop :=
  ∀ (shift : BitVec 8) (s : State), Ready .pd s → ClockLaw s.clock →
    let old := absoluteSecond s.clock.time
    let inside := ((old : Int) + shift.toInt) / 1800 = (old / 1800 : Nat)
    (s.clock.run = .stopped → exec (.adjustClock .pd shift) s = .next (s.replied .pd (.plain .state)))
    ∧ (s.clock.run = .running → shift.toInt < -30 ∨ 30 < shift.toInt →
      exec (.adjustClock .pd shift) s = .next (s.replied .pd (.plain .range)))
    ∧ (s.clock.run = .running → -30 ≤ shift.toInt → shift.toInt ≤ 30 → ¬ inside →
      exec (.adjustClock .pd shift) s = .next (s.replied .pd (.plain .boundary)))
    ∧ (s.clock.run = .running → shift = 0#8 → exec (.adjustClock .pd shift) s = .next (s.replied .pd (.plain .ok)))
    ∧ (s.clock.run = .running → -30 ≤ shift.toInt → shift.toInt < 0 → inside →
      ∃ time, absoluteSecond time = ((old : Int) + shift.toInt).toNat ∧ time.day = s.clock.time.day ∧ time.hour = s.clock.time.hour
        ∧ exec (.adjustClock .pd shift) s = .next (((s.replied .pd (.plain .ok)).setClock (latch { s.clock with time := time })).setEau
          { s.eau with marker := none }))
    ∧ (s.clock.run = .running → 0 < shift.toInt → shift.toInt ≤ 30 → inside →
      ∃ t, exec (.adjustClock .pd shift) s = .next t ∧ (t.port .pd).slot = some (.plain .ok)
        ∧ absoluteSecond t.clock.time = ((old : Int) + shift.toInt).toNat ∧ t.clock.time.day = s.clock.time.day
        ∧ t.clock.time.hour = s.clock.time.hour ∧ t.clock.run = .running ∧ t.clock.scaler = s.clock.scaler
        ∧ t.clock.divisor = s.clock.divisor ∧ t.clock.offset = s.clock.offset ∧ t.clock.latched = latchedOf t.clock
        ∧ (∀ q, if 0 < s.clock.leads.get q ∧ remainingOf t.clock.time ≤ s.clock.leads.get q
              ∧ s.clock.leads.get q < remainingOf s.clock.time then t.clock.leads.get q = 0 ∧ t.holds q .lead = true
            else t.clock.leads.get q = s.clock.leads.get q)
        ∧ t.eau = { s.eau with marker := none } ∧ t.mode = s.mode ∧ t.fmu = s.fmu ∧ t.pst = s.pst
        ∧ (minuteKeyOf t.clock.time = minuteKeyOf s.clock.time ∨ (∀ q ∈ s.slg.queue, minuteKeyOf t.clock.time < q.key) →
            t.slg = s.slg ∧ t.feu = s.feu ∧ t.sta = s.sta)
        ∧ (∀ last, minuteKeyOf s.clock.time < minuteKeyOf t.clock.time →
            (s.slg.queue.filter fun q => q.key ≤ minuteKeyOf t.clock.time).getLast? = some last →
            t.slg.active = some last.order ∧ t.holds .pd .orderActive = true
            ∧ (∀ pl ∈ s.pst.workingPlant.toList, OrderActivated pl last.order s t) ∧ GrantFollows s t
            ∧ (QueueLaw s → PutBack (minuteKeyOf t.clock.time) (s.slg.queue.filter fun q => q.key ≤ minuteKeyOf t.clock.time)
                (s.slg.queue.filter fun q => minuteKeyOf t.clock.time < q.key) s t)))

/-- REFCK_EDGE: ignored while STOPPED; counted below the divisor; the edge that would bring the scaler to the divisor raises the second
event (R1). -/
def Obligations.RefckEdgeCountsOrWraps : Prop :=
  ∀ s : State,
    (s.clock.run = .stopped → exec .refckEdge s = .next s)
    ∧ (s.clock.run = .running → s.clock.scaler + 1 < s.clock.divisor →
      exec .refckEdge s = .next (s.setClock { s.clock with scaler := s.clock.scaler + 1 }))
    ∧ (s.clock.run = .running → s.clock.divisor ≤ s.clock.scaler + 1 → exec .refckEdge s = exec .secondEvent s)

/-- Every second event, in whatever order the blocks take it: the time one second on, the scaler at 0, the copy latched, each lead equal to
the new remaining time met, each age one more, the meters and the stored sections as they were. The steam stale flag is set, with
STEAM_STALE to PF and PD where it was clear, when the steam age reaches the staleness value and while PLANT is not valid, and a second event
never clears it. Where no order falls due each setpoint moves toward its target by at most the active order's ramp rate, and the steam is
allocated again where one moved. While the clock is STOPPED there is none (R2, R3, R5, R15, R21, R47, R117, R129). The model's choices: a
SECOND_EVENT while STOPPED does nothing (log entry 8), it takes the scaler from any count to 0 (log entry 5), the temperature age counts
while the record is absent (log entry 19), and the order of the blocks is one free value drawn (log entries 1 and 23). -/
def Obligations.SecondEventAdvancesTheClock : Prop :=
  ∀ s : State,
    (s.clock.run = .stopped → exec .secondEvent s = .next s)
    ∧ (s.clock.run = .running → TimeInRange s.clock.time →
      ∃ t, exec .secondEvent s = .next t
        ∧ TimeInRange t.clock.time ∧ absoluteSecond t.clock.time = (absoluteSecond s.clock.time + 1) % (65536 * 86400)
        ∧ t.clock.run = .running ∧ t.clock.scaler = 0 ∧ t.clock.divisor = s.clock.divisor ∧ t.clock.offset = s.clock.offset
        ∧ t.clock.latched = latchedOf t.clock
        ∧ (∀ p, if 0 < s.clock.leads.get p ∧ s.clock.leads.get p = remainingOf t.clock.time then
              t.clock.leads.get p = 0 ∧ t.holds p .lead = true
            else t.clock.leads.get p = s.clock.leads.get p)
        ∧ t.eau.sampleAge = min 65535 (s.eau.sampleAge + 1) ∧ t.mode.tempAge = min 65535 (s.mode.tempAge + 1)
        ∧ t.slg.age = min 65535 (s.slg.age + 1) ∧ t.mode.temp = s.mode.temp
        ∧ t.fmu = s.fmu ∧ t.pst.limits = s.pst.limits ∧ t.pst.plant = s.pst.plant ∧ t.pst.tariff = s.pst.tariff
        ∧ t.pst.workingPlant = s.pst.workingPlant ∧ t.pst.activity = s.pst.activity ∧ t.pst.latches = s.pst.latches
        ∧ t.freeIndex = s.freeIndex + 1
        ∧ (let tooOld := ∀ pl ∈ s.pst.workingPlant.toList, pl.steamStale ≤ min 65535 (s.slg.age + 1)
          (t.slg.stale = true ↔ s.slg.stale = true ∨ tooOld)
          ∧ (s.slg.stale = false → tooOld → t.holds .pf .steamStale = true ∧ t.holds .pd .steamStale = true))
        ∧ (s.clock.time.second < 59 ∨ minuteKeyOf s.clock.time < minuteKeyOf (advance s.clock.time)
              ∧ (∀ q ∈ s.slg.queue, minuteKeyOf (advance s.clock.time) < q.key) →
          let rate := (s.slg.active.map Order.ramp).getD 0
          let moved (target x : Nat) := if x < target then min target (x + rate) else if target < x then max target (x - rate) else x
          let power := moved s.slg.powerTarget s.slg.powerSetpoint
          let heat := moved s.slg.heatTarget s.slg.heatSetpoint
          t.slg = { s.slg with
              age := min 65535 (s.slg.age + 1), stale := t.slg.stale, powerSetpoint := power, heatSetpoint := heat
              alloc := t.slg.alloc, shortfall := t.slg.shortfall, dumpOver := t.slg.dumpOver }
          ∧ (power = s.slg.powerSetpoint → heat = s.slg.heatSetpoint →
              t.slg.alloc = s.slg.alloc ∧ t.slg.shortfall = s.slg.shortfall ∧ t.slg.dumpOver = s.slg.dumpOver)
          ∧ (¬ (power = s.slg.powerSetpoint ∧ heat = s.slg.heatSetpoint) → ReallocatedFrom s t)))

/-- A second event of a plant that fires, inside a minute. With a fresh temperature and fresh samples, or with the stale-in-FIRING
condition already on, the effective cap rises by at most R, the target follows, and the grant rises by at most the grant ramp and reaches
the stroke timer array, which divides it between the lanes, writes the periods and releases the waiting rams (R82, R84, R86, R106, R109,
R110). At the second at which the samples go stale the condition begins: the computed and the effective cap are F, SAMPLE_STALE goes to PG
and PF (R48); where the cap then cuts the grant, the envelope may have handed over a higher one earlier in the same event (log entry 1),
and the channels stand as the last grant leaves them. At the second at which the temperature goes stale, and with no record, the plant
goes to HOLD with TEMP_STALE alone, the feed stops and the grate runs on at its minimum (R21, R27, R95, R109). -/
def Obligations.FiringSecondRaisesCapAndGrant : Prop :=
  ∀ (l : Limits) (pl : Plant) (s : State), s.clock.run = .running → s.clock.time.second < 59 → s.mode.mode = .firing →
    s.pst.workingLimits = some l → s.pst.workingPlant = some pl → GrantLaw s →
    let tempAge := min 65535 (s.mode.tempAge + 1)
    let sampleAge := min 65535 (s.eau.sampleAge + 1)
    let grantFor (target : Nat) := if target ≤ s.feu.grant then target else min target (s.feu.grant + pl.grantRamp)
    (∀ v, s.mode.temp = some v → tempAge < l.tempStale → sampleAge < l.sampleStale ∨ s.eau.staleInFiring = true →
      let cap := if s.feu.effectiveCap < s.feu.computedCap then min s.feu.computedCap (s.feu.effectiveCap + l.recovery)
        else s.feu.effectiveCap
      let target := min (min s.feu.request cap) s.feu.boilerLimit
      ∃ t, exec .secondEvent s = .next t ∧ t.mode = { s.mode with tempAge := tempAge }
        ∧ t.feu.effectiveCap = cap ∧ t.feu.target = target ∧ t.feu.grant = grantFor target
        ∧ t.sta.grant = t.feu.grant ∧ GrantFollows s t ∧ t.feu.request = s.feu.request ∧ t.feu.boilerLimit = s.feu.boilerLimit
        ∧ t.feu.computedCap = s.feu.computedCap ∧ t.feu.figures = s.feu.figures ∧ t.feu.demand = s.feu.demand
        ∧ t.eau.accounts = s.eau.accounts ∧ t.eau.staleInFiring = s.eau.staleInFiring ∧ t.eau.halfHours = s.eau.halfHours
        ∧ t.pst = s.pst)
    ∧ (∀ v, s.mode.temp = some v → tempAge < l.tempStale → l.sampleStale ≤ sampleAge → s.eau.staleInFiring = false → CapLaw s →
      let target := min (min s.feu.request l.floor) s.feu.boilerLimit
      ∃ t, exec .secondEvent s = .next t ∧ t.mode = { s.mode with tempAge := tempAge }
        ∧ t.eau.staleInFiring = true ∧ FormedLaw t ∧ t.feu.computedCap = l.floor ∧ t.feu.effectiveCap = l.floor
        ∧ t.feu.target = target ∧ t.feu.grant = grantFor target ∧ t.sta.grant = t.feu.grant
        ∧ (min s.feu.request s.feu.boilerLimit ≤ l.floor → GrantFollows s t)
        ∧ (t.feu.grant ≠ s.feu.grant →
            LaneLaw t.sta ∧ t.sta = { s.sta with
              grant := t.sta.grant, laneA := t.sta.laneA, laneB := t.sta.laneB, channels := t.sta.channels }
            ∧ ∀ ch, let r := s.sta.channels.get ch
              let x := t.sta.channels.get ch
              let period := autoPeriod .firing pl t.sta ch
              (r.source = .fixed ∨ r.state = .off ∨ r.state = .jammed → x = r)
              ∧ (r.source = .auto → (isRam ch = true → 50 ≤ laneGrant t.sta ch) →
                (r.state = .dwell ∨ r.state = .stroke → x = { r with preload := some period })
                ∧ (r.state = .wait → x.state = .dwell ∧ x.counter = 0 ∧ x.preload.getD x.period = period
                    ∧ x.limit = (timingOf pl ch).ls)))
        ∧ t.holds .pg .sampleStale = true ∧ t.holds .pf .sampleStale = true
        ∧ t.feu.request = s.feu.request ∧ t.feu.boilerLimit = s.feu.boilerLimit ∧ t.eau.accounts = s.eau.accounts ∧ t.pst = s.pst)
    ∧ (s.mode.temp = none ∨ l.tempStale ≤ tempAge →
      ∃ t, exec .secondEvent s = .next t
        ∧ t.mode = { s.mode with
            mode := .hold, burner := true, timer := 0, causes := onlyTempStale, tempAge := tempAge, trip := none }
        ∧ FeedStopped t ∧ FeedEnds s t ∧ (∀ q, t.holds q .mode = true) ∧ t.eau.staleInFiring = false
        ∧ t.eau.accounts = s.eau.accounts ∧ t.feu.request = s.feu.request ∧ t.feu.boilerLimit = s.feu.boilerLimit ∧ t.pst = s.pst)

/-- A minute event, in whatever order the blocks take it: of the queued orders at or before the new minute the one with the largest key
becomes the active order, whole, with ORDER_ACTIVE to PD; every order queued for a later minute stays queued; the new targets are the
active order's, and the request is formed from them at once, at most the one held while the steam is stale (R124, R126, R128, R133, R134).
The ledger's own second may come before or after the activation (R129; one free value drawn, log entry 1): a stale flag that this very
event sets bounds the request in the first order alone, and any other request is the same in both. Each daily order due is put back at its
next occurrence or dropped with ORDER_DROPPED, and at the wrap of the day count the keys past it are brought back before the activation
(R125, R127). An order due without a working PLANT copy, in no run of the part, gives the request 0 of R133. -/
def Obligations.MinuteEventActivatesTheLastDue : Prop :=
  (∀ (pl : Plant) (last : QueuedOrder) (s : State), s.clock.run = .running → TimeInRange s.clock.time → s.clock.time.second = 59 →
    minuteKeyOf s.clock.time < minuteKeyOf (advance s.clock.time) → s.pst.workingPlant = some pl →
    (s.slg.queue.filter fun q => q.key ≤ minuteKeyOf (advance s.clock.time)).getLast? = some last →
      ∃ t, exec .secondEvent s = .next t ∧ t.slg.active = some last.order ∧ t.holds .pd .orderActive = true
        ∧ t.slg.powerTarget = (if s.slg.turbine = .available then min last.order.power pl.snom else 0)
        ∧ t.slg.heatTarget = (if s.slg.extraction = .available then min last.order.heat pl.heatMax else 0)
        ∧ OrderActivatedAtSecond pl last.order s t
        ∧ (∀ q ∈ s.slg.queue, minuteKeyOf (advance s.clock.time) < q.key → q ∈ t.slg.queue))
  ∧ ∀ s : State, s.clock.run = .running → TimeInRange s.clock.time → s.clock.time.second = 59 → QueueLaw s →
      let now := minuteKeyOf (advance s.clock.time)
      let waiting := if s.clock.time.day = 65535 ∧ (advance s.clock.time).day = 0 then broughtBack s.slg.queue else s.slg.queue
      let due := waiting.filter fun q => q.key ≤ now
      ∃ t, exec .secondEvent s = .next t
        ∧ (due = [] → t.slg.queue = waiting ∧ t.slg.active = s.slg.active)
        ∧ ∀ last, due.getLast? = some last → t.slg.active = some last.order ∧ t.holds .pd .orderActive = true
          ∧ PutBack now due (waiting.filter fun q => now < q.key) s t
          ∧ (∀ pl ∈ s.pst.workingPlant.toList, OrderActivatedAtSecond pl last.order s t)
          ∧ (s.pst.workingPlant = none → t.slg.request = 0 ∧ t.feu.request = 0)

/-- A half-hour boundary, in whatever order the blocks take it: the record of the closing period, fired when the plant fired to its end, is
the newest of the ring; the accounts are empty; the next period is open, not partial, under the pending LIMITS copy where one waited; the
pending copies are the working copies; PERIOD_CLOSED and any EXCEEDANCE are posted. At midnight the day record joins the day ring
(R55 to R58, R61, R63 to R65, R67, R68, R159). -/
def Obligations.HalfHourBoundaryClosesAndOpens : Prop :=
  ∀ (p : OpenPeriod) (s : State), s.clock.run = .running → TimeInRange s.clock.time → s.clock.time.second = 59 →
    s.clock.time.minute = 29 ∨ s.clock.time.minute = 59 → s.eau.period = some p →
      let closing := { p with fired := p.fired || s.mode.mode == .firing }
      let record := halfHourRecord closing s.eau.accounts false
      let ring := pushRing 48 s.eau.halfHours record
      let day := dayRecord p.copy (p.number / 48) (ring.filter fun r => r.period / 48 == p.number / 48)
      let midnight := s.clock.time.hour = 23 ∧ s.clock.time.minute = 59
      ∃ t, exec .secondEvent s = .next t
        ∧ t.eau.halfHours = ring ∧ t.eau.accounts = accountsZero
        ∧ t.eau.period = some { number := periodOf (advance s.clock.time), fired := false, isPart := false,
                                copy := s.pst.pendingLimits.or s.pst.workingLimits }
        ∧ t.eau.days = (if midnight then pushRing 8 s.eau.days day else s.eau.days)
        ∧ t.pst = { s.pst with
            workingLimits := s.pst.pendingLimits.or s.pst.workingLimits, pendingLimits := none
            workingTariff := s.pst.pendingTariff.or s.pst.workingTariff, pendingTariff := none }
        ∧ t.holds .pg .periodClosed = true
        ∧ (record.anyExceeded = true → t.holds .pg .exceedance = true ∧ t.holds .pd .exceedance = true)
        ∧ (midnight → t.holds .pg .dayClosed = true)
        ∧ (midnight → day.anyExceeded = true → t.holds .pg .exceedance = true ∧ t.holds .pd .exceedance = true)

/-- Every step keeps the clock's law (R1, R4, R5, R14), and that of R7: the mode is COLD whenever the clock is STOPPED. -/
def Obligations.ClockLawsKept : Prop :=
  ∀ s t : State, step s = .next t → (ClockLaw s.clock → ClockLaw t.clock) ∧ (StoppedIsCold s → StoppedIsCold t)

/-! ## The plant mode -/

/-- START on PF from COLD with the clock running and both copies valid: WARMING with the burner request, the timer 0, the feed not armed,
and MODE to all three ports; every other block as it was. Refused NOT_OWNER on another port, STATE outside COLD, NO_TIME with the clock
STOPPED, and STATE without a copy, in that order (R18, R19, R25). -/
def Obligations.StartEntersWarming : Prop :=
  ∀ s : State,
    (∀ p, p ≠ .pf → Ready p s → exec (.start p) s = .next (s.replied p (.plain .notOwner)))
    ∧ (Ready .pf s → s.mode.mode = .cold → s.clock.run = .running → s.pst.workingLimits.isSome = true →
      s.pst.workingPlant.isSome = true → GrantLaw s → StrokeLaw s →
      exec (.start .pf) s = .next (((s.replied .pf (.plain .ok)).setMode { s.mode with
        mode := .warming, burner := true, timer := 0, causes := .none, feedArmed := false, trip := none }).postAll .mode))
    ∧ (Ready .pf s → s.mode.mode = .cold → s.clock.run = .stopped → exec (.start .pf) s = .next (s.replied .pf (.plain .noTime)))
    ∧ (Ready .pf s → s.mode.mode ≠ .cold ∨ s.clock.run = .running ∧ (s.pst.workingLimits = none ∨ s.pst.workingPlant = none) →
      exec (.start .pf) s = .next (s.replied .pf (.plain .state)))

/-- FEED on PF arms the feed in WARMING; when the interlock is met (the dwell counted, cleaning AVAILABLE, a ram feed-capable) the plant
fires at once: the target formed, the grant 0, every enabled channel that is not JAMMED in its cycle, an AUTO ram below the cutoff
waiting; with stale samples the computed cap is F; FEED answers OK in both (R26, R48, R84, R87, R97). At a second event in WARMING or HOLD
the qualification timer counts a fresh temperature at or above Tmin and becomes 0 on a stale one, which in HOLD joins the causes; the
plant then fires where the entry check is met (R21, R23, R26, R28). -/
def Obligations.FeedArmsAndFires : Prop :=
  (∀ s : State, Ready .pf s →
    (s.mode.mode ≠ .warming → exec (.feed .pf) s = .next (s.replied .pf (.plain .state)))
    ∧ (∀ l, s.mode.mode = .warming → s.pst.workingLimits = some l →
        s.mode.timer < l.dwell ∨ s.mode.cleaning = .unavailable ∨ s.mode.rams = 0 →
        exec (.feed .pf) s = .next ((s.replied .pf (.plain .ok)).setMode { s.mode with feedArmed := true }))
    ∧ (∀ l, s.mode.mode = .warming → s.pst.workingLimits = some l → l.dwell ≤ s.mode.timer → s.mode.cleaning = .available →
        1 ≤ s.mode.rams → GrantLaw s → StrokeLaw s →
        ∃ t, exec (.feed .pf) s = .next t ∧ (t.port .pf).slot = some (.plain .ok)
          ∧ EntersFiring l ((s.replied .pf (.plain .ok)).setMode { s.mode with feedArmed := true }) t
          ∧ t.mode = { s.mode with mode := .firing, burner := false, timer := 0, causes := .none, feedArmed := true, trip := none }
          ∧ t.eau = { s.eau with
              staleInFiring := s.eau.staleInFiring || decide (l.sampleStale ≤ s.eau.sampleAge) }
          ∧ (s.eau.sampleAge < l.sampleStale → t.feu.effectiveCap = s.feu.effectiveCap)
          ∧ (l.sampleStale ≤ s.eau.sampleAge → s.eau.staleInFiring = false →
              t.feu.computedCap = l.floor ∧ t.feu.effectiveCap = min s.feu.effectiveCap l.floor ∧ t.holds .pf .sampleStale = true
                ∧ t.holds .pg .sampleStale = true)
          ∧ t.feu.target = min (min s.feu.request t.feu.effectiveCap) s.feu.boilerLimit ∧ t.feu.grant = 0
          ∧ (∀ ch, (s.sta.channels.get ch).state ≠ .jammed → (s.sta.channels.get ch).enabled = true →
              (t.sta.channels.get ch).counter = 0 ∧ (t.sta.channels.get ch).preload = none
                ∧ (t.sta.channels.get ch).state = if mustWait s.sta ch (s.sta.channels.get ch) then .wait else .dwell)
          ∧ (∀ ch, (s.sta.channels.get ch).state = .jammed ∨ (s.sta.channels.get ch).enabled = false →
              t.sta.channels.get ch = s.sta.channels.get ch)
          ∧ (∀ p, t.holds p .mode = true) ∧ t.clock = s.clock ∧ t.slg = s.slg ∧ t.fmu = s.fmu ∧ t.pst = s.pst))
  ∧ ∀ (l : Limits) (s : State), s.clock.run = .running → s.clock.time.second < 59 → s.pst.workingLimits = some l →
      s.mode.mode = .warming ∨ s.mode.mode = .hold → GrantLaw s →
      let tempAge := min 65535 (s.mode.tempAge + 1)
      let stale := s.mode.temp = none ∨ l.tempStale ≤ tempAge
      let hot := ∃ v ∈ s.mode.temp.toList, l.tmin ≤ v
      let m := { s.mode with
        tempAge := tempAge, timer := if stale then 0 else if hot then min 60 (s.mode.timer + 1) else s.mode.timer
        causes := if s.mode.mode = .hold ∧ stale then { s.mode.causes with tempStale := true } else s.mode.causes }
      ∃ t, exec .secondEvent s = .next t ∧ t.eau.accounts = s.eau.accounts ∧ t.fmu = s.fmu ∧ t.pst = s.pst
        ∧ t.feu.grant = 0 ∧ t.sta.grant = 0
        ∧ (¬ EntryMet (some l) m → t.mode = m ∧ t.feu.target = 0 ∧ t.sta = s.sta ∧ t.eau.staleInFiring = s.eau.staleInFiring)
        ∧ (EntryMet (some l) m →
            t.mode = { m with mode := .firing, burner := false, timer := 0, causes := .none, trip := none }
            ∧ t.feu.target = min (min s.feu.request t.feu.effectiveCap) s.feu.boilerLimit ∧ (∀ p, t.holds p .mode = true)
            ∧ t.sta = { s.sta with channels := t.sta.channels } ∧ (StrokeLaw s → ∀ ch ∈ StrokeChannel.all, ChannelFired s t ch)
            ∧ (t.eau.staleInFiring = true ↔ s.eau.staleInFiring = true ∨ l.sampleStale ≤ min 65535 (s.eau.sampleAge + 1))
            ∧ (l.sampleStale ≤ min 65535 (s.eau.sampleAge + 1) → s.eau.staleInFiring = false →
                t.feu.computedCap = l.floor ∧ t.holds .pf .sampleStale = true ∧ t.holds .pg .sampleStale = true))

/-- STOP from any port: BURNOUT from WARMING, FIRING and HOLD, with the feed stopped at once; nothing in COLD and BURNOUT; refused STATE in
TRIPPED (R18, R29, R85, R87). A PLANT copy held from FIRING or HOLD is released at the change: it becomes the working copy, no copy is held,
the aux demand is clamped, and the targets and the request are formed again (R135, R159). The grate runs on at its minimum, the periods of
the copy in force in the preloads, of every running channel where that copy was held (R95, R97, R109, R111). -/
def Obligations.StopEndsFeeding : Prop :=
  ∀ (p : Port) (s : State), Ready p s →
    (s.mode.mode = .warming ∨ s.mode.mode = .firing ∨ s.mode.mode = .hold → GrantLaw s →
      ∃ t, exec (.stop p) s = .next t ∧ (t.port p).slot = some (.plain .ok)
        ∧ t.mode = { s.mode with mode := .burnout, burner := false, timer := 0, causes := .none, feedArmed := false, trip := none }
        ∧ FeedStopped t ∧ FeedEnds s t ∧ (∀ q, t.holds q .mode = true)
        ∧ t.eau = { s.eau with staleInFiring := s.eau.staleInFiring && s.mode.mode != .firing }
        ∧ t.clock = s.clock ∧ t.fmu = s.fmu ∧ HeldCopyReleased s t)
    ∧ (s.mode.mode = .cold ∨ s.mode.mode = .burnout → exec (.stop p) s = .next (s.replied p (.plain .ok)))
    ∧ (s.mode.mode = .tripped → exec (.stop p) s = .next (s.replied p (.plain .state)))

/-- TRIP from any port: TRIPPED from every other mode with its trip record and the feed stopped at once; one more cause counted in
TRIPPED; refused RANGE for code 0 and NO_TIME with the clock STOPPED; every stroke channel's gate closes (R18, R31, R33, R95, R96). A held
PLANT copy is released at the change, as at STOP (R135, R159). -/
def Obligations.TripTakesThePlantDown : Prop :=
  ∀ (p : Port) (cause : BitVec 8) (s : State), Ready p s →
    (cause = 0#8 → exec (.trip p cause) s = .next (s.replied p (.plain .range)))
    ∧ (cause ≠ 0#8 → s.clock.run = .stopped → exec (.trip p cause) s = .next (s.replied p (.plain .noTime)))
    ∧ (∀ r, cause ≠ 0#8 → s.clock.run = .running → s.mode.mode = .tripped → s.mode.trip = some r →
      exec (.trip p cause) s = .next ((s.replied p (.plain .ok)).setMode { s.mode with
        trip := some { r with count := min 255 (r.count + 1) } }))
    ∧ (cause ≠ 0#8 → s.clock.run = .running → s.mode.mode ≠ .tripped → GrantLaw s →
      ∃ t, exec (.trip p cause) s = .next t ∧ (t.port p).slot = some (.plain .ok)
        ∧ t.mode = { s.mode with
            mode := .tripped, burner := false, timer := 0, causes := .none, feedArmed := false
            trip := some { cause := .byPort p cause.toNat, day := s.clock.latched.time.day
                           secondOfDay := secondOfDay s.clock.latched.time, count := 0 } }
        ∧ FeedStopped t ∧ (∀ ch, (t.sta.channels.get ch).state = .off ∨ (t.sta.channels.get ch).state = .jammed)
        ∧ StrokesStop s t ∧ (∀ q, t.holds q .mode = true)
        ∧ t.eau = { s.eau with staleInFiring := s.eau.staleInFiring && s.mode.mode != .firing }
        ∧ t.clock = s.clock ∧ t.fmu = s.fmu ∧ HeldCopyReleased s t)

/-- CLEAR_TRIP on PF: to BURNOUT, each enabled grate channel started at its minimum, when the temperature is fresh and at or above Tcold
and PLANT is valid, else to COLD, answered OK; refused STATE outside TRIPPED and while a grate channel is JAMMED (R34, R95, R97, R108). -/
def Obligations.ClearTripLeavesTripped : Prop :=
  ∀ s : State, Ready .pf s →
    (s.mode.mode ≠ .tripped ∨ (∃ ch, isRam ch = false ∧ (s.sta.channels.get ch).state = .jammed) →
      exec (.clearTrip .pf) s = .next (s.replied .pf (.plain .state)))
    ∧ (∀ l v pl, s.mode.mode = .tripped → (∀ ch, isRam ch = false → (s.sta.channels.get ch).state ≠ .jammed) →
      GrantLaw s → StrokeLaw s → s.pst.heldPlant = none →
      s.pst.workingLimits = some l → s.mode.temp = some v → s.mode.tempAge < l.tempStale → l.tcold ≤ v →
      s.pst.workingPlant = some pl →
      ∃ t, exec (.clearTrip .pf) s = .next t ∧ (t.port .pf).slot = some (.plain .ok) ∧ FeedEnds s t
        ∧ t.mode = { s.mode with mode := .burnout, burner := false, timer := 0, causes := .none, feedArmed := false, trip := none }
        ∧ (∀ ch, isRam ch = false → (s.sta.channels.get ch).enabled = true →
            (t.sta.channels.get ch).state = .dwell ∧ (t.sta.channels.get ch).counter = 0)
        ∧ (∀ ch, isRam ch = true → t.sta.channels.get ch = s.sta.channels.get ch) ∧ (∀ q, t.holds q .mode = true)
        ∧ t.clock = s.clock ∧ t.eau = s.eau ∧ t.feu = s.feu ∧ t.slg = s.slg ∧ t.fmu = s.fmu ∧ t.pst = s.pst)
    ∧ (s.mode.mode = .tripped → (∀ ch, isRam ch = false → (s.sta.channels.get ch).state ≠ .jammed) →
      GrantLaw s → StrokeLaw s →
      s.mode.temp = none ∨ s.pst.workingLimits = none ∨ s.pst.workingPlant = none
        ∨ (∃ l v, s.pst.workingLimits = some l ∧ s.mode.temp = some v ∧ (l.tempStale ≤ s.mode.tempAge ∨ v < l.tcold)) →
      exec (.clearTrip .pf) s = .next (((s.replied .pf (.plain .ok)).setMode { s.mode with
        mode := .cold, burner := false, timer := 0, causes := .none, feedArmed := false, trip := none }).postAll .mode))

/-- POST_TEMPERATURE on PF records the value, at most 1999, in every mode; it ends the burnout below Tcold, holds a firing plant below
Tmin with LOW_TEMP alone, trips the hot modes above Tmax, counts one more cause in TRIPPED, and compares nothing in COLD or without a
valid LIMITS copy (R20, R22, R27, R30, R32). In WARMING and HOLD the firing entry check follows the comparison, and a plant that meets it
fires (R26, R28): at this very post where the timer counted the dwell under a copy that made the record good while the cause stood (the
model's choice, log entry 30). In HOLD the grate runs on at its minimum, in TRIPPED and COLD every channel stops (R95, R96, R109). A held
PLANT copy is released at the trip, as at STOP (R135, R159). -/
def Obligations.PostTemperatureActsByMode : Prop :=
  ∀ (value : BitVec 16) (s : State), Ready .pf s →
    let v := min 1999 value.toNat
    let m := { s.mode with temp := some v, tempAge := 0 }
    let told := s.replied .pf (.plain (if 1999 < value.toNat then .clamped else .ok))
    (s.pst.workingLimits = none ∨ s.mode.mode = .cold → exec (.postTemperature .pf value) s = .next (told.setMode m))
    ∧ (∀ l, s.pst.workingLimits = some l →
      (s.mode.mode = .firing ∨ s.mode.mode = .warming ∧ s.mode.timer < l.dwell → l.tmin ≤ v → v ≤ l.tmax →
         exec (.postTemperature .pf value) s = .next (told.setMode m))
      ∧ (s.mode.mode = .burnout → l.tcold ≤ v → v ≤ l.tmax → exec (.postTemperature .pf value) s = .next (told.setMode m))
      ∧ (s.mode.mode = .tripped → v ≤ l.tmax → exec (.postTemperature .pf value) s = .next (told.setMode m))
      ∧ (∀ r, s.mode.mode = .tripped → l.tmax < v → s.mode.trip = some r →
        exec (.postTemperature .pf value) s =
          .next (told.setMode { m with trip := some { r with count := min 255 (r.count + 1) } }))
      ∧ (s.mode.mode = .warming → v < l.tmin → v ≤ l.tmax → 1 ≤ l.dwell →
        exec (.postTemperature .pf value) s = .next (told.setMode { m with timer := 0 }))
      ∧ (s.mode.mode = .hold → v < l.tmin → v ≤ l.tmax →
        exec (.postTemperature .pf value) s = .next (told.setMode { m with
          timer := 0, causes := { s.mode.causes with tempStale := false, lowTemp := true } }))
      ∧ (s.mode.mode = .hold → l.tmin ≤ v → v ≤ l.tmax → s.mode.timer < l.dwell →
        exec (.postTemperature .pf value) s = .next (told.setMode { m with
          causes := { s.mode.causes with tempStale := false, lowTemp := false } }))
      ∧ (s.mode.mode = .burnout → v < l.tcold → v ≤ l.tmax → GrantLaw s →
        ∃ t, exec (.postTemperature .pf value) s = .next t ∧ (t.port .pf).slot = (told.port .pf).slot
          ∧ t.mode = { m with mode := .cold, burner := false, timer := 0, causes := .none, feedArmed := false, trip := none }
          ∧ (∀ ch, (t.sta.channels.get ch).state = .off ∨ (t.sta.channels.get ch).state = .jammed) ∧ StrokesStop s t
          ∧ (∀ q, t.holds q .mode = true) ∧ t.clock = s.clock ∧ t.eau = s.eau ∧ t.feu = s.feu ∧ t.slg = s.slg ∧ t.fmu = s.fmu ∧ t.pst = s.pst)
      ∧ (s.mode.mode = .firing → v < l.tmin → v ≤ l.tmax → GrantLaw s →
        ∃ t, exec (.postTemperature .pf value) s = .next t ∧ (t.port .pf).slot = (told.port .pf).slot
          ∧ t.mode = { m with mode := .hold, burner := true, timer := 0, causes := onlyLowTemp, trip := none }
          ∧ FeedStopped t ∧ FeedEnds s t ∧ (∀ q, t.holds q .mode = true)
          ∧ t.eau = { s.eau with staleInFiring := s.eau.staleInFiring && s.mode.mode != .firing }
          ∧ t.clock = s.clock ∧ t.slg = s.slg ∧ t.fmu = s.fmu ∧ t.pst = s.pst)
      ∧ (s.mode.mode = .warming ∨ s.mode.mode = .firing ∨ s.mode.mode = .hold ∨ s.mode.mode = .burnout → l.tmax < v → GrantLaw s →
        ∃ t, exec (.postTemperature .pf value) s = .next t ∧ (t.port .pf).slot = (told.port .pf).slot
          ∧ t.mode = { m with
              mode := .tripped, burner := false, timer := 0, causes := .none, feedArmed := false
              trip := some { cause := .overTemp, day := s.clock.latched.time.day
                             secondOfDay := secondOfDay s.clock.latched.time, count := 0 } }
          ∧ FeedStopped t ∧ StrokesStop s t ∧ (∀ q, t.holds q .mode = true)
          ∧ t.eau = { s.eau with staleInFiring := s.eau.staleInFiring && s.mode.mode != .firing }
          ∧ t.clock = s.clock ∧ t.fmu = s.fmu ∧ HeldCopyReleased s t)
      ∧ (s.mode.mode = .warming ∨ s.mode.mode = .hold → v ≤ l.tmax → GrantLaw s → StrokeLaw s →
        ∃ t, exec (.postTemperature .pf value) s = .next t ∧ (t.port .pf).slot = (told.port .pf).slot
          ∧ EntryChecked (told.setMode { m with
              timer := if v < l.tmin then 0 else s.mode.timer
              causes := if s.mode.mode = .hold then { s.mode.causes with tempStale := false, lowTemp := decide (v < l.tmin) }
                else s.mode.causes }) t))

/-- Every step keeps the mode controller's law, that the burner request, the timer, the hold causes, the feed-armed flag and the trip
record go with the mode, and the feed interlock: in FIRING cleaning is AVAILABLE and a ram is feed-capable, and in HOLD what is missing
of the two stands in the hold-cause set (R18, R19, R23, R24, R26 to R28, R33, R105). -/
def Obligations.ModeAndInterlockKept : Prop :=
  ∀ s t : State, step s = .next t → (ModeLaw s.mode → ModeLaw t.mode) ∧ (InterlockLaw s → InterlockLaw t)

/-! ## Emission accounts and history -/

/-- POST_SAMPLES on PG, accepted: every entry joins its own channel once. A valid one, corrected under the period copy and at most 999,999,
joins the sum and the count where both have room, the maximum, and above the oxygen clamp the high-O2 count; a value that saturates or finds
no room sets saturated-seen. One that is not valid joins the count of its own status, or of the oxygen's. The channels not in the set stay;
the age is 0, the marker set, the stale condition off, and the envelope recomputes from the new accounts (R40 to R45, R49, R80). -/
def Obligations.SamplesJoinTheAccounts : Prop :=
  ∀ (o2 : BitVec 16) (o2Status : BitVec 8) (entries : List SampleEntry) (x : SampleSet) (l : Limits) (s : State), Ready .pg s →
    1 ≤ entries.length → entries.length ≤ 6 → sampleSetOf o2 o2Status entries = some x → (x.entries.map Sample.channel).Nodup →
    s.clock.run = .running → s.periodCopy = some l → s.eau.marker ≠ some s.clock.latched.time → GrantLaw s →
      let counted (e : Sample) := e.status = .valid ∧ x.o2Status = .valid
      let deficit := 2100 - min x.o2 l.o2clamp
      let quotient (e : Sample) := (e.raw * (2100 - l.o2ref) + deficit / 2) / deficit
      let v (e : Sample) := min 999999 (quotient e)
      let room (e : Sample) := (s.eau.accounts.get e.channel).sum + v e ≤ 4294967295 ∧ (s.eau.accounts.get e.channel).valid < 65535
      let saturates (e : Sample) := decide (999999 < quotient e) || !decide (room e)
      ∃ t, exec (.postSamples .pg o2 o2Status entries) s = .next t
        ∧ (t.port .pg).slot = some ⟨.ok, x.entries.flatMap fun e => be 1 e.channel.id ++
            if counted e then be 1 1 ++ be 3 (v e) ++ be 1 (saturates e).toNat else be 1 0 ++ be 3 0 ++ be 1 0⟩
        ∧ (∀ e ∈ x.entries,
            let a := s.eau.accounts.get e.channel
            t.eau.accounts.get e.channel =
              if counted e then { a with
                sum := if room e then a.sum + v e else a.sum, valid := if room e then a.valid + 1 else a.valid
                maximum := max a.maximum (v e), highO2 := if l.o2clamp < x.o2 then min 65535 (a.highO2 + 1) else a.highO2
                saturated := a.saturated || saturates e }
              else match if e.status = .valid then x.o2Status else e.status with
                | .cal => { a with cal := min 65535 (a.cal + 1) }
                | .fault => { a with fault := min 65535 (a.fault + 1) }
                | .maint => { a with maint := min 65535 (a.maint + 1) }
                | .valid => a)
        ∧ (∀ ch, ch ∉ x.entries.map Sample.channel → t.eau.accounts.get ch = s.eau.accounts.get ch)
        ∧ t.eau = { s.eau with
            accounts := t.eau.accounts, sampleAge := 0, marker := some s.clock.latched.time, staleInFiring := false }
        ∧ RecomputedFrom s t
        ∧ t.clock = s.clock ∧ t.mode = s.mode ∧ t.slg = s.slg ∧ t.fmu = s.fmu ∧ t.pst = s.pst

/-- POST_SAMPLES refused: by its count or a value out of range RANGE, then DUPLICATE, NO_TIME, STATE, TOO_SOON, in that order, with nothing
but the reply. The values in range are an O2 value of at most 2100, statuses 0 to 3 and channel ids 0 to 5, and the set is then those values
(R38, R39). -/
def Obligations.RefusedSamplesChangeNothing : Prop :=
  ∀ (o2 : BitVec 16) (o2Status : BitVec 8) (entries : List SampleEntry) (s : State), Ready .pg s →
    (entries.length = 0 ∨ 6 < entries.length ∨ sampleSetOf o2 o2Status entries = none →
      exec (.postSamples .pg o2 o2Status entries) s = .next (s.replied .pg (.plain .range)))
    ∧ (sampleSetOf o2 o2Status entries = none ↔
        2100 < o2.toNat ∨ 3 < o2Status.toNat ∨ ∃ e ∈ entries, 5 < e.channel.toNat ∨ 3 < e.status.toNat)
    ∧ (∀ x, sampleSetOf o2 o2Status entries = some x →
      let status (b : Byte) : SampleStatus := [SampleStatus.valid, .cal, .fault, .maint].getD b.toNat .valid
      x.o2 = o2.toNat ∧ x.o2Status = status o2Status
        ∧ x.entries = entries.map fun e => ⟨Pollutant.all.getD e.channel.toNat .dust, e.raw.toNat, status e.status⟩)
    ∧ (∀ x, 1 ≤ entries.length → entries.length ≤ 6 → sampleSetOf o2 o2Status entries = some x →
      (¬ (x.entries.map Sample.channel).Nodup →
        exec (.postSamples .pg o2 o2Status entries) s = .next (s.replied .pg (.plain .duplicate)))
      ∧ ((x.entries.map Sample.channel).Nodup → s.clock.run = .stopped →
        exec (.postSamples .pg o2 o2Status entries) s = .next (s.replied .pg (.plain .noTime)))
      ∧ ((x.entries.map Sample.channel).Nodup → s.clock.run = .running → s.periodCopy = none →
        exec (.postSamples .pg o2 o2Status entries) s = .next (s.replied .pg (.plain .state)))
      ∧ (∀ l, (x.entries.map Sample.channel).Nodup → s.clock.run = .running → s.periodCopy = some l →
        s.eau.marker = some s.clock.latched.time →
        exec (.postSamples .pg o2 o2Status entries) s = .next (s.replied .pg (.plain .tooSoon))))

/-- The normalised value is the raw value corrected to the reference oxygen, the measured oxygen limited by the clamp, to the nearest
integer with halves up, at most 999,999 (R41, R42): for the deficits N and D, |E·N/D − v| is at most one half. -/
def Obligations.NormalisationRoundsHalfUp : Prop :=
  ∀ (l : Limits) (o2 raw : Nat), l.o2ref ≤ 2000 → l.o2clamp ≤ 2000 →
    let exact := raw * (2100 - l.o2ref)
    let deficit := 2100 - min o2 l.o2clamp
    (normalised l o2 raw ≤ 999999)
    ∧ (normalised l o2 raw < 999999 →
        2 * deficit * normalised l o2 raw ≤ 2 * exact + deficit ∧ 2 * exact + deficit < 2 * deficit * (normalised l o2 raw + 1))
    ∧ (2 * exact + deficit ≥ 2 * deficit * 999999 ↔ normalised l o2 raw = 999999)

/-- The closing average of a channel is present from V valid readings on, and is the sum over the count to the nearest integer with halves
up; the channel is EXCEEDED when the period fired and a present average is above L. A day record averages a channel's present averages in
the fired half-hours the same way from M on. A ring takes a record as its newest and drops its oldest when it is full (R59, R60, R63, R66,
R67). -/
def Obligations.RecordsAverageAndRingsTurn : Prop :=
  (∀ (p : OpenPeriod) (acc : PerPollutant Accumulator) (ch : Pollutant),
    let a := acc.get ch
    let e := halfHourChannel p acc ch
    (∀ l, p.copy = some l → 1 ≤ l.minValid →
      (a.valid < l.minValid → e.average = none)
      ∧ (l.minValid ≤ a.valid → ∃ v, e.average = some v ∧ 2 * a.valid * v ≤ 2 * a.sum + a.valid
          ∧ 2 * a.sum + a.valid < 2 * a.valid * (v + 1))
      ∧ (e.exceeded = true ↔ p.fired = true ∧ ∃ v, e.average = some v ∧ (l.channels.get ch).limit < v))
    ∧ (p.copy = none → e.average = none ∧ e.exceeded = false)
    ∧ e.valid = a.valid ∧ e.cal = a.cal ∧ e.fault = a.fault ∧ e.maint = a.maint ∧ e.maximum = a.maximum
    ∧ e.saturated = a.saturated ∧ (e.highO2 = true ↔ 0 < a.highO2))
  ∧ (∀ (l : Limits) (day : Nat) (rs : List HalfHourRecord) (ch : Pollutant), 1 ≤ l.minHalves →
    let r := dayRecord (some l) day rs
    let e := r.channels.get ch
    let averages := rs.filterMap fun x => if x.fired then (x.channels.get ch).average else none
    r.day = day ∧ r.held = rs.length ∧ r.fired = rs.countP (fun x => x.fired) ∧ r.serial = some l.serial
    ∧ (r.notOperated = true ↔ ∀ x ∈ rs, x.fired = false)
    ∧ e.halves = averages.length ∧ e.exceededCount = rs.countP (fun x => (x.channels.get ch).exceeded)
    ∧ (averages.length < l.minHalves → e.average = none)
    ∧ (l.minHalves ≤ averages.length → ∃ v, e.average = some v ∧ 2 * averages.length * v ≤ 2 * averages.sum + averages.length
        ∧ 2 * averages.sum + averages.length < 2 * averages.length * (v + 1))
    ∧ (e.exceeded = true ↔ ∃ v, e.average = some v ∧ (l.channels.get ch).dayLimit < v))
  ∧ (∀ (depth : Nat) (ring : List HalfHourRecord) (r : HalfHourRecord), 1 ≤ depth → ring.length ≤ depth →
    (ring.length < depth → pushRing depth ring r = ring ++ [r])
    ∧ (ring.length = depth → pushRing depth ring r = ring.tail ++ [r]))

/-- SET_CLEANING on PG hands each change to the mode controller: a loss holds a firing plant with CLEANING alone, and joins the causes of a
held one; a return clears the cause, and the firing entry check follows in WARMING and HOLD; a repeat changes nothing; other codes are
refused RANGE. At the entry into HOLD the rams stop and the grate runs on at its minimum (R24, R26 to R28, R50, R95, R109). -/
def Obligations.SetCleaningMovesTheInterlock : Prop :=
  ∀ (code : BitVec 8) (s : State), Ready .pg s →
    let told := s.replied .pg (.plain .ok)
    (2 ≤ code.toNat → exec (.setCleaning .pg code) s = .next (s.replied .pg (.plain .range)))
    ∧ (∀ a, Availability.ofCode code = some a →
      (a = s.eau.cleaning → exec (.setCleaning .pg code) s = .next told)
      ∧ (a ≠ s.eau.cleaning → s.mode.mode = .cold ∨ s.mode.mode = .burnout ∨ s.mode.mode = .tripped →
        exec (.setCleaning .pg code) s = .next ((told.setEau { s.eau with cleaning := a }).setMode { s.mode with cleaning := a }))
      ∧ (a ≠ s.eau.cleaning → s.mode.mode = .warming → a = .unavailable ∨ s.mode.feedArmed = false →
        exec (.setCleaning .pg code) s = .next ((told.setEau { s.eau with cleaning := a }).setMode { s.mode with cleaning := a }))
      ∧ (a ≠ s.eau.cleaning → a = .unavailable → s.mode.mode = .hold →
        exec (.setCleaning .pg code) s = .next ((told.setEau { s.eau with cleaning := a }).setMode
          { s.mode with cleaning := a, causes := { s.mode.causes with cleaning := true } }))
      ∧ (a ≠ s.eau.cleaning → a = .available → s.mode.mode = .hold →
        s.mode.causes.lowTemp = true ∨ s.mode.causes.tempStale = true ∨ s.mode.causes.noFeed = true →
        exec (.setCleaning .pg code) s = .next ((told.setEau { s.eau with cleaning := a }).setMode
          { s.mode with cleaning := a, causes := { s.mode.causes with cleaning := false } }))
      ∧ (a ≠ s.eau.cleaning → a = .unavailable → s.mode.mode = .firing → GrantLaw s →
        ∃ t, exec (.setCleaning .pg code) s = .next t ∧ (t.port .pg).slot = some (.plain .ok)
          ∧ t.mode = { s.mode with
              mode := .hold, burner := true, timer := 0, causes := onlyCleaning, cleaning := .unavailable, trip := none }
          ∧ FeedStopped t ∧ FeedEnds s t ∧ (∀ q, t.holds q .mode = true)
          ∧ t.eau = { s.eau with cleaning := .unavailable, staleInFiring := false }
          ∧ t.clock = s.clock ∧ t.slg = s.slg ∧ t.fmu = s.fmu ∧ t.pst = s.pst)
      ∧ (∀ l, a ≠ s.eau.cleaning → a = .available → s.mode.mode = .hold → s.pst.workingLimits = some l → l.dwell ≤ s.mode.timer →
        s.mode.causes.lowTemp = false → s.mode.causes.tempStale = false → s.mode.causes.noFeed = false → GrantLaw s →
        ∃ t, exec (.setCleaning .pg code) s = .next t ∧ (t.port .pg).slot = some (.plain .ok)
          ∧ t.mode = { s.mode with
              mode := .firing, burner := false, timer := 0, causes := .none, cleaning := .available, trip := none }
          ∧ t.feu.target = min (min s.feu.request t.feu.effectiveCap) s.feu.boilerLimit ∧ t.feu.grant = 0
          ∧ t.eau = { s.eau with cleaning := .available, staleInFiring := t.eau.staleInFiring }
          ∧ (∀ q, t.holds q .mode = true) ∧ t.clock = s.clock ∧ t.slg = s.slg ∧ t.fmu = s.fmu ∧ t.pst = s.pst)
      ∧ (a ≠ s.eau.cleaning → a = .available → GrantLaw s → StrokeLaw s →
        ∃ t, exec (.setCleaning .pg code) s = .next t
          ∧ EntryChecked ((told.setEau { s.eau with cleaning := .available }).setMode { s.mode with
              cleaning := .available
              causes := if s.mode.mode = .hold then { s.mode.causes with cleaning := false } else s.mode.causes }) t))

/-- SET_REAGENTS on PG takes the three settings together, each base demand at most 1000, and the envelope recomputes; a code outside its
list is refused RANGE with nothing changed (R51, R80). -/
def Obligations.SetReagentsRecomputes : Prop :=
  ∀ (a b c : ReagentArgs) (s : State), Ready .pg s →
    (2 ≤ a.availability.toNat ∨ 2 ≤ b.availability.toNat ∨ 2 ≤ c.availability.toNat →
      exec (.setReagents .pg a b c) s = .next (s.replied .pg (.plain .range)))
    ∧ (∀ x y z, Availability.ofCode a.availability = some x → Availability.ofCode b.availability = some y →
      Availability.ofCode c.availability = some z → GrantLaw s →
      ∃ t, exec (.setReagents .pg a b c) s = .next t
        ∧ t.eau = { s.eau with
            reagents := ⟨⟨x, min 1000 a.base.toNat⟩, ⟨y, min 1000 b.base.toNat⟩, ⟨z, min 1000 c.base.toNat⟩⟩ }
        ∧ (t.port .pg).slot = some (.plain
            (if 1000 < a.base.toNat ∨ 1000 < b.base.toNat ∨ 1000 < c.base.toNat then .clamped else .ok))
        ∧ RecomputedFrom s t ∧ t.clock = s.clock ∧ t.mode = s.mode ∧ t.slg = s.slg ∧ t.fmu = s.fmu ∧ t.pst = s.pst)

/-- CLEAR_HISTORY whole: its checks, and both rings emptied with nothing else touched (R72). -/
def Obligations.ClearHistoryEmptiesTheRings : Prop :=
  ∀ (p : Port) (s : State), Ready p s →
    exec (.clearHistory p) s = .next (
      if p ≠ .pg then s.replied p (.plain .notOwner)
      else if s.clock.run = .running then s.replied p (.plain .state)
      else (s.replied p (.plain .ok)).setEau { s.eau with halfHours := [], days := [] })

/-- Every step keeps the emission unit's law, where the clock keeps its own (R46, R48, R54, R55, R63, R67). -/
def Obligations.EmissionLawKept : Prop :=
  ∀ s t : State, ClockLaw s.clock → EmissionLaw s → step s = .next t → EmissionLaw t

/-! ## The firing envelope -/

/-- The channel cap of a ratio: 1000 up to the knee, F from the limit on, between them a straight line rounded toward 1000; between F and
1000 throughout, and never rising as the ratio rises. A channel that takes part is reported with the cap of its ratio, one that does not
with 1000 and its flag clear (R79). The ratio is the running average over the limit, per mille and at most 2000; a channel takes part from Nc
valid readings on in the role FIRING, and in the role DOSING while its reagent is UNAVAILABLE. -/
def Obligations.ChannelCapFallsFromKneeToFloor : Prop :=
  (∀ (l : Limits) (q r : Nat), l.knee ≤ 950 → l.floor ≤ 1000 →
    (q ≤ l.knee → channelCap l q = 1000)
    ∧ (1000 ≤ q → channelCap l q = l.floor)
    ∧ (l.knee < q → q < 1000 → channelCap l q = 1000 - (1000 - l.floor) * (q - l.knee) / (1000 - l.knee))
    ∧ l.floor ≤ channelCap l q ∧ channelCap l q ≤ 1000 ∧ (q ≤ r → channelCap l r ≤ channelCap l q))
  ∧ ∀ (l : Limits) (e : Emission) (ch : Pollutant),
    let c := l.channels.get ch
    let f := capFigure (some l) e ch
    let a := e.accounts.get ch
    f.ratio = min 2000 ((if a.valid = 0 then 0 else a.sum / a.valid) * 1000 / c.limit)
    ∧ (f.takesPart = true ↔ l.capValid ≤ a.valid ∧ (c.role = .firing
        ∨ c.role = .dosing ∧ ∃ r, c.reagent = some r ∧ (e.reagents.get r).availability = .unavailable))
    ∧ (f.takesPart = true → f.cap = channelCap l f.ratio)
    ∧ (f.takesPart = false → f.cap = 1000)

/-- SET_BOILER_LIMIT on PF: the limit, at most 1000, the target and the limiting flag of the new terms, the grant fallen to a lower target
and divided between the lanes, with the periods that follow, CAP_LIMITING to PF and PD where the flag rises; refused NOT_OWNER on another
port (R76, R84, R85, R88, R106, R109). -/
def Obligations.SetBoilerLimitRetargets : Prop :=
  ∀ (limit : BitVec 16) (s : State),
    (∀ p, p ≠ .pf → Ready p s → exec (.setBoilerLimit p limit) s = .next (s.replied p (.plain .notOwner)))
    ∧ (Ready .pf s → GrantLaw s →
    let b := min 1000 limit.toNat
    let e := { s.feu with boilerLimit := b }
    let target := if s.mode.mode = .firing then min (min s.feu.request s.feu.effectiveCap) b else 0
    ∃ t, exec (.setBoilerLimit .pf limit) s = .next t
      ∧ (t.port .pf).slot = some (.plain (if 1000 < limit.toNat then .clamped else .ok))
      ∧ t.feu = { e with target := target, grant := min s.feu.grant target, limiting := limitingFlag s.mode.mode e }
      ∧ t.sta.grant = t.feu.grant ∧ (s.feu.grant ≤ target → t.sta = s.sta) ∧ GrantFollows s t
      ∧ (limitingFlag s.mode.mode e = true → s.feu.limiting = false →
          t.holds .pf .capLimiting = true ∧ t.holds .pd .capLimiting = true)
      ∧ t.clock = s.clock ∧ t.mode = s.mode ∧ t.eau = s.eau ∧ t.slg = s.slg ∧ t.fmu = s.fmu ∧ t.pst = s.pst)

/-- Every step keeps the cap between F and 1000, the effective cap at or below the computed cap, and every figure, the capping channel and
the demands those of the accounts and the copy as they stand (R77 to R81, R83, R89, R92). Those are: the computed cap the least channel cap
taking part, F while the stale-in-FIRING condition is on, 1000 with none taking part and without a LIMITS copy; the capping channel the first
in id order that gives a computed cap below 1000; and each demand the base plus the gain-weighted excess of the largest ratio served, the
lowest id among several, over its target, at most 1000. -/
def Obligations.CapAndFiguresKept : Prop :=
  (∀ s t : State, PermitLaw s.pst → CapLaw s → FormedLaw s → step s = .next t → CapLaw t ∧ FormedLaw t)
  ∧ ∀ (l : Limits) (e : Emission),
    let figs := capFigures (some l) e
    let cap := computedCapOf (some l) e
    (computedCapOf none e = 1000 ∧ (e.staleInFiring = true → cap = l.floor))
    ∧ (e.staleInFiring = false → cap ≤ 1000 ∧ (∀ ch, (figs.get ch).takesPart = true → cap ≤ (figs.get ch).cap)
        ∧ (cap = 1000 ∨ ∃ ch, (figs.get ch).takesPart = true ∧ cap = (figs.get ch).cap))
    ∧ (e.staleInFiring = true ∨ cap = 1000 → cappingOf figs e cap = none)
    ∧ (∀ ch, e.staleInFiring = false → cap < 1000 →
      let gives (c : Pollutant) := (figs.get c).takesPart = true ∧ (figs.get c).cap = cap
      (cappingOf figs e cap = some ch ↔ gives ch ∧ ∀ c, c.id < ch.id → ¬ gives c))
    ∧ ∀ r,
      let base := (e.reagents.get r).base
      let serves (c : Pollutant) := (l.channels.get c).role = .dosing ∧ (l.channels.get c).reagent = some r ∧ 1 ≤ (e.accounts.get c).valid
      let q (c : Pollutant) := (figs.get c).ratio
      (demandsOf none e).get r = ⟨base, none⟩
      ∧ ((∀ c, ¬ serves c) → (demandsOf (some l) e).get r = ⟨base, none⟩)
      ∧ ∀ ch, serves ch → (∀ c, serves c → q c < q ch ∨ q c = q ch ∧ ch.id ≤ c.id) →
        (demandsOf (some l) e).get r
          = ⟨min 1000 (base + (l.channels.get ch).gain * (q ch - (l.channels.get ch).target) / 100), some (q ch, ch)⟩

/-- Every step keeps the grant at most the least of the request, the effective cap and the boiler limit, 0 outside FIRING, and the same at
the stroke timer array; and the lane grants those of the grant and the split (R75, R84, R85, R87, R88, R106). -/
def Obligations.GrantLawKept : Prop :=
  ∀ s t : State, GrantLaw s → step s = .next t →
    GrantLaw t ∧ (t.mode.mode ≠ .firing → t.feu.grant = 0)
      ∧ t.feu.grant ≤ t.feu.request ∧ t.feu.grant ≤ t.feu.effectiveCap ∧ t.feu.grant ≤ t.feu.boilerLimit
      ∧ (LaneLaw s.sta → LaneLaw t.sta)

/-! ## The stroke channels -/

/-- The timed events of a stroke channel and the arrivals at its end-of-stroke input: the next stroke or WAIT at a period expiry; at a
stroke limit expiry a ram's jam, a grate channel's retry, or its jam and the trip; at an EOS arrival the capture, and the ram's mass in the
WASTE total; the counters of the running channels one more at a tick (R94, R98 to R102, R105, R145, R146). A row that the channel's state
does not allow changes nothing: for EOS_ARRIVAL by R99, for the expiries by the model's choice (log entry 8). A held PLANT copy is released
at the trip (R135, R159). At the HOLD of the last ram's jam the grate runs on at its minimum, at the trip every channel stops (R95, R96,
R109). -/
def Obligations.StrokeEvents : Prop :=
  ∀ (ch : StrokeChannel) (s : State),
    let r := s.sta.channels.get ch
    let put (x : StrokeRecord) := s.setSta { s.sta with channels := s.sta.channels.set ch x }
    let wait := isRam ch = true ∧ r.source = .auto ∧ laneGrant s.sta ch < 50
    let mass := if ch = .ramA then s.sta.massA else s.sta.massB
    let done := { r with state := .dwell, capture := min r.counter (r.limit - 1), jamCount := 0
                         strokeCount := (r.strokeCount + 1) % 4294967296 }
    (r.state = .dwell → r.period ≤ r.counter → wait →
      exec (.periodExpiry ch) s = .next (put { r with state := .wait, counter := 0, preload := none }))
    ∧ (∀ pl, r.state = .dwell → r.period ≤ r.counter → ¬ wait → s.pst.workingPlant = some pl →
      exec (.periodExpiry ch) s = .next (put { r with
        state := .stroke, counter := 0, preload := none, period := r.preload.getD r.period, limit := (timingOf pl ch).ls }))
    ∧ (r.state ≠ .dwell ∨ r.counter < r.period → exec (.periodExpiry ch) s = .next s)
    ∧ (r.state ≠ .stroke ∨ r.counter < r.limit → exec (.strokeLimitExpiry ch) s = .next s)
    ∧ (r.state = .stroke → r.limit ≤ r.counter → isRam ch = true → InterlockLaw s →
        feedCapable (s.sta.channels.get (if ch = .ramA then .ramB else .ramA)) = true →
      exec (.strokeLimitExpiry ch) s = .next ((s.post .jam .pf).setSta { s.sta with
        channels := s.sta.channels.set ch { r with state := .jammed, counter := r.limit, jamCount := 1 }, rams := 1 }))
    ∧ (r.state = .stroke → r.limit ≤ r.counter → isRam ch = true → r.enabled = true → s.mode.mode = .firing → InterlockLaw s →
        GrantLaw s → feedCapable (s.sta.channels.get (if ch = .ramA then .ramB else .ramA)) = false →
      ∃ t, exec (.strokeLimitExpiry ch) s = .next t
        ∧ t.mode = { s.mode with mode := .hold, burner := true, timer := 0, causes := onlyNoFeed, rams := 0, trip := none }
        ∧ t.sta.channels.get ch = { r with state := .jammed, counter := r.limit, jamCount := 1 } ∧ t.sta.rams = 0
        ∧ FeedEnds (put { r with state := .jammed, counter := r.limit, jamCount := 1 }) t
        ∧ FeedStopped t ∧ t.holds .pf .jam = true ∧ (∀ q, t.holds q .mode = true)
        ∧ t.eau = { s.eau with staleInFiring := false } ∧ t.clock = s.clock ∧ t.slg = s.slg ∧ t.fmu = s.fmu ∧ t.pst = s.pst)
    ∧ (r.state = .stroke → r.limit ≤ r.counter → isRam ch = false → r.jamCount = 0 →
      exec (.strokeLimitExpiry ch) s = .next (put { r with state := .dwell, jamCount := 1 }))
    ∧ (r.state = .stroke → r.limit ≤ r.counter → isRam ch = false → r.jamCount ≠ 0 →
        s.mode.mode = .firing ∨ s.mode.mode = .hold ∨ s.mode.mode = .burnout → GrantLaw s →
      ∃ t, exec (.strokeLimitExpiry ch) s = .next t
        ∧ t.mode = { s.mode with
            mode := .tripped, burner := false, timer := 0, causes := .none, feedArmed := false
            trip := some { cause := .grateJam, day := s.clock.latched.time.day
                           secondOfDay := secondOfDay s.clock.latched.time, count := 0 } }
        ∧ t.sta.channels.get ch = { r with state := .jammed, counter := r.limit, jamCount := 2 }
        ∧ StrokesStop (put { r with state := .jammed, counter := r.limit, jamCount := 2 }) t
        ∧ (∀ c, (t.sta.channels.get c).state = .off ∨ (t.sta.channels.get c).state = .jammed)
        ∧ FeedStopped t ∧ t.holds .pf .jam = true ∧ (∀ q, t.holds q .mode = true)
        ∧ t.eau = { s.eau with staleInFiring := s.eau.staleInFiring && s.mode.mode != .firing }
        ∧ t.clock = s.clock ∧ t.fmu = s.fmu ∧ HeldCopyReleased s t)
    ∧ (r.state ≠ .stroke → exec (.eosArrival ch) s = .next s)
    ∧ (r.state = .stroke → isRam ch = false → exec (.eosArrival ch) s = .next (put done))
    ∧ (r.state = .stroke → isRam ch = true → s.fmu.state = .unset →
      exec (.eosArrival ch) s = .next ((put done).setFmu { s.fmu with
        waste := { s.fmu.waste with waiting := min 4294967295 (s.fmu.waste.waiting + mass), last := some ⟨s.band, s.clock.latched.period⟩ }
        pendingSat := s.fmu.pendingSat || decide (4294967295 < s.fmu.waste.waiting + mass) }))
    ∧ (r.state = .stroke → isRam ch = true → s.fmu.state = .running → TotalLaw s.fmu.waste.grand → mass ≤ 2000 →
      ∃ t, exec (.eosArrival ch) s = .next t
        ∧ t.fmu = { s.fmu with waste := { s.fmu.waste with
            grand := t.fmu.waste.grand, last := some ⟨s.band, s.clock.latched.period⟩
            wrapped := s.fmu.waste.wrapped || decide (10 ^ 12 ≤ totalValue s.fmu.waste.grand + mass) } }
        ∧ TotalLaw t.fmu.waste.grand ∧ totalValue t.fmu.waste.grand = (totalValue s.fmu.waste.grand + mass) % 10 ^ 12
        ∧ (10 ^ 12 ≤ totalValue s.fmu.waste.grand + mass → t.holds .pd .meterWrap = true)
        ∧ t.sta = (put done).sta ∧ t.clock = s.clock ∧ t.mode = s.mode ∧ t.eau = s.eau ∧ t.feu = s.feu ∧ t.slg = s.slg
        ∧ t.pst = s.pst)
    ∧ ((∀ c, expiryDue (s.sta.channels.get c) = false) →
      exec .strokeUnitTick s = .next (s.setSta { s.sta with channels := s.sta.channels.map fun _ x =>
        if x.state = .dwell ∨ x.state = .stroke then { x with counter := min 65535 (x.counter + 1) } else x }))

/-- SET_CHANNEL on PF: refused RANGE for a code outside its list; accepted, the settings are recorded with the fixed period at least Ls +
10; the channel goes OFF, starts its cycle, leaves WAIT or has its preload written, and a JAMMED one keeps its state. The last
feed-capable ram disabled in FIRING holds the plant with NO_FEED, the grate running on at its minimum (R95, R109); elsewhere the number of
feed-capable rams falling to 0 joins the causes of a held plant, and its rising from 0 leaves them, with the firing entry check after it
(R24, R28, R96, R97, R103, R105, R109, R110, R112). Without a PLANT copy Ls counts as 50 in the lowest fixed period (R112); that the
stroke limit and the period then keep the values held is the model's choice (log entry 20). -/
def Obligations.SetChannelSettles : Prop :=
  ∀ (number enabled source : BitVec 8) (fixedPeriod : BitVec 16) (s : State), Ready .pf s →
    (8 ≤ number.toNat ∨ 2 ≤ enabled.toNat ∨ 2 ≤ source.toNat →
      exec (.setChannel .pf number enabled source fixedPeriod) s = .next (s.replied .pf (.plain .range)))
    ∧ (∀ ch en src, StrokeChannel.ofCode number = some ch → flagOf enabled = some en → Source.ofCode source = some src →
      let lowest := match s.pst.workingPlant with
        | some pl => (timingOf pl ch).ls + 10
        | none => 60
      let told := s.replied .pf (.plain (if fixedPeriod.toNat < lowest then .clamped else .ok))
      let r := { s.sta.channels.get ch with enabled := en, source := src, fixedPeriod := max lowest fixedPeriod.toNat }
      let period := computedPeriod s.mode.mode s.pst.workingPlant s.sta ch r
      let begun := { r with state := .dwell, counter := 0, preload := none, period := period.getD r.period
                            limit := match s.pst.workingPlant with
                              | some pl => (timingOf pl ch).ls
                              | none => r.limit }
      let settled :=
        if r.state = .jammed then r
        else if active s.mode.mode ch r = false then
          (if r.state = .off then r else { r with state := .off, counter := 0, preload := none })
        else if r.state = .off then
          (if mustWait s.sta ch r then { r with state := .wait, counter := 0, preload := none } else begun)
        else if r.state = .wait then (if mustWait s.sta ch r then r else begun)
        else match period with
          | some x => { r with preload := some x }
          | none => r
      let channels := s.sta.channels.set ch settled
      let rams := (feedCapable channels.ramA).toNat + (feedCapable channels.ramB).toNat
      ((s.sta.rams = 0 ↔ rams = 0) →
        exec (.setChannel .pf number enabled source fixedPeriod) s = .next (told.setSta { s.sta with
          channels := channels, rams := rams }))
      ∧ (s.sta.rams ≠ 0 → rams = 0 → s.mode.mode = .firing → GrantLaw s →
        ∃ t, exec (.setChannel .pf number enabled source fixedPeriod) s = .next t
          ∧ (t.port .pf).slot = (told.port .pf).slot
          ∧ t.mode = { s.mode with mode := .hold, burner := true, timer := 0, causes := onlyNoFeed, rams := 0, trip := none }
          ∧ FeedStopped t ∧ FeedEnds (told.setSta { s.sta with channels := channels }) t ∧ t.sta.rams = 0 ∧ (∀ q, t.holds q .mode = true)
          ∧ t.eau = { s.eau with staleInFiring := false } ∧ t.clock = s.clock ∧ t.slg = s.slg ∧ t.fmu = s.fmu ∧ t.pst = s.pst)
      ∧ (s.sta.rams ≠ 0 → rams = 0 → s.mode.mode ≠ .firing →
        exec (.setChannel .pf number enabled source fixedPeriod) s = .next ((told.setSta { s.sta with
          channels := channels, rams := 0 }).setMode { s.mode with
            rams := 0, causes := if s.mode.mode = .hold then { s.mode.causes with noFeed := true } else s.mode.causes }))
      ∧ (s.sta.rams = 0 → rams ≠ 0 → GrantLaw s → StrokeLaw s →
        ∃ t, exec (.setChannel .pf number enabled source fixedPeriod) s = .next t
          ∧ EntryChecked ((told.setSta { s.sta with channels := channels, rams := rams }).setMode { s.mode with
              rams := rams
              causes := if s.mode.mode = .hold then { s.mode.causes with noFeed := false } else s.mode.causes }) t))

/-- SET_LANES on PF takes the split, 300 to 700, and the masses, at most 2000, divides the grant held between the lanes, writes the new
period of every AUTO channel in DWELL or STROKE into its preload, and starts a waiting ram whose lane grant reaches 50 (R106 to R110,
R113). Without a PLANT copy there is no new period, and the channels stay as they are (the
model's choice, log entry 20). -/
def Obligations.SetLanesDividesTheGrant : Prop :=
  ∀ (split massA massB : BitVec 16) (s : State), Ready .pf s →
    let inRange := 300 ≤ split.toNat ∧ split.toNat ≤ 700 ∧ massA.toNat ≤ 2000 ∧ massB.toNat ≤ 2000
    let sA := min 700 (max 300 split.toNat)
    let gA := min 1000 (s.sta.grant * sA / 500)
    let gB := min 1000 (s.sta.grant * (1000 - sA) / 500)
    let lane (ch : StrokeChannel) := if ch = .ramA ∨ ch = .grateA1 ∨ ch = .grateA2 ∨ ch = .grateA3 then gA else gB
    let told := s.replied .pf (.plain (if inRange then .ok else .clamped))
    let set := { s.sta with split := sA, massA := min 2000 massA.toNat, massB := min 2000 massB.toNat, laneA := gA, laneB := gB }
    (∀ pl, s.pst.workingPlant = some pl →
      let figure (ch : StrokeChannel) := if isRam ch then lane ch
        else if s.mode.mode = .firing then max (lane ch) pl.grateMin else pl.grateMin
      let period (ch : StrokeChannel) := max ((timingOf pl ch).ls + 10)
        (min 65535 (((timingOf pl ch).pnom * 1000 + figure ch / 2) / figure ch))
      ∃ a, exec (.setLanes .pf split massA massB) s = .next (told.setSta a) ∧ a = { set with channels := a.channels }
        ∧ ∀ ch, let r := s.sta.channels.get ch
          a.channels.get ch =
            if r.source = .fixed ∨ (isRam ch = true ∧ lane ch < 50) then r
            else if r.state = .wait then
              { r with state := .dwell, counter := 0, preload := none, period := period ch, limit := (timingOf pl ch).ls }
            else if r.state = .dwell ∨ r.state = .stroke then { r with preload := some (period ch) }
            else r)
    ∧ (s.pst.workingPlant = none → (∀ ch, (s.sta.channels.get ch).state ≠ .wait) →
      exec (.setLanes .pf split massA massB) s = .next (told.setSta set))

/-- CLEAR_JAM on PF: refused RANGE above 7 and STATE for a channel that is not JAMMED; a grate channel starts its cycle again where it is
active and goes OFF elsewhere; a ram cleared in FIRING starts its cycle, or waits as an AUTO ram below the cutoff; a cleared ram is
feed-capable again where it is enabled, and where it is the only one the mode controller takes the change: NO_FEED leaves the causes of a
held plant, and the firing entry check follows (R24, R26, R28, R97, R104, R105). That a channel cleared to OFF keeps its other fields, its
preload among them, is DEDUCED (log entry 26). -/
def Obligations.ClearJamReleases : Prop :=
  ∀ (number : BitVec 8) (s : State), Ready .pf s →
    let told := s.replied .pf (.plain .ok)
    (8 ≤ number.toNat → exec (.clearJam .pf number) s = .next (s.replied .pf (.plain .range)))
    ∧ ∀ ch, StrokeChannel.ofCode number = some ch →
      let r := s.sta.channels.get ch
      let off := { r with state := .off, counter := 0, jamCount := 0 }
      (r.state ≠ .jammed → exec (.clearJam .pf number) s = .next (s.replied .pf (.plain .state)))
      ∧ (∀ pl p, r.state = .jammed → isRam ch = false → active s.mode.mode ch r = true → s.pst.workingPlant = some pl →
        computedPeriod s.mode.mode (some pl) s.sta ch r = some p → InterlockLaw s →
        exec (.clearJam .pf number) s = .next (told.setSta { s.sta with channels := s.sta.channels.set ch { r with
          state := .dwell, counter := 0, jamCount := 0, preload := none, period := p, limit := (timingOf pl ch).ls } }))
      ∧ (r.state = .jammed → isRam ch = false → active s.mode.mode ch r = false → InterlockLaw s →
        exec (.clearJam .pf number) s = .next (told.setSta { s.sta with channels := s.sta.channels.set ch off }))
      ∧ (r.state = .jammed → isRam ch = true → r.enabled = false → InterlockLaw s →
        exec (.clearJam .pf number) s = .next (told.setSta { s.sta with channels := s.sta.channels.set ch off }))
      ∧ (r.state = .jammed → isRam ch = true → r.enabled = true → s.mode.mode ≠ .firing → 1 ≤ s.sta.rams → InterlockLaw s →
        exec (.clearJam .pf number) s = .next (told.setSta { s.sta with
          channels := s.sta.channels.set ch off, rams := s.sta.rams + 1 }))
      ∧ (∀ l, r.state = .jammed → isRam ch = true → r.enabled = true → s.mode.mode = .hold → s.sta.rams = 0 → InterlockLaw s →
        GrantLaw s → s.mode.causes = onlyNoFeed → s.pst.workingLimits = some l → l.dwell ≤ s.mode.timer →
        ∃ t, exec (.clearJam .pf number) s = .next t ∧ (t.port .pf).slot = some (.plain .ok)
          ∧ t.mode = { s.mode with mode := .firing, burner := false, timer := 0, causes := .none, rams := 1, trip := none }
          ∧ t.sta.rams = 1 ∧ t.feu.grant = 0
          ∧ ((t.sta.channels.get ch).state = .dwell ∨ (t.sta.channels.get ch).state = .wait) ∧ (t.sta.channels.get ch).jamCount = 0
          ∧ (∀ q, t.holds q .mode = true) ∧ t.clock = s.clock ∧ t.slg = s.slg ∧ t.fmu = s.fmu ∧ t.pst = s.pst)
      ∧ (∀ pl, r.state = .jammed → isRam ch = true → r.enabled = true → s.mode.mode = .firing → s.pst.workingPlant = some pl →
        InterlockLaw s →
        let g := laneGrant s.sta ch
        let timing := timingOf pl ch
        let period := max (timing.ls + 10)
          (if r.source = .fixed then r.fixedPeriod else min 65535 ((timing.pnom * 1000 + g / 2) / g))
        exec (.clearJam .pf number) s = .next (told.setSta { s.sta with
          rams := s.sta.rams + 1
          channels := s.sta.channels.set ch (if r.source = .auto ∧ g < 50
            then { r with state := .wait, counter := 0, jamCount := 0, preload := none }
            else { r with
              state := .dwell, counter := 0, jamCount := 0, preload := none, period := period, limit := timing.ls }) }))
      ∧ (r.state = .jammed → isRam ch = true → r.enabled = true → s.mode.mode ≠ .firing → s.sta.rams = 0 → InterlockLaw s →
        GrantLaw s → StrokeLaw s →
        ∃ t, exec (.clearJam .pf number) s = .next t
          ∧ EntryChecked ((told.setSta { s.sta with channels := s.sta.channels.set ch off, rams := 1 }).setMode { s.mode with
              rams := 1, causes := if s.mode.mode = .hold then { s.mode.causes with noFeed := false } else s.mode.causes }) t)

/-- Every step keeps each stroke channel where the mode allows it: OFF or JAMMED while inactive, never OFF while active, and only a ram in
WAIT; so a ram strokes in FIRING alone (R93, R95 to R97, R103). -/
def Obligations.StrokeLawKept : Prop :=
  ∀ s t : State, StrokeLaw s → step s = .next t →
    StrokeLaw t ∧ (t.mode.mode ≠ .firing → strokeOutput t.sta.channels.ramA = false ∧ strokeOutput t.sta.channels.ramB = false)

/-! ## The steam ledger -/

/-- POST_STEAM, SET_AUX_DEMAND and SET_CONSUMERS: the new figure, the allocation in the order of service, the request rounded up and,
while the steam is stale, not above the one held; a grant that falls with it reaches the strokes; values already held recompute nothing
(R116 to R119, R128, R130, R131, R133, R134). Without a PLANT copy the stale flag stays as it is, the aux demand is kept as given, the
request is 0 and no dump is over its capacity (R116 to R118, R132, R133). -/
def Obligations.LedgerCommandsReallocate : Prop :=
  ∀ (x : BitVec 16) (turbine extraction : BitVec 8) (s : State), GrantLaw s →
    let reformed (t : State) := t.slg.alloc = allocate t.slg ∧ AllocationLaw t.slg ∧ ReallocatedFrom s t ∧ t.feu.request = t.slg.request
      ∧ GrantLaw t ∧ GrantFollows s t ∧ t.clock = s.clock ∧ t.mode = s.mode ∧ t.eau = s.eau ∧ t.fmu = s.fmu ∧ t.pst = s.pst
    let rest (t : State) (l : Ledger) :=
      { l with alloc := t.slg.alloc, shortfall := t.slg.shortfall, dumpOver := t.slg.dumpOver, request := t.slg.request }
    (∀ pl, s.pst.workingPlant = some pl →
      let aux := min pl.auxMax x.toNat
      let asked (l : Ledger) := min 1000 (((l.powerTarget + l.heatTarget + l.aux) * 1000 + pl.snom - 1) / pl.snom)
      let held (l : Ledger) := if s.slg.stale then min (asked l) s.slg.request else asked l
      let formed (t : State) := reformed t ∧ t.slg.dumpOver = decide (pl.dumpCap < t.slg.alloc.dump)
      (Ready .pf s → ∃ t, exec (.postSteam .pf x) s = .next t ∧ formed t ∧ (t.port .pf).slot = some (.plain .ok)
          ∧ t.slg = rest t { s.slg with steam := x.toNat, present := true, age := 0, stale := false }
          ∧ t.slg.request = (if s.slg.stale then asked s.slg else s.slg.request))
      ∧ (Ready .pf s → aux = s.slg.aux →
          exec (.setAuxDemand .pf x) s = .next (s.replied .pf (.plain (if aux < x.toNat then .clamped else .ok))))
      ∧ (Ready .pf s → aux ≠ s.slg.aux → ∃ t, exec (.setAuxDemand .pf x) s = .next t ∧ formed t
          ∧ (t.port .pf).slot = some (.plain (if aux < x.toNat then .clamped else .ok))
          ∧ t.slg = rest t { s.slg with aux := aux } ∧ t.slg.request = held { s.slg with aux := aux })
      ∧ (Ready .pd s → 2 ≤ turbine.toNat ∨ 2 ≤ extraction.toNat →
          exec (.setConsumers .pd turbine extraction) s = .next (s.replied .pd (.plain .range)))
      ∧ (∀ t₁ e₁, Ready .pd s → Availability.ofCode turbine = some t₁ → Availability.ofCode extraction = some e₁ →
        (t₁ = s.slg.turbine → e₁ = s.slg.extraction →
          exec (.setConsumers .pd turbine extraction) s = .next (s.replied .pd (.plain .ok)))
        ∧ (¬ (t₁ = s.slg.turbine ∧ e₁ = s.slg.extraction) →
          let l := { s.slg with
            turbine := t₁, extraction := e₁
            powerSetpoint := if t₁ = .available then s.slg.powerSetpoint else 0
            heatSetpoint := if e₁ = .available then s.slg.heatSetpoint else 0
            powerTarget := if t₁ = .available then ((s.slg.active.map fun o => min o.power pl.snom).getD 0) else 0
            heatTarget := if e₁ = .available then ((s.slg.active.map fun o => min o.heat pl.heatMax).getD 0) else 0 }
          ∃ t, exec (.setConsumers .pd turbine extraction) s = .next t ∧ formed t ∧ (t.port .pd).slot = some (.plain .ok)
            ∧ t.slg = rest t l ∧ t.slg.request = held l)))
    ∧ (s.pst.workingPlant = none →
      (Ready .pf s → ∃ t, exec (.postSteam .pf x) s = .next t ∧ reformed t ∧ (t.port .pf).slot = some (.plain .ok)
          ∧ t.slg = rest t { s.slg with steam := x.toNat, present := true, age := 0 } ∧ t.slg.request = s.slg.request)
      ∧ (Ready .pf s → x.toNat = s.slg.aux → exec (.setAuxDemand .pf x) s = .next (s.replied .pf (.plain .ok)))
      ∧ (Ready .pf s → x.toNat ≠ s.slg.aux → ∃ t, exec (.setAuxDemand .pf x) s = .next t ∧ reformed t
          ∧ (t.port .pf).slot = some (.plain .ok) ∧ t.slg = rest t { s.slg with aux := x.toNat } ∧ t.slg.request = 0)
      ∧ (∀ t₁ e₁, Ready .pd s → Availability.ofCode turbine = some t₁ → Availability.ofCode extraction = some e₁ →
        s.slg.active = none → ¬ (t₁ = s.slg.turbine ∧ e₁ = s.slg.extraction) →
        ∃ t, exec (.setConsumers .pd turbine extraction) s = .next t ∧ reformed t
          ∧ (t.port .pd).slot = some (.plain .ok)
          ∧ t.slg = rest t { s.slg with
              turbine := t₁, extraction := e₁, powerTarget := 0, heatTarget := 0
              powerSetpoint := if t₁ = .available then s.slg.powerSetpoint else 0
              heatSetpoint := if e₁ = .available then s.slg.heatSetpoint else 0 }
          ∧ t.slg.request = 0))

/-- POST_ORDER on PD clamps the order and places it: active at once at or before the current minute, else in place of the queued order
with its key, else in the queue, refused FULL at 16; refused RANGE, NO_TIME and STATE in that order. An order active at once gives the
targets and the request, at most the one held while the steam is stale, and the steam is served again under its priority. CANCEL_ORDERS
removes the orders of a tag and counts them (R120 to R123, R126, R128, R130 to R134). RANGE is for an hour above 23, a minute above 59, a
day flag or a priority above 1; the order is else its fields, the day ignored with flag 0 (R120, R166). That FULL carries no data, as
R165's list of the data of refusals has it, although R120 speaks of the reply, and the layout of the data of both commands, are the
model's choice (log entry 12). -/
def Obligations.OrdersArePlacedByKey : Prop :=
  ∀ (args : OrderArgs) (tag : BitVec 16) (s : State), Ready .pd s →
    (orderOf args = none → exec (.postOrder .pd args) s = .next (s.replied .pd (.plain .range)))
    ∧ (orderOf args = none ↔ 23 < args.hour.toNat ∨ 59 < args.minute.toNat ∨ 1 < args.dayFlag.toNat ∨ 1 < args.priority.toNat)
    ∧ (∀ o, orderOf args = some o → o = {
        tag := args.tag.toNat, day := if args.dayFlag = 0#8 then none else some args.day.toNat, hour := args.hour.toNat
        minute := args.minute.toNat, power := args.power.toNat, heat := args.heat.toNat
        priority := if args.priority = 0#8 then .powerFirst else .heatFirst, ramp := args.ramp.toNat })
    ∧ (∀ o, orderOf args = some o → s.clock.run = .stopped → exec (.postOrder .pd args) s = .next (s.replied .pd (.plain .noTime)))
    ∧ (∀ o, orderOf args = some o → s.clock.run = .running → s.pst.workingPlant = none →
        exec (.postOrder .pd args) s = .next (s.replied .pd (.plain .state)))
    ∧ (∀ o pl, orderOf args = some o → s.clock.run = .running → s.pst.workingPlant = some pl →
      let c := { o with power := min o.power pl.snom, heat := min o.heat pl.heatMax, ramp := min 100 (max 1 o.ramp) }
      let now := s.clock.latched.minuteKey
      let today := now / 1440 * 1440 + o.hour * 60 + o.minute
      let key := match o.day with
        | some d => d * 1440 + o.hour * 60 + o.minute
        | none => if now < today then today else today + 1440
      let clamped := decide (c ≠ o)
      let data := be 4 key ++ flag clamped
      let taken := s.slg.queue.any fun q => q.key == key
      (now < key → taken = true →
        ∃ before after, enqueue ⟨key, c⟩ (s.slg.queue.filter fun q => q.key ≠ key) = before ++ ⟨key, c⟩ :: after
          ∧ before ++ after = s.slg.queue.filter (fun q => q.key ≠ key)
          ∧ exec (.postOrder .pd args) s = .next ((s.replied .pd ⟨.replaced, data⟩).setSlg { s.slg with
            queue := before ++ ⟨key, c⟩ :: after }))
      ∧ (now < key → taken = false → 16 ≤ s.slg.queue.length →
        exec (.postOrder .pd args) s = .next (s.replied .pd (.plain .full)))
      ∧ (now < key → taken = false → s.slg.queue.length < 16 →
        ∃ before after, before ++ after = s.slg.queue ∧ enqueue ⟨key, c⟩ s.slg.queue = before ++ ⟨key, c⟩ :: after
          ∧ exec (.postOrder .pd args) s = .next ((s.replied .pd ⟨if clamped then .clamped else .ok, data⟩).setSlg { s.slg with
            queue := before ++ ⟨key, c⟩ :: after }))
      ∧ (key ≤ now → GrantLaw s →
        ∃ t, exec (.postOrder .pd args) s = .next t
          ∧ (t.port .pd).slot = some ⟨if clamped then .clamped else .ok, data⟩
          ∧ t.slg.active = some c ∧ t.slg.queue = s.slg.queue
          ∧ t.slg.powerTarget = (if s.slg.turbine = .available then c.power else 0)
          ∧ t.slg.heatTarget = (if s.slg.extraction = .available then c.heat else 0)
          ∧ t.slg.powerSetpoint = s.slg.powerSetpoint ∧ t.slg.heatSetpoint = s.slg.heatSetpoint
          ∧ (let asked := min 1000 (((t.slg.powerTarget + t.slg.heatTarget + s.slg.aux) * 1000 + pl.snom - 1) / pl.snom)
            t.slg.request = if s.slg.stale then min asked s.slg.request else asked)
          ∧ OrderActivated pl c s t ∧ GrantFollows s t
          ∧ t.slg.alloc = allocate t.slg ∧ GrantLaw t ∧ t.holds .pd .orderActive = true
          ∧ t.clock = s.clock ∧ t.mode = s.mode ∧ t.eau = s.eau ∧ t.fmu = s.fmu ∧ t.pst = s.pst))
    ∧ exec (.cancelOrders .pd tag) s = .next ((s.replied .pd
        ⟨.ok, be 1 (s.slg.queue.countP fun q => q.order.tag == tag.toNat)⟩).setSlg { s.slg with
          queue := s.slg.queue.filter fun q => q.order.tag ≠ tag.toNat })

/-- Every step keeps the allocation's sum at the steam figure, and, where the clock keeps its own law, the queue's: at most 16 orders in
strictly ascending key, each ahead of the current minute while the clock runs (R121, R122, R124, R127, R130). -/
def Obligations.LedgerLawsKept : Prop :=
  ∀ s t : State, step s = .next t →
    (AllocationLaw s.slg → AllocationLaw t.slg) ∧ (ClockLaw s.clock → QueueLaw s → QueueLaw t)

/-! ## The fiscal meters -/

/-- POST_ENERGY on PD, in RUNNING: the whole kilowatt-hours of each figure with the residue join the band in force and the grand total, modulo
10^12, the rest is the new residue; in UNSET the figures wait in the band's accumulators. The band is 0 without a TARIFF copy and while the
clock is STOPPED, else the entry of the day type's table for the slot (R141 to R144, R146). The layout of the reply's data, three bytes of
kilowatt-hours and two of residue for EXPORT and then for HEAT, and the band and the state alone while UNSET, is the model's choice (log
entry 12). -/
def Obligations.EnergyIsBookedInItsBand : Prop :=
  ∀ (exported heat : BitVec 32) (s : State), Ready .pd s → MeterLaw s.fmu →
    let place := some { band := s.band, period := s.clock.latched.period : LastAddition }
    let booked (w : Nat) (m n : EnergyMeter) : Prop :=
      let kwh := (m.residue + w) / 1000
      EnergyLaw n ∧ n.residue = (m.residue + w) % 1000 ∧ n.waiting = m.waiting ∧ n.last = place
        ∧ totalValue n.grand = (totalValue m.grand + kwh) % 10 ^ 12
        ∧ totalValue (n.bands.get s.band) = (totalValue (m.bands.get s.band) + kwh) % 10 ^ 12
        ∧ (∀ b, b ≤ 3 → b ≠ s.band → n.bands.get b = m.bands.get b)
        ∧ n.wrapped = (m.wrapped || decide (10 ^ 12 ≤ totalValue m.grand + kwh)
            || decide (10 ^ 12 ≤ totalValue (m.bands.get s.band) + kwh))
    let waits (w : Nat) (m : EnergyMeter) : EnergyMeter :=
      { m with waiting := m.waiting.set s.band (min 4294967295 (m.waiting.get s.band + w)), last := place }
    (s.band ≤ 3 → s.fmu.state = .running → ∃ t, exec (.postEnergy .pd exported heat) s = .next t
      ∧ (t.port .pd).slot = some ⟨.ok, be 1 s.band ++ be 1 1 ++ be 3 ((s.fmu.exported.residue + exported.toNat) / 1000)
          ++ be 2 t.fmu.exported.residue ++ be 3 ((s.fmu.heat.residue + heat.toNat) / 1000) ++ be 2 t.fmu.heat.residue⟩
      ∧ booked exported.toNat s.fmu.exported t.fmu.exported ∧ booked heat.toNat s.fmu.heat t.fmu.heat
      ∧ ((t.fmu.exported.wrapped = true ∧ s.fmu.exported.wrapped = false) ∨ (t.fmu.heat.wrapped = true ∧ s.fmu.heat.wrapped = false) →
          t.holds .pd .meterWrap = true)
      ∧ t.fmu.state = .running ∧ t.fmu.waste = s.fmu.waste ∧ t.fmu.pendingSat = s.fmu.pendingSat
      ∧ t.clock = s.clock ∧ t.mode = s.mode ∧ t.eau = s.eau ∧ t.feu = s.feu ∧ t.sta = s.sta ∧ t.slg = s.slg ∧ t.pst = s.pst)
    ∧ (s.fmu.state = .unset →
      exec (.postEnergy .pd exported heat) s = .next ((s.replied .pd ⟨.ok, be 1 s.band ++ be 1 0⟩).setFmu { s.fmu with
        exported := waits exported.toNat s.fmu.exported, heat := waits heat.toNat s.fmu.heat
        pendingSat := s.fmu.pendingSat || decide (4294967295 < s.fmu.exported.waiting.get s.band + exported.toNat)
          || decide (4294967295 < s.fmu.heat.waiting.get s.band + heat.toNat) }))
    ∧ (s.pst.workingTariff = none ∨ s.clock.latched.run = .stopped → s.band = 0)
    ∧ (∀ tariff, s.pst.workingTariff = some tariff → s.clock.latched.run = .running →
      let c := s.clock.latched
      let slot := c.time.hour * 2 + (if 30 ≤ c.time.minute then 1 else 0)
      s.band = (if c.time.day ∈ tariff.holidayDays.take tariff.holidayCount ∨ 5 ≤ c.weekday ∧ c.weekday ≤ 6
        then tariff.holiday else tariff.working).getD slot 0)

/-- RESTORE_METERS and FRESH_METERS on PD: refused STATE when RUNNING, BAD_DIGIT for the first total in argument order with a nibble above
9, its digits being the nibbles of the packed decimal, MISMATCH for a meter whose band totals do not sum to its grand total; accepted,
they answer OK, and the meters run from the totals given with the waiting accumulators folded in band by band, the residue carried from
each band to the next. A total that passes 10^12 wraps, sets its meter's WRAPPED flag, clear before the fold, and posts METER_WRAP. The
reply data are what was folded into each grand total, the new residues and PENDING_SAT (R144, R147 to R149), in the layout of log entry
12, the model's choice. -/
def Obligations.MetersLoadAndFold : Prop :=
  ∀ (args : MeterArgs) (s : State), Ready .pd s → MeterLaw s.fmu →
    let totals := totalsOf args
    let all (w : PerBand Nat) := w.band0 + w.band1 + w.band2 + w.band3
    let folded (bands : PerBand Digits) (grand : Digits) (m n : EnergyMeter) : Prop :=
      let w := m.waiting
      let c₁ := w.band0 % 1000
      let c₂ := (c₁ + w.band1) % 1000
      let c₃ := (c₂ + w.band2) % 1000
      let v₀ := totalValue bands.band0 + w.band0 / 1000
      let v₁ := totalValue bands.band1 + (c₁ + w.band1) / 1000
      let v₂ := totalValue bands.band2 + (c₂ + w.band2) / 1000
      let v₃ := totalValue bands.band3 + (c₃ + w.band3) / 1000
      let g := totalValue grand + all w / 1000
      EnergyLaw n ∧ n.waiting = ⟨0, 0, 0, 0⟩ ∧ n.residue = all w % 1000 ∧ n.residue = (c₃ + w.band3) % 1000 ∧ n.last = m.last
        ∧ totalValue n.grand = g % 10 ^ 12
        ∧ totalValue n.bands.band0 = v₀ % 10 ^ 12 ∧ totalValue n.bands.band1 = v₁ % 10 ^ 12
        ∧ totalValue n.bands.band2 = v₂ % 10 ^ 12 ∧ totalValue n.bands.band3 = v₃ % 10 ^ 12
        ∧ (n.wrapped = true ↔ 10 ^ 12 ≤ v₀ ∨ 10 ^ 12 ≤ v₁ ∨ 10 ^ 12 ≤ v₂ ∨ 10 ^ 12 ≤ v₃ ∨ 10 ^ 12 ≤ g)
    let loaded (bands heatBands : PerBand Digits) (grand heatGrand waste : Digits) (t : State) : Prop :=
      folded bands grand s.fmu.exported t.fmu.exported ∧ folded heatBands heatGrand s.fmu.heat t.fmu.heat
        ∧ t.fmu.state = .running ∧ t.fmu.pendingSat = s.fmu.pendingSat
        ∧ t.fmu.waste.waiting = 0 ∧ t.fmu.waste.last = s.fmu.waste.last ∧ TotalLaw t.fmu.waste.grand
        ∧ totalValue t.fmu.waste.grand = (totalValue waste + s.fmu.waste.waiting) % 10 ^ 12
        ∧ (t.fmu.waste.wrapped = true ↔ 10 ^ 12 ≤ totalValue waste + s.fmu.waste.waiting)
        ∧ (t.fmu.exported.wrapped = true ∨ t.fmu.heat.wrapped = true ∨ t.fmu.waste.wrapped = true → t.holds .pd .meterWrap = true)
        ∧ (t.port .pd).slot = some ⟨.ok, fieldsOf [(4, all s.fmu.exported.waiting / 1000), (4, all s.fmu.heat.waiting / 1000),
            (4, s.fmu.waste.waiting), (2, t.fmu.exported.residue), (2, t.fmu.heat.residue), (1, s.fmu.pendingSat.toNat)]⟩
        ∧ t.clock = s.clock ∧ t.mode = s.mode ∧ t.eau = s.eau ∧ t.feu = s.feu ∧ t.sta = s.sta ∧ t.slg = s.slg ∧ t.pst = s.pst
    let digits (b : BitVec 48) : Digits := (List.range 12).map fun k => b.toNat / 16 ^ k % 16
    (meterTotals args = [args.exported0, args.exported1, args.exported2, args.exported3, args.exportedGrand, args.heat0, args.heat1,
        args.heat2, args.heat3, args.heatGrand, args.waste].map digits
      ∧ totals.exported = ⟨digits args.exported0, digits args.exported1, digits args.exported2, digits args.exported3⟩
      ∧ totals.exportedGrand = digits args.exportedGrand
      ∧ totals.heat = ⟨digits args.heat0, digits args.heat1, digits args.heat2, digits args.heat3⟩
      ∧ totals.heatGrand = digits args.heatGrand ∧ totals.waste = digits args.waste)
    ∧ (∀ i, firstBadDigit (meterTotals args) 0 = some i ↔
        i < 11 ∧ (∃ x ∈ (meterTotals args).getD i [], 9 < x) ∧ ∀ j, j < i → ∀ x ∈ (meterTotals args).getD j [], x ≤ 9)
    ∧ (s.fmu.state = .running → exec (.restoreMeters .pd args) s = .next (s.replied .pd (.plain .state))
      ∧ exec (.freshMeters .pd) s = .next (s.replied .pd (.plain .state)))
    ∧ (∀ i, s.fmu.state = .unset → firstBadDigit (meterTotals args) 0 = some i →
      exec (.restoreMeters .pd args) s = .next (s.replied .pd ⟨.badDigit, be 1 i⟩))
    ∧ (s.fmu.state = .unset → (∀ d ∈ meterTotals args, ∀ x ∈ d, x ≤ 9) → bandSum totals.exported ≠ totals.exportedGrand →
      exec (.restoreMeters .pd args) s = .next (s.replied .pd ⟨.mismatch, be 1 0⟩))
    ∧ (s.fmu.state = .unset → (∀ d ∈ meterTotals args, ∀ x ∈ d, x ≤ 9) → bandSum totals.exported = totals.exportedGrand →
      bandSum totals.heat ≠ totals.heatGrand → exec (.restoreMeters .pd args) s = .next (s.replied .pd ⟨.mismatch, be 1 1⟩))
    ∧ (s.fmu.state = .unset → (∀ d ∈ meterTotals args, ∀ x ∈ d, x ≤ 9) → bandSum totals.exported = totals.exportedGrand →
      bandSum totals.heat = totals.heatGrand →
      ∃ t, exec (.restoreMeters .pd args) s = .next t
        ∧ loaded totals.exported totals.heat totals.exportedGrand totals.heatGrand totals.waste t)
    ∧ (s.fmu.state = .unset → ∃ t, exec (.freshMeters .pd) s = .next t
        ∧ loaded totalsZero.exported totalsZero.heat zeroTotal zeroTotal zeroTotal t)

/-- Every step keeps the meters' law: each total of twelve digits, the band totals summing to the grand total modulo 10^12, zeros while
UNSET, the accumulators empty while RUNNING (R139, R140, R143, R144, R146, R149). That sum is the total whose number is the sum of the four
band totals' numbers modulo 10^12 (R139, R147). -/
def Obligations.MeterLawKept : Prop :=
  (∀ s t : State, MeterLaw s.fmu → step s = .next t → MeterLaw t.fmu)
  ∧ ∀ b : PerBand Digits, (∀ d ∈ b.toList, TotalLaw d) → TotalLaw (bandSum b)
      ∧ totalValue (bandSum b)
        = (totalValue b.band0 + totalValue b.band1 + totalValue b.band2 + totalValue b.band3) % 10 ^ 12

/-! ## The permit store -/

/-- ENABLE_WRITE, PROGRAM_SECTION and LOCK_SECTION whole: each check in its order with its status, a refusal clearing the sender's latch and
nothing else, an acceptance starting the cycle and nothing else (R154, R155, R156, R160). -/
def Obligations.PermitCommandsCheckInOrder : Prop :=
  ∀ (p : Port) (number : BitVec 8) (image : List Byte) (s : State), Ready p s →
    let refused (r : Reply) := (s.replied p r).setPst { s.pst with latches := s.pst.latches.set p false }
    let started (a : StoreActivity) := (s.replied p (.plain .ok)).setPst { s.pst with activity := a }
    (exec (.enableWrite p) s = .next ((s.replied p (.plain .ok)).setPst { s.pst with latches := s.pst.latches.set p true }))
    ∧ exec (.programSection p number image) s = .next (match PermitSection.ofCode number with
      | none => refused (.plain .range)
      | some sec =>
        if sec.owner ≠ p then refused (.plain .notOwner)
        else if s.pst.latches.get p = false then refused (.plain .noLatch)
        else if (s.pst.stored sec).state = .locked then refused (.plain .locked)
        else if s.pst.activity ≠ .idle then refused (.plain .busy)
        else if sec = .plant ∧ (s.mode.mode = .firing ∨ s.mode.mode = .hold) then refused (.plain .state)
        else match imageFault sec image with
          | some offset => refused ⟨.badImage, be 1 sec.id ++ be 2 offset⟩
          | none => started (.programming sec p image))
    ∧ exec (.lockSection p number) s = .next (match PermitSection.ofCode number with
      | none => refused (.plain .range)
      | some sec =>
        if sec.owner ≠ p then refused (.plain .notOwner)
        else if s.pst.latches.get p = false then refused (.plain .noLatch)
        else if s.pst.activity ≠ .idle then refused (.plain .busy)
        else if (s.pst.stored sec).state ≠ .valid then refused (.plain .state)
        else started (.locking sec p))

/-- A completed cycle: the section holds the image and is VALID, or LOCKED; the latch of the port that began it is clear, PERMIT_DONE is
posted there, the store is IDLE. LIMITS continues the serial of a VALID section and waits with TARIFF as the pending copy; PLANT is held in
FIRING and HOLD and in force at once elsewhere: the ledger lowers the aux demand, forms the targets, the request and the allocation again,
the setpoints and the orders staying, and each channel in DWELL or STROKE takes its computed period under the new copy into its preload, an
AUTO ram below the cutoff having none. With no cycle of its kind in flight a completion does nothing (the model's choice, log entry 8) (R107
to R109, R111, R128, R130 to R135, R158 to R160). -/
def Obligations.CyclesComplete : Prop :=
  ∀ (p : Port) (image : List Byte) (s : State),
    let ended (pst : PermitStore) := (s.setPst { pst with activity := .idle, latches := s.pst.latches.set p false }).post .permitDone p
    let serial := (imageSerial s.pst.limits.image + 1) % 65536
    let final := if s.pst.limits.state = .valid then withSerial image serial else image
    (s.pst.activity = .programming .limits p image →
      exec .programmingCompletion s = .next (ended { s.pst with
        limits := { s.pst.limits with state := .valid, image := final }, pendingLimits := some (decodeLimits final) }))
    ∧ (s.pst.activity = .programming .tariff p image →
      exec .programmingCompletion s = .next (ended { s.pst with
        tariff := { s.pst.tariff with state := .valid, image := image }, pendingTariff := some (decodeTariff image) }))
    ∧ (s.pst.activity = .programming .plant p image → s.mode.mode = .firing ∨ s.mode.mode = .hold →
      exec .programmingCompletion s = .next (ended { s.pst with
        plant := { s.pst.plant with state := .valid, image := image }, heldPlant := some (decodePlant image) }))
    ∧ (s.pst.activity = .programming .plant p image → s.mode.mode ≠ .firing → s.mode.mode ≠ .hold → GrantLaw s →
      let pl := decodePlant image
      let figure (ch : StrokeChannel) := if isRam ch then laneGrant s.sta ch else pl.grateMin
      let period (ch : StrokeChannel) (r : StrokeRecord) := max ((timingOf pl ch).ls + 10)
        (if r.source = .fixed then r.fixedPeriod else min 65535 (((timingOf pl ch).pnom * 1000 + figure ch / 2) / figure ch))
      ∃ t, exec .programmingCompletion s = .next t
        ∧ t.pst = { s.pst with
            plant := { s.pst.plant with state := .valid, image := image }, workingPlant := some (decodePlant image)
            activity := .idle, latches := s.pst.latches.set p false }
        ∧ t.holds p .permitDone = true ∧ t.slg.aux = min s.slg.aux (decodePlant image).auxMax
        ∧ t.slg.queue = s.slg.queue ∧ t.slg.active = s.slg.active ∧ t.slg.alloc = allocate t.slg ∧ GrantLaw t ∧ t.feu.grant = 0
        ∧ PlantReachesLedger pl s t ∧ t.feu = { s.feu with request := t.slg.request }
        ∧ t.sta = { s.sta with channels := t.sta.channels }
        ∧ (∀ ch, let r := s.sta.channels.get ch
          t.sta.channels.get ch =
            if (r.state = .dwell ∨ r.state = .stroke) ∧ ¬ (isRam ch = true ∧ r.source = .auto ∧ laneGrant s.sta ch < 50)
            then { r with preload := some (period ch r) } else r)
        ∧ t.clock = s.clock ∧ t.mode = s.mode ∧ t.eau = s.eau ∧ t.fmu = s.fmu)
    ∧ (∀ sec, s.pst.activity = .locking sec p →
      exec .lockCompletion s = .next (ended (match sec with
        | .limits => { s.pst with limits := { s.pst.limits with state := .locked, lockBit := true } }
        | .plant => { s.pst with plant := { s.pst.plant with state := .locked, lockBit := true } }
        | .tariff => { s.pst with tariff := { s.pst.tariff with state := .locked, lockBit := true } })))
    ∧ ((∀ sec q img, s.pst.activity ≠ .programming sec q img) → exec .programmingCompletion s = .next s)
    ∧ ((∀ sec q, s.pst.activity ≠ .locking sec q) → exec .lockCompletion s = .next s)

/-- An image that passes the checks is exactly its values: reading it and writing it back gives the same bytes; and the serial that the
store writes changes the serial field alone and leaves an image that passes. What the checks report: 0xFFFF for a wrong length, else 0xFFFE
for a wrong CRC, else the offset of the first field, in byte order, out of the range that 10.1 gives it, Tmax at least Tmin + 100 and each
holiday above the one before it; nothing where every field is in its range (R156, R158). -/
def Obligations.AcceptedImageIsItsValues : Prop :=
  (∀ (image : List Byte) (serial : Nat), serial < 65536 →
    (imageFault .limits image = none → encodeLimits (decodeLimits image) = image
      ∧ imageFault .limits (withSerial image serial) = none
      ∧ decodeLimits (withSerial image serial) = { decodeLimits image with serial := serial })
    ∧ (imageFault .plant image = none → encodePlant (decodePlant image) = image)
    ∧ (imageFault .tariff image = none → encodeTariff (decodeTariff image) = image))
  ∧ ∀ image : List Byte,
    let value (offset width : Nat) := field image offset width
    let reported (length : Nat) (fields : List (Nat × Nat × Nat × Nat)) : Option Nat :=
      if image.length ≠ length then some 0xFFFF
      else if image ≠ withCrc (image.take (length - 2)) then some 0xFFFE
      else (fields.find? fun f => decide (value f.1 f.2.1 < f.2.2.1 ∨ f.2.2.2 < value f.1 f.2.1)).map Prod.fst
    let channel (c : Nat) : List (Nat × Nat × Nat × Nat) :=
      [(27 + 10 * c, 2, 1, 65535), (29 + 10 * c, 2, 1, 65535), (31 + 10 * c, 1, 0, 2), (32 + 10 * c, 1, 0, 3), (33 + 10 * c, 2, 0, 2000),
       (35 + 10 * c, 2, 0, 1000)]
    imageFault .limits image = reported 89
        ([(0, 2, 0, 2000), (2, 2, 1000, 2000), (4, 2, 30, 1800), (6, 2, 1, 1800), (8, 1, 1, 48), (9, 1, 1, 60), (10, 2, 500, 950),
          (12, 2, 300, 1000), (14, 1, 1, 50), (15, 2, 10, 600), (17, 2, 700, 1100), (19, 1, 1, 60), (20, 2, value 17 2 + 100, 1600),
          (22, 2, 50, 400), (24, 1, 2, 30), (25, 2, 0, 65535)] ++ (List.range 6).flatMap channel)
    ∧ imageFault .plant image = reported 30
        [(0, 2, 100, 65535), (2, 2, 0, 65535), (4, 2, 0, 65535), (6, 2, 0, 65535), (8, 1, 1, 100), (9, 2, 100, 65535), (11, 2, 50, 3000),
         (13, 2, 100, 65535), (15, 2, 50, 3000), (17, 2, 100, 65535), (19, 2, 50, 3000), (21, 2, 100, 65535), (23, 2, 50, 3000),
         (25, 2, 100, 1000), (27, 1, 2, 60)]
    ∧ imageFault .tariff image = reported 131
        ((List.range 96).map (fun k => (k, 1, 0, 3)) ++ [(96, 1, 0, 16)]
          ++ (List.range (value 96 1 - 1)).map fun k => (99 + 2 * k, 2, value (97 + 2 * k) 2 + 1, 65535))

/-- Every step keeps the store's law, and a LOCKED section never changes: neither a command nor a reset alters its image, its lock or its
state (R153, R155, R160, R161). -/
def Obligations.PermitLawKeptAndLockedStays : Prop :=
  ∀ s t : State, PermitLaw s.pst → step s = .next t →
    PermitLaw t.pst ∧ ∀ sec, (s.pst.stored sec).state = .locked → t.pst.stored sec = s.pst.stored sec

/-! ## The resets -/

/-- POWER_ON, the fall of RSTN and its rise, block by block: power-on takes every block to its start and loads the store; the pin reset
keeps the running clock, the accounts, the history and the meters, trips the plant from every mode but COLD, and recomputes the envelope
from the accounts kept; both leave RESET_SEEN alone in each notice set. A second fall, and a rise of a level already high, do nothing (the
model's choice, log entry 8); POWER_ON keeps the level of RSTN and the level of each CS, and a transaction then under way with RSTN high
is ignored to its end (the model's choice, log entry 11); a CORRUPT section stays CORRUPT at a load (DEDUCED: log entry 15) (R16, R17,
R36, R37, R46, R52, R73, R74, R92, R115, R138, R151, R152, R161, R184). -/
def Obligations.ResetsTakeEachBlock : Prop :=
  ∀ s : State,
    (∃ t, exec .powerOn s = .next t
      ∧ t.clock = Clock.reset ∧ t.mode = ModeCtl.reset ∧ t.eau = Emission.reset ∧ t.sta = StrokeArray.reset ∧ t.slg = Ledger.reset
      ∧ t.fmu = Meters.reset ∧ (PermitLaw s.pst → t.feu = Envelope.reset) ∧ FormedLaw t ∧ StoreLoaded s.pst t.pst ∧ t.rstnLow = s.rstnLow
      ∧ ∀ p, t.port p = { PortCtl.reset with
          csLow := (s.port p).csLow, ignoring := (s.port p).csLow && !s.rstnLow })
    ∧ (s.rstnLow = true → exec .pinReset s = .next s)
    ∧ (s.rstnLow = false → ∃ t, exec .pinReset s = .next t
      ∧ t.clock = { s.clock with leads := ⟨0, 0, 0⟩ }
      ∧ t.mode = { ModeCtl.reset with
          mode := if s.mode.mode = .cold then .cold else .tripped
          trip := if s.mode.mode = .cold then none
            else if s.mode.mode = .tripped then s.mode.trip.map fun r => { r with count := min 255 (r.count + 1) }
            else some { cause := .reset, day := s.clock.latched.time.day
                        secondOfDay := secondOfDay s.clock.latched.time, count := 0 } }
      ∧ t.eau = { s.eau with marker := none, cleaning := .unavailable, staleInFiring := false }
      ∧ t.sta = StrokeArray.reset ∧ t.slg = Ledger.reset ∧ t.fmu = s.fmu
      ∧ t.feu.request = 0 ∧ t.feu.boilerLimit = 1000 ∧ t.feu.target = 0 ∧ t.feu.grant = 0 ∧ t.feu.limiting = false
      ∧ FormedLaw t ∧ t.feu.effectiveCap = min 1000 t.feu.computedCap
      ∧ StoreLoaded s.pst t.pst ∧ t.rstnLow = true ∧ (∀ p, t.port p = { PortCtl.reset with csLow := (s.port p).csLow }))
    ∧ (s.rstnLow = false → exec .pinResetRelease s = .next s)
    ∧ (s.rstnLow = true → ∃ t, exec .pinResetRelease s = .next t ∧ t = { s with rstnLow := false, ports := t.ports }
      ∧ ∀ p, t.port p = { s.port p with ignoring := (s.port p).csLow })
end

