-- ==== Sys2Proof/Laws/State.lean ====
section
/-! SUPPORT. The blocks of State after each replacement, one lemma a field a setter, each true by `rfl`; reading one member of a family
after replacing one; and two states are equal when every block of them is. -/

namespace Sys2Proof.Machine

/-! ## setClock -/

@[simp] theorem State.setClock_clock (x : Clock) (s : State) : (s.setClock x).clock = x := rfl
@[simp] theorem State.setClock_mode (x : Clock) (s : State) : (s.setClock x).mode = s.mode := rfl
@[simp] theorem State.setClock_eau (x : Clock) (s : State) : (s.setClock x).eau = s.eau := rfl
@[simp] theorem State.setClock_feu (x : Clock) (s : State) : (s.setClock x).feu = s.feu := rfl
@[simp] theorem State.setClock_sta (x : Clock) (s : State) : (s.setClock x).sta = s.sta := rfl
@[simp] theorem State.setClock_slg (x : Clock) (s : State) : (s.setClock x).slg = s.slg := rfl
@[simp] theorem State.setClock_fmu (x : Clock) (s : State) : (s.setClock x).fmu = s.fmu := rfl
@[simp] theorem State.setClock_pst (x : Clock) (s : State) : (s.setClock x).pst = s.pst := rfl
@[simp] theorem State.setClock_ports (x : Clock) (s : State) : (s.setClock x).ports = s.ports := rfl
@[simp] theorem State.setClock_rstnLow (x : Clock) (s : State) : (s.setClock x).rstnLow = s.rstnLow := rfl
@[simp] theorem State.setClock_freeIndex (x : Clock) (s : State) : (s.setClock x).freeIndex = s.freeIndex := rfl
@[simp] theorem State.setClock_pending (x : Clock) (s : State) : (s.setClock x).pending = s.pending := rfl
@[simp] theorem State.setClock_setClock (x y : Clock) (s : State) : (s.setClock x).setClock y = s.setClock y := rfl
@[simp] theorem State.setClock_self (s : State) : s.setClock s.clock = s := rfl
@[simp] theorem State.setClock_port (x : Clock) (p : Port) (s : State) : (s.setClock x).port p = s.port p := rfl

/-! ## setMode -/

@[simp] theorem State.setMode_clock (x : ModeCtl) (s : State) : (s.setMode x).clock = s.clock := rfl
@[simp] theorem State.setMode_mode (x : ModeCtl) (s : State) : (s.setMode x).mode = x := rfl
@[simp] theorem State.setMode_eau (x : ModeCtl) (s : State) : (s.setMode x).eau = s.eau := rfl
@[simp] theorem State.setMode_feu (x : ModeCtl) (s : State) : (s.setMode x).feu = s.feu := rfl
@[simp] theorem State.setMode_sta (x : ModeCtl) (s : State) : (s.setMode x).sta = s.sta := rfl
@[simp] theorem State.setMode_slg (x : ModeCtl) (s : State) : (s.setMode x).slg = s.slg := rfl
@[simp] theorem State.setMode_fmu (x : ModeCtl) (s : State) : (s.setMode x).fmu = s.fmu := rfl
@[simp] theorem State.setMode_pst (x : ModeCtl) (s : State) : (s.setMode x).pst = s.pst := rfl
@[simp] theorem State.setMode_ports (x : ModeCtl) (s : State) : (s.setMode x).ports = s.ports := rfl
@[simp] theorem State.setMode_rstnLow (x : ModeCtl) (s : State) : (s.setMode x).rstnLow = s.rstnLow := rfl
@[simp] theorem State.setMode_freeIndex (x : ModeCtl) (s : State) : (s.setMode x).freeIndex = s.freeIndex := rfl
@[simp] theorem State.setMode_pending (x : ModeCtl) (s : State) : (s.setMode x).pending = s.pending := rfl
@[simp] theorem State.setMode_setMode (x y : ModeCtl) (s : State) : (s.setMode x).setMode y = s.setMode y := rfl
@[simp] theorem State.setMode_self (s : State) : s.setMode s.mode = s := rfl
@[simp] theorem State.setMode_port (x : ModeCtl) (p : Port) (s : State) : (s.setMode x).port p = s.port p := rfl

/-! ## setEau -/

@[simp] theorem State.setEau_clock (x : Emission) (s : State) : (s.setEau x).clock = s.clock := rfl
@[simp] theorem State.setEau_mode (x : Emission) (s : State) : (s.setEau x).mode = s.mode := rfl
@[simp] theorem State.setEau_eau (x : Emission) (s : State) : (s.setEau x).eau = x := rfl
@[simp] theorem State.setEau_feu (x : Emission) (s : State) : (s.setEau x).feu = s.feu := rfl
@[simp] theorem State.setEau_sta (x : Emission) (s : State) : (s.setEau x).sta = s.sta := rfl
@[simp] theorem State.setEau_slg (x : Emission) (s : State) : (s.setEau x).slg = s.slg := rfl
@[simp] theorem State.setEau_fmu (x : Emission) (s : State) : (s.setEau x).fmu = s.fmu := rfl
@[simp] theorem State.setEau_pst (x : Emission) (s : State) : (s.setEau x).pst = s.pst := rfl
@[simp] theorem State.setEau_ports (x : Emission) (s : State) : (s.setEau x).ports = s.ports := rfl
@[simp] theorem State.setEau_rstnLow (x : Emission) (s : State) : (s.setEau x).rstnLow = s.rstnLow := rfl
@[simp] theorem State.setEau_freeIndex (x : Emission) (s : State) : (s.setEau x).freeIndex = s.freeIndex := rfl
@[simp] theorem State.setEau_pending (x : Emission) (s : State) : (s.setEau x).pending = s.pending := rfl
@[simp] theorem State.setEau_setEau (x y : Emission) (s : State) : (s.setEau x).setEau y = s.setEau y := rfl
@[simp] theorem State.setEau_self (s : State) : s.setEau s.eau = s := rfl
@[simp] theorem State.setEau_port (x : Emission) (p : Port) (s : State) : (s.setEau x).port p = s.port p := rfl

/-! ## setFeu -/

@[simp] theorem State.setFeu_clock (x : Envelope) (s : State) : (s.setFeu x).clock = s.clock := rfl
@[simp] theorem State.setFeu_mode (x : Envelope) (s : State) : (s.setFeu x).mode = s.mode := rfl
@[simp] theorem State.setFeu_eau (x : Envelope) (s : State) : (s.setFeu x).eau = s.eau := rfl
@[simp] theorem State.setFeu_feu (x : Envelope) (s : State) : (s.setFeu x).feu = x := rfl
@[simp] theorem State.setFeu_sta (x : Envelope) (s : State) : (s.setFeu x).sta = s.sta := rfl
@[simp] theorem State.setFeu_slg (x : Envelope) (s : State) : (s.setFeu x).slg = s.slg := rfl
@[simp] theorem State.setFeu_fmu (x : Envelope) (s : State) : (s.setFeu x).fmu = s.fmu := rfl
@[simp] theorem State.setFeu_pst (x : Envelope) (s : State) : (s.setFeu x).pst = s.pst := rfl
@[simp] theorem State.setFeu_ports (x : Envelope) (s : State) : (s.setFeu x).ports = s.ports := rfl
@[simp] theorem State.setFeu_rstnLow (x : Envelope) (s : State) : (s.setFeu x).rstnLow = s.rstnLow := rfl
@[simp] theorem State.setFeu_freeIndex (x : Envelope) (s : State) : (s.setFeu x).freeIndex = s.freeIndex := rfl
@[simp] theorem State.setFeu_pending (x : Envelope) (s : State) : (s.setFeu x).pending = s.pending := rfl
@[simp] theorem State.setFeu_setFeu (x y : Envelope) (s : State) : (s.setFeu x).setFeu y = s.setFeu y := rfl
@[simp] theorem State.setFeu_self (s : State) : s.setFeu s.feu = s := rfl
@[simp] theorem State.setFeu_port (x : Envelope) (p : Port) (s : State) : (s.setFeu x).port p = s.port p := rfl

/-! ## setSta -/

@[simp] theorem State.setSta_clock (x : StrokeArray) (s : State) : (s.setSta x).clock = s.clock := rfl
@[simp] theorem State.setSta_mode (x : StrokeArray) (s : State) : (s.setSta x).mode = s.mode := rfl
@[simp] theorem State.setSta_eau (x : StrokeArray) (s : State) : (s.setSta x).eau = s.eau := rfl
@[simp] theorem State.setSta_feu (x : StrokeArray) (s : State) : (s.setSta x).feu = s.feu := rfl
@[simp] theorem State.setSta_sta (x : StrokeArray) (s : State) : (s.setSta x).sta = x := rfl
@[simp] theorem State.setSta_slg (x : StrokeArray) (s : State) : (s.setSta x).slg = s.slg := rfl
@[simp] theorem State.setSta_fmu (x : StrokeArray) (s : State) : (s.setSta x).fmu = s.fmu := rfl
@[simp] theorem State.setSta_pst (x : StrokeArray) (s : State) : (s.setSta x).pst = s.pst := rfl
@[simp] theorem State.setSta_ports (x : StrokeArray) (s : State) : (s.setSta x).ports = s.ports := rfl
@[simp] theorem State.setSta_rstnLow (x : StrokeArray) (s : State) : (s.setSta x).rstnLow = s.rstnLow := rfl
@[simp] theorem State.setSta_freeIndex (x : StrokeArray) (s : State) : (s.setSta x).freeIndex = s.freeIndex := rfl
@[simp] theorem State.setSta_pending (x : StrokeArray) (s : State) : (s.setSta x).pending = s.pending := rfl
@[simp] theorem State.setSta_setSta (x y : StrokeArray) (s : State) : (s.setSta x).setSta y = s.setSta y := rfl
@[simp] theorem State.setSta_self (s : State) : s.setSta s.sta = s := rfl
@[simp] theorem State.setSta_port (x : StrokeArray) (p : Port) (s : State) : (s.setSta x).port p = s.port p := rfl

/-! ## setSlg -/

@[simp] theorem State.setSlg_clock (x : Ledger) (s : State) : (s.setSlg x).clock = s.clock := rfl
@[simp] theorem State.setSlg_mode (x : Ledger) (s : State) : (s.setSlg x).mode = s.mode := rfl
@[simp] theorem State.setSlg_eau (x : Ledger) (s : State) : (s.setSlg x).eau = s.eau := rfl
@[simp] theorem State.setSlg_feu (x : Ledger) (s : State) : (s.setSlg x).feu = s.feu := rfl
@[simp] theorem State.setSlg_sta (x : Ledger) (s : State) : (s.setSlg x).sta = s.sta := rfl
@[simp] theorem State.setSlg_slg (x : Ledger) (s : State) : (s.setSlg x).slg = x := rfl
@[simp] theorem State.setSlg_fmu (x : Ledger) (s : State) : (s.setSlg x).fmu = s.fmu := rfl
@[simp] theorem State.setSlg_pst (x : Ledger) (s : State) : (s.setSlg x).pst = s.pst := rfl
@[simp] theorem State.setSlg_ports (x : Ledger) (s : State) : (s.setSlg x).ports = s.ports := rfl
@[simp] theorem State.setSlg_rstnLow (x : Ledger) (s : State) : (s.setSlg x).rstnLow = s.rstnLow := rfl
@[simp] theorem State.setSlg_freeIndex (x : Ledger) (s : State) : (s.setSlg x).freeIndex = s.freeIndex := rfl
@[simp] theorem State.setSlg_pending (x : Ledger) (s : State) : (s.setSlg x).pending = s.pending := rfl
@[simp] theorem State.setSlg_setSlg (x y : Ledger) (s : State) : (s.setSlg x).setSlg y = s.setSlg y := rfl
@[simp] theorem State.setSlg_self (s : State) : s.setSlg s.slg = s := rfl
@[simp] theorem State.setSlg_port (x : Ledger) (p : Port) (s : State) : (s.setSlg x).port p = s.port p := rfl

/-! ## setFmu -/

@[simp] theorem State.setFmu_clock (x : Meters) (s : State) : (s.setFmu x).clock = s.clock := rfl
@[simp] theorem State.setFmu_mode (x : Meters) (s : State) : (s.setFmu x).mode = s.mode := rfl
@[simp] theorem State.setFmu_eau (x : Meters) (s : State) : (s.setFmu x).eau = s.eau := rfl
@[simp] theorem State.setFmu_feu (x : Meters) (s : State) : (s.setFmu x).feu = s.feu := rfl
@[simp] theorem State.setFmu_sta (x : Meters) (s : State) : (s.setFmu x).sta = s.sta := rfl
@[simp] theorem State.setFmu_slg (x : Meters) (s : State) : (s.setFmu x).slg = s.slg := rfl
@[simp] theorem State.setFmu_fmu (x : Meters) (s : State) : (s.setFmu x).fmu = x := rfl
@[simp] theorem State.setFmu_pst (x : Meters) (s : State) : (s.setFmu x).pst = s.pst := rfl
@[simp] theorem State.setFmu_ports (x : Meters) (s : State) : (s.setFmu x).ports = s.ports := rfl
@[simp] theorem State.setFmu_rstnLow (x : Meters) (s : State) : (s.setFmu x).rstnLow = s.rstnLow := rfl
@[simp] theorem State.setFmu_freeIndex (x : Meters) (s : State) : (s.setFmu x).freeIndex = s.freeIndex := rfl
@[simp] theorem State.setFmu_pending (x : Meters) (s : State) : (s.setFmu x).pending = s.pending := rfl
@[simp] theorem State.setFmu_setFmu (x y : Meters) (s : State) : (s.setFmu x).setFmu y = s.setFmu y := rfl
@[simp] theorem State.setFmu_self (s : State) : s.setFmu s.fmu = s := rfl
@[simp] theorem State.setFmu_port (x : Meters) (p : Port) (s : State) : (s.setFmu x).port p = s.port p := rfl

/-! ## setPst -/

@[simp] theorem State.setPst_clock (x : PermitStore) (s : State) : (s.setPst x).clock = s.clock := rfl
@[simp] theorem State.setPst_mode (x : PermitStore) (s : State) : (s.setPst x).mode = s.mode := rfl
@[simp] theorem State.setPst_eau (x : PermitStore) (s : State) : (s.setPst x).eau = s.eau := rfl
@[simp] theorem State.setPst_feu (x : PermitStore) (s : State) : (s.setPst x).feu = s.feu := rfl
@[simp] theorem State.setPst_sta (x : PermitStore) (s : State) : (s.setPst x).sta = s.sta := rfl
@[simp] theorem State.setPst_slg (x : PermitStore) (s : State) : (s.setPst x).slg = s.slg := rfl
@[simp] theorem State.setPst_fmu (x : PermitStore) (s : State) : (s.setPst x).fmu = s.fmu := rfl
@[simp] theorem State.setPst_pst (x : PermitStore) (s : State) : (s.setPst x).pst = x := rfl
@[simp] theorem State.setPst_ports (x : PermitStore) (s : State) : (s.setPst x).ports = s.ports := rfl
@[simp] theorem State.setPst_rstnLow (x : PermitStore) (s : State) : (s.setPst x).rstnLow = s.rstnLow := rfl
@[simp] theorem State.setPst_freeIndex (x : PermitStore) (s : State) : (s.setPst x).freeIndex = s.freeIndex := rfl
@[simp] theorem State.setPst_pending (x : PermitStore) (s : State) : (s.setPst x).pending = s.pending := rfl
@[simp] theorem State.setPst_setPst (x y : PermitStore) (s : State) : (s.setPst x).setPst y = s.setPst y := rfl
@[simp] theorem State.setPst_self (s : State) : s.setPst s.pst = s := rfl
@[simp] theorem State.setPst_port (x : PermitStore) (p : Port) (s : State) : (s.setPst x).port p = s.port p := rfl

/-! ## setPorts -/

@[simp] theorem State.setPorts_clock (x : PerPort PortCtl) (s : State) : (s.setPorts x).clock = s.clock := rfl
@[simp] theorem State.setPorts_mode (x : PerPort PortCtl) (s : State) : (s.setPorts x).mode = s.mode := rfl
@[simp] theorem State.setPorts_eau (x : PerPort PortCtl) (s : State) : (s.setPorts x).eau = s.eau := rfl
@[simp] theorem State.setPorts_feu (x : PerPort PortCtl) (s : State) : (s.setPorts x).feu = s.feu := rfl
@[simp] theorem State.setPorts_sta (x : PerPort PortCtl) (s : State) : (s.setPorts x).sta = s.sta := rfl
@[simp] theorem State.setPorts_slg (x : PerPort PortCtl) (s : State) : (s.setPorts x).slg = s.slg := rfl
@[simp] theorem State.setPorts_fmu (x : PerPort PortCtl) (s : State) : (s.setPorts x).fmu = s.fmu := rfl
@[simp] theorem State.setPorts_pst (x : PerPort PortCtl) (s : State) : (s.setPorts x).pst = s.pst := rfl
@[simp] theorem State.setPorts_ports (x : PerPort PortCtl) (s : State) : (s.setPorts x).ports = x := rfl
@[simp] theorem State.setPorts_rstnLow (x : PerPort PortCtl) (s : State) : (s.setPorts x).rstnLow = s.rstnLow := rfl
@[simp] theorem State.setPorts_freeIndex (x : PerPort PortCtl) (s : State) : (s.setPorts x).freeIndex = s.freeIndex := rfl
@[simp] theorem State.setPorts_pending (x : PerPort PortCtl) (s : State) : (s.setPorts x).pending = s.pending := rfl
@[simp] theorem State.setPorts_setPorts (x y : PerPort PortCtl) (s : State) : (s.setPorts x).setPorts y = s.setPorts y := rfl
@[simp] theorem State.setPorts_self (s : State) : s.setPorts s.ports = s := rfl

/-! ## setPort -/

@[simp] theorem State.setPort_clock (p : Port) (c : PortCtl) (s : State) : (s.setPort p c).clock = s.clock := rfl
@[simp] theorem State.setPort_mode (p : Port) (c : PortCtl) (s : State) : (s.setPort p c).mode = s.mode := rfl
@[simp] theorem State.setPort_eau (p : Port) (c : PortCtl) (s : State) : (s.setPort p c).eau = s.eau := rfl
@[simp] theorem State.setPort_feu (p : Port) (c : PortCtl) (s : State) : (s.setPort p c).feu = s.feu := rfl
@[simp] theorem State.setPort_sta (p : Port) (c : PortCtl) (s : State) : (s.setPort p c).sta = s.sta := rfl
@[simp] theorem State.setPort_slg (p : Port) (c : PortCtl) (s : State) : (s.setPort p c).slg = s.slg := rfl
@[simp] theorem State.setPort_fmu (p : Port) (c : PortCtl) (s : State) : (s.setPort p c).fmu = s.fmu := rfl
@[simp] theorem State.setPort_pst (p : Port) (c : PortCtl) (s : State) : (s.setPort p c).pst = s.pst := rfl
@[simp] theorem State.setPort_rstnLow (p : Port) (c : PortCtl) (s : State) : (s.setPort p c).rstnLow = s.rstnLow := rfl
@[simp] theorem State.setPort_freeIndex (p : Port) (c : PortCtl) (s : State) : (s.setPort p c).freeIndex = s.freeIndex := rfl
@[simp] theorem State.setPort_pending (p : Port) (c : PortCtl) (s : State) : (s.setPort p c).pending = s.pending := rfl

/-! ## Families -/

@[simp] theorem PerPort.get_set_same {α : Type} (x : PerPort α) (p : Port) (v : α) : (x.set p v).get p = v := by cases p <;> rfl

theorem PerPort.get_set_ne {α : Type} (x : PerPort α) {p q : Port} (v : α) (h : q ≠ p) : (x.set p v).get q = x.get q := by
  cases p <;> cases q <;> first | rfl | exact absurd rfl h

@[simp] theorem PerPort.set_set {α : Type} (x : PerPort α) (p : Port) (v w : α) : (x.set p v).set p w = x.set p w := by
  cases p <;> rfl

@[simp] theorem PerPort.set_get {α : Type} (x : PerPort α) (p : Port) : x.set p (x.get p) = x := by cases p <;> rfl

@[simp] theorem PerPollutant.get_set_same {α : Type} (x : PerPollutant α) (i : Pollutant) (v : α) : (x.set i v).get i = v := by
  cases i <;> rfl

theorem PerPollutant.get_set_ne {α : Type} (x : PerPollutant α) {i j : Pollutant} (v : α) (h : j ≠ i) :
    (x.set i v).get j = x.get j := by
  cases i <;> cases j <;> first | rfl | exact absurd rfl h

@[simp] theorem PerStroke.get_set_same {α : Type} (x : PerStroke α) (i : StrokeChannel) (v : α) : (x.set i v).get i = v := by
  cases i <;> rfl

theorem PerStroke.get_set_ne {α : Type} (x : PerStroke α) {i j : StrokeChannel} (v : α) (h : j ≠ i) :
    (x.set i v).get j = x.get j := by
  cases i <;> cases j <;> first | rfl | exact absurd rfl h

@[simp] theorem PerStroke.get_map {α β : Type} (f : StrokeChannel → α → β) (x : PerStroke α) (i : StrokeChannel) :
    (x.map f).get i = f i (x.get i) := by
  cases i <;> rfl

@[simp] theorem PerPort.get_map {α β : Type} (f : Port → α → β) (x : PerPort α) (p : Port) : (x.map f).get p = f p (x.get p) := by
  cases p <;> rfl

/-! ## One port of the state -/

@[simp] theorem State.port_setPort_same (p : Port) (c : PortCtl) (s : State) : (s.setPort p c).port p = c :=
  PerPort.get_set_same _ _ _

theorem State.port_setPort_ne {p q : Port} (c : PortCtl) (s : State) (h : q ≠ p) : (s.setPort p c).port q = s.port q :=
  PerPort.get_set_ne _ _ h

@[simp] theorem State.setPort_setPort (p : Port) (c d : PortCtl) (s : State) : (s.setPort p c).setPort p d = s.setPort p d := by
  cases p <;> rfl

@[simp] theorem State.setPort_port (p : Port) (s : State) : s.setPort p (s.port p) = s := by cases p <;> rfl

/-- Two states are equal when every block of them is, the ports taken one by one. -/
theorem State.eq_of_blocks {s t : State} (clock : s.clock = t.clock) (mode : s.mode = t.mode) (eau : s.eau = t.eau)
    (feu : s.feu = t.feu) (sta : s.sta = t.sta) (slg : s.slg = t.slg) (fmu : s.fmu = t.fmu) (pst : s.pst = t.pst)
    (port : ∀ p, s.port p = t.port p) (rstn : s.rstnLow = t.rstnLow) (free : s.freeIndex = t.freeIndex)
    (queue : s.pending = t.pending) : s = t := by
  obtain ⟨_, _, _, _, _, _, _, _, ⟨_, _, _⟩, _, _, _⟩ := s
  obtain ⟨_, _, _, _, _, _, _, _, ⟨_, _, _⟩, _, _, _⟩ := t
  have hf : _ = _ := port .pf
  have hg : _ = _ := port .pg
  have hd : _ = _ := port .pd
  simp only [State.port, PerPort.get] at hf hg hd
  simp_all

/-- What a draw gives and leaves. -/
@[simp] theorem State.draw_spec (s : State) :
    s.draw.1 = s.freeIndex ∧ s.draw.2.freeIndex = s.freeIndex + 1 ∧ s.draw.2.clock = s.clock ∧ s.draw.2.mode = s.mode
      ∧ s.draw.2.eau = s.eau ∧ s.draw.2.feu = s.feu ∧ s.draw.2.sta = s.sta ∧ s.draw.2.slg = s.slg ∧ s.draw.2.fmu = s.fmu
      ∧ s.draw.2.pst = s.pst ∧ s.draw.2.ports = s.ports ∧ s.draw.2.rstnLow = s.rstnLow ∧ s.draw.2.pending = s.pending :=
  ⟨rfl, rfl, rfl, rfl, rfl, rfl, rfl, rfl, rfl, rfl, rfl, rfl, rfl⟩

end Sys2Proof.Machine
end

