-- ==== Sys2Proof/Laws/Frames.lean ====
section
/-! SUPPORT. What each shared operation of the machine leaves alone: one lemma an operation, all of its unchanged blocks at once. A block
that an operation's lemma does not name is one the operation may write. -/

namespace Sys2Proof.Machine

@[simp] theorem State.post_frame (n : Notice) (p : Port) (s : State) :
    (s.post n p).clock = s.clock ∧ (s.post n p).mode = s.mode ∧ (s.post n p).eau = s.eau ∧ (s.post n p).feu = s.feu
      ∧ (s.post n p).sta = s.sta ∧ (s.post n p).slg = s.slg ∧ (s.post n p).fmu = s.fmu ∧ (s.post n p).pst = s.pst
      ∧ (s.post n p).rstnLow = s.rstnLow ∧ (s.post n p).freeIndex = s.freeIndex ∧ (s.post n p).pending = s.pending := by
  simp [State.post]

@[simp] theorem State.postAll_frame (n : Notice) (s : State) :
    (s.postAll n).clock = s.clock ∧ (s.postAll n).mode = s.mode ∧ (s.postAll n).eau = s.eau ∧ (s.postAll n).feu = s.feu
      ∧ (s.postAll n).sta = s.sta ∧ (s.postAll n).slg = s.slg ∧ (s.postAll n).fmu = s.fmu ∧ (s.postAll n).pst = s.pst
      ∧ (s.postAll n).rstnLow = s.rstnLow ∧ (s.postAll n).freeIndex = s.freeIndex ∧ (s.postAll n).pending = s.pending := by
  simp [State.postAll]

@[simp] theorem State.postIf_frame (c : Bool) (n : Notice) (p : Port) (s : State) :
    (s.postIf c n p).clock = s.clock ∧ (s.postIf c n p).mode = s.mode ∧ (s.postIf c n p).eau = s.eau
      ∧ (s.postIf c n p).feu = s.feu ∧ (s.postIf c n p).sta = s.sta ∧ (s.postIf c n p).slg = s.slg
      ∧ (s.postIf c n p).fmu = s.fmu ∧ (s.postIf c n p).pst = s.pst ∧ (s.postIf c n p).rstnLow = s.rstnLow
      ∧ (s.postIf c n p).freeIndex = s.freeIndex ∧ (s.postIf c n p).pending = s.pending := by
  unfold State.postIf
  split <;> simp

@[simp] theorem State.handGrant_frame (before : Nat) (s : State) :
    (s.handGrant before).clock = s.clock ∧ (s.handGrant before).mode = s.mode ∧ (s.handGrant before).eau = s.eau
      ∧ (s.handGrant before).feu = s.feu ∧ (s.handGrant before).slg = s.slg ∧ (s.handGrant before).fmu = s.fmu
      ∧ (s.handGrant before).pst = s.pst ∧ (s.handGrant before).rstnLow = s.rstnLow
      ∧ (s.handGrant before).freeIndex = s.freeIndex ∧ (s.handGrant before).pending = s.pending := by
  unfold State.handGrant
  split <;> simp

@[simp] theorem State.retarget_frame (s : State) :
    s.retarget.clock = s.clock ∧ s.retarget.mode = s.mode ∧ s.retarget.eau = s.eau ∧ s.retarget.slg = s.slg
      ∧ s.retarget.fmu = s.fmu ∧ s.retarget.pst = s.pst ∧ s.retarget.rstnLow = s.rstnLow ∧ s.retarget.freeIndex = s.freeIndex
      ∧ s.retarget.pending = s.pending := by
  simp [State.retarget]

@[simp] theorem State.recompute_frame (s : State) :
    s.recompute.clock = s.clock ∧ s.recompute.mode = s.mode ∧ s.recompute.eau = s.eau ∧ s.recompute.slg = s.slg
      ∧ s.recompute.fmu = s.fmu ∧ s.recompute.pst = s.pst ∧ s.recompute.rstnLow = s.rstnLow
      ∧ s.recompute.freeIndex = s.freeIndex ∧ s.recompute.pending = s.pending := by
  simp [State.recompute]

@[simp] theorem State.takeRequest_frame (value : Nat) (s : State) :
    (s.takeRequest value).clock = s.clock ∧ (s.takeRequest value).mode = s.mode ∧ (s.takeRequest value).eau = s.eau
      ∧ (s.takeRequest value).slg = s.slg ∧ (s.takeRequest value).fmu = s.fmu ∧ (s.takeRequest value).pst = s.pst
      ∧ (s.takeRequest value).rstnLow = s.rstnLow ∧ (s.takeRequest value).freeIndex = s.freeIndex
      ∧ (s.takeRequest value).pending = s.pending := by
  unfold State.takeRequest
  split <;> simp

@[simp] theorem State.installLimits_frame (s : State) :
    s.installLimits.clock = s.clock ∧ s.installLimits.mode = s.mode ∧ s.installLimits.eau = s.eau
      ∧ s.installLimits.slg = s.slg ∧ s.installLimits.fmu = s.fmu ∧ s.installLimits.pst = s.pst
      ∧ s.installLimits.rstnLow = s.rstnLow ∧ s.installLimits.freeIndex = s.freeIndex ∧ s.installLimits.pending = s.pending := by
  unfold State.installLimits
  split <;> simp

@[simp] theorem State.envelopeSecond_frame (s : State) :
    s.envelopeSecond.clock = s.clock ∧ s.envelopeSecond.mode = s.mode ∧ s.envelopeSecond.eau = s.eau
      ∧ s.envelopeSecond.slg = s.slg ∧ s.envelopeSecond.fmu = s.fmu ∧ s.envelopeSecond.pst = s.pst
      ∧ s.envelopeSecond.rstnLow = s.rstnLow ∧ s.envelopeSecond.freeIndex = s.freeIndex ∧ s.envelopeSecond.pending = s.pending := by
  simp [State.envelopeSecond]

@[simp] theorem State.reallocate_frame (s : State) :
    s.reallocate.clock = s.clock ∧ s.reallocate.mode = s.mode ∧ s.reallocate.eau = s.eau ∧ s.reallocate.feu = s.feu
      ∧ s.reallocate.sta = s.sta ∧ s.reallocate.fmu = s.fmu ∧ s.reallocate.pst = s.pst ∧ s.reallocate.rstnLow = s.rstnLow
      ∧ s.reallocate.freeIndex = s.freeIndex ∧ s.reallocate.pending = s.pending := by
  simp [State.reallocate]

@[simp] theorem State.writeRequest_frame (s : State) :
    s.writeRequest.clock = s.clock ∧ s.writeRequest.mode = s.mode ∧ s.writeRequest.eau = s.eau ∧ s.writeRequest.fmu = s.fmu
      ∧ s.writeRequest.pst = s.pst ∧ s.writeRequest.rstnLow = s.rstnLow ∧ s.writeRequest.freeIndex = s.freeIndex
      ∧ s.writeRequest.pending = s.pending := by
  simp [State.writeRequest]

@[simp] theorem State.ledgerTakePlant_frame (s : State) :
    s.ledgerTakePlant.clock = s.clock ∧ s.ledgerTakePlant.mode = s.mode ∧ s.ledgerTakePlant.eau = s.eau
      ∧ s.ledgerTakePlant.fmu = s.fmu ∧ s.ledgerTakePlant.pst = s.pst ∧ s.ledgerTakePlant.rstnLow = s.rstnLow
      ∧ s.ledgerTakePlant.freeIndex = s.freeIndex ∧ s.ledgerTakePlant.pending = s.pending := by
  simp [State.ledgerTakePlant]

@[simp] theorem State.steamSecond_frame (s : State) :
    s.steamSecond.clock = s.clock ∧ s.steamSecond.mode = s.mode ∧ s.steamSecond.eau = s.eau ∧ s.steamSecond.feu = s.feu
      ∧ s.steamSecond.sta = s.sta ∧ s.steamSecond.fmu = s.fmu ∧ s.steamSecond.pst = s.pst ∧ s.steamSecond.rstnLow = s.rstnLow
      ∧ s.steamSecond.freeIndex = s.freeIndex ∧ s.steamSecond.pending = s.pending := by
  simp [State.steamSecond]

@[simp] theorem State.rampSetpoints_frame (s : State) :
    s.rampSetpoints.clock = s.clock ∧ s.rampSetpoints.mode = s.mode ∧ s.rampSetpoints.eau = s.eau
      ∧ s.rampSetpoints.feu = s.feu ∧ s.rampSetpoints.sta = s.sta ∧ s.rampSetpoints.fmu = s.fmu ∧ s.rampSetpoints.pst = s.pst
      ∧ s.rampSetpoints.rstnLow = s.rstnLow ∧ s.rampSetpoints.freeIndex = s.freeIndex ∧ s.rampSetpoints.pending = s.pending := by
  dsimp only [State.rampSetpoints]
  split <;> simp

@[simp] theorem State.ledgerSecond_frame (s : State) :
    s.ledgerSecond.clock = s.clock ∧ s.ledgerSecond.mode = s.mode ∧ s.ledgerSecond.eau = s.eau ∧ s.ledgerSecond.feu = s.feu
      ∧ s.ledgerSecond.sta = s.sta ∧ s.ledgerSecond.fmu = s.fmu ∧ s.ledgerSecond.pst = s.pst
      ∧ s.ledgerSecond.rstnLow = s.rstnLow ∧ s.ledgerSecond.freeIndex = s.freeIndex ∧ s.ledgerSecond.pending = s.pending := by
  simp [State.ledgerSecond]

@[simp] theorem State.activateOrder_frame (o : Order) (s : State) :
    (s.activateOrder o).clock = s.clock ∧ (s.activateOrder o).mode = s.mode ∧ (s.activateOrder o).eau = s.eau
      ∧ (s.activateOrder o).fmu = s.fmu ∧ (s.activateOrder o).pst = s.pst ∧ (s.activateOrder o).rstnLow = s.rstnLow
      ∧ (s.activateOrder o).freeIndex = s.freeIndex ∧ (s.activateOrder o).pending = s.pending := by
  simp [State.activateOrder]

@[simp] theorem State.runActivation_frame (now : Nat) (s : State) :
    (s.runActivation now).clock = s.clock ∧ (s.runActivation now).mode = s.mode ∧ (s.runActivation now).eau = s.eau
      ∧ (s.runActivation now).fmu = s.fmu ∧ (s.runActivation now).pst = s.pst ∧ (s.runActivation now).rstnLow = s.rstnLow
      ∧ (s.runActivation now).freeIndex = s.freeIndex ∧ (s.runActivation now).pending = s.pending := by
  dsimp only [State.runActivation]
  split <;> simp

@[simp] theorem State.beginStale_frame (s : State) :
    s.beginStale.clock = s.clock ∧ s.beginStale.mode = s.mode ∧ s.beginStale.slg = s.slg ∧ s.beginStale.fmu = s.fmu
      ∧ s.beginStale.pst = s.pst ∧ s.beginStale.rstnLow = s.rstnLow ∧ s.beginStale.freeIndex = s.freeIndex
      ∧ s.beginStale.pending = s.pending := by
  simp [State.beginStale]

@[simp] theorem State.endStale_frame (s : State) :
    s.endStale.clock = s.clock ∧ s.endStale.mode = s.mode ∧ s.endStale.slg = s.slg ∧ s.endStale.fmu = s.fmu
      ∧ s.endStale.pst = s.pst ∧ s.endStale.rstnLow = s.rstnLow ∧ s.endStale.freeIndex = s.freeIndex
      ∧ s.endStale.pending = s.pending := by
  simp [State.endStale]

@[simp] theorem State.emissionAge_frame (s : State) :
    s.emissionAge.clock = s.clock ∧ s.emissionAge.mode = s.mode ∧ s.emissionAge.slg = s.slg ∧ s.emissionAge.fmu = s.fmu
      ∧ s.emissionAge.pst = s.pst ∧ s.emissionAge.rstnLow = s.rstnLow ∧ s.emissionAge.freeIndex = s.freeIndex
      ∧ s.emissionAge.pending = s.pending := by
  dsimp only [State.emissionAge]
  split <;> simp

@[simp] theorem State.emissionMode_frame (old : Mode) (s : State) :
    (s.emissionMode old).clock = s.clock ∧ (s.emissionMode old).mode = s.mode ∧ (s.emissionMode old).slg = s.slg
      ∧ (s.emissionMode old).fmu = s.fmu ∧ (s.emissionMode old).pst = s.pst ∧ (s.emissionMode old).rstnLow = s.rstnLow
      ∧ (s.emissionMode old).freeIndex = s.freeIndex ∧ (s.emissionMode old).pending = s.pending := by
  unfold State.emissionMode
  (repeat' split) <;> simp

@[simp] theorem State.postClose_frame (r : HalfHourRecord) (s : State) :
    (s.postClose r).clock = s.clock ∧ (s.postClose r).mode = s.mode ∧ (s.postClose r).eau = s.eau
      ∧ (s.postClose r).feu = s.feu ∧ (s.postClose r).sta = s.sta ∧ (s.postClose r).slg = s.slg ∧ (s.postClose r).fmu = s.fmu
      ∧ (s.postClose r).pst = s.pst ∧ (s.postClose r).rstnLow = s.rstnLow ∧ (s.postClose r).freeIndex = s.freeIndex
      ∧ (s.postClose r).pending = s.pending := by
  simp [State.postClose]

@[simp] theorem State.closeDay_frame (p : OpenPeriod) (s : State) :
    (s.closeDay p).clock = s.clock ∧ (s.closeDay p).mode = s.mode ∧ (s.closeDay p).feu = s.feu ∧ (s.closeDay p).sta = s.sta
      ∧ (s.closeDay p).slg = s.slg ∧ (s.closeDay p).fmu = s.fmu ∧ (s.closeDay p).pst = s.pst
      ∧ (s.closeDay p).rstnLow = s.rstnLow ∧ (s.closeDay p).freeIndex = s.freeIndex ∧ (s.closeDay p).pending = s.pending := by
  simp [State.closeDay]

@[simp] theorem State.recordPeriod_frame (p : OpenPeriod) (atStop : Bool) (s : State) :
    (s.recordPeriod p atStop).clock = s.clock ∧ (s.recordPeriod p atStop).mode = s.mode
      ∧ (s.recordPeriod p atStop).feu = s.feu ∧ (s.recordPeriod p atStop).sta = s.sta ∧ (s.recordPeriod p atStop).slg = s.slg
      ∧ (s.recordPeriod p atStop).fmu = s.fmu ∧ (s.recordPeriod p atStop).pst = s.pst
      ∧ (s.recordPeriod p atStop).rstnLow = s.rstnLow ∧ (s.recordPeriod p atStop).freeIndex = s.freeIndex
      ∧ (s.recordPeriod p atStop).pending = s.pending := by
  simp [State.recordPeriod]

@[simp] theorem State.openPeriod_frame (p : Option OpenPeriod) (s : State) :
    (s.openPeriod p).clock = s.clock ∧ (s.openPeriod p).mode = s.mode ∧ (s.openPeriod p).slg = s.slg
      ∧ (s.openPeriod p).fmu = s.fmu ∧ (s.openPeriod p).pst = s.pst ∧ (s.openPeriod p).rstnLow = s.rstnLow
      ∧ (s.openPeriod p).freeIndex = s.freeIndex ∧ (s.openPeriod p).pending = s.pending := by
  simp [State.openPeriod]

@[simp] theorem State.closeHalfHour_frame (dayBoundary : Bool) (s : State) :
    (s.closeHalfHour dayBoundary).clock = s.clock ∧ (s.closeHalfHour dayBoundary).mode = s.mode
      ∧ (s.closeHalfHour dayBoundary).slg = s.slg ∧ (s.closeHalfHour dayBoundary).fmu = s.fmu
      ∧ (s.closeHalfHour dayBoundary).pst = s.pst ∧ (s.closeHalfHour dayBoundary).rstnLow = s.rstnLow
      ∧ (s.closeHalfHour dayBoundary).freeIndex = s.freeIndex ∧ (s.closeHalfHour dayBoundary).pending = s.pending := by
  unfold State.closeHalfHour
  (repeat' split) <;> simp

@[simp] theorem State.emissionSecond_frame (halfHour dayBoundary : Bool) (s : State) :
    (s.emissionSecond halfHour dayBoundary).clock = s.clock ∧ (s.emissionSecond halfHour dayBoundary).mode = s.mode
      ∧ (s.emissionSecond halfHour dayBoundary).slg = s.slg ∧ (s.emissionSecond halfHour dayBoundary).fmu = s.fmu
      ∧ (s.emissionSecond halfHour dayBoundary).pst = s.pst ∧ (s.emissionSecond halfHour dayBoundary).rstnLow = s.rstnLow
      ∧ (s.emissionSecond halfHour dayBoundary).freeIndex = s.freeIndex
      ∧ (s.emissionSecond halfHour dayBoundary).pending = s.pending := by
  unfold State.emissionSecond
  split <;> simp

@[simp] theorem State.openAtStart_frame (s : State) :
    s.openAtStart.clock = s.clock ∧ s.openAtStart.mode = s.mode ∧ s.openAtStart.slg = s.slg ∧ s.openAtStart.fmu = s.fmu
      ∧ s.openAtStart.pst = s.pst ∧ s.openAtStart.rstnLow = s.rstnLow ∧ s.openAtStart.freeIndex = s.freeIndex
      ∧ s.openAtStart.pending = s.pending := by
  simp [State.openAtStart]

@[simp] theorem State.closeAtStop_frame (s : State) :
    s.closeAtStop.clock = s.clock ∧ s.closeAtStop.mode = s.mode ∧ s.closeAtStop.slg = s.slg ∧ s.closeAtStop.fmu = s.fmu
      ∧ s.closeAtStop.pst = s.pst ∧ s.closeAtStop.rstnLow = s.rstnLow ∧ s.closeAtStop.freeIndex = s.freeIndex
      ∧ s.closeAtStop.pending = s.pending := by
  unfold State.closeAtStop
  split <;> simp

@[simp] theorem State.plantInForce_frame (pl : Plant) (s : State) :
    (s.plantInForce pl).clock = s.clock ∧ (s.plantInForce pl).mode = s.mode ∧ (s.plantInForce pl).eau = s.eau
      ∧ (s.plantInForce pl).fmu = s.fmu ∧ (s.plantInForce pl).rstnLow = s.rstnLow
      ∧ (s.plantInForce pl).freeIndex = s.freeIndex ∧ (s.plantInForce pl).pending = s.pending := by
  simp [State.plantInForce]

@[simp] theorem State.releaseHeldPlant_frame (s : State) :
    s.releaseHeldPlant.clock = s.clock ∧ s.releaseHeldPlant.mode = s.mode ∧ s.releaseHeldPlant.eau = s.eau
      ∧ s.releaseHeldPlant.fmu = s.fmu ∧ s.releaseHeldPlant.rstnLow = s.rstnLow ∧ s.releaseHeldPlant.freeIndex = s.freeIndex
      ∧ s.releaseHeldPlant.pending = s.pending := by
  unfold State.releaseHeldPlant
  (repeat' split) <;> simp

@[simp] theorem State.deliverMode_frame (old : Mode) (s : State) :
    (s.deliverMode old).clock = s.clock ∧ (s.deliverMode old).mode = s.mode ∧ (s.deliverMode old).fmu = s.fmu
      ∧ (s.deliverMode old).rstnLow = s.rstnLow ∧ (s.deliverMode old).freeIndex = s.freeIndex
      ∧ (s.deliverMode old).pending = s.pending := by
  simp [State.deliverMode]

@[simp] theorem State.changeMode_frame (m : ModeCtl) (s : State) :
    (s.changeMode m).clock = s.clock ∧ (s.changeMode m).fmu = s.fmu ∧ (s.changeMode m).rstnLow = s.rstnLow
      ∧ (s.changeMode m).freeIndex = s.freeIndex ∧ (s.changeMode m).pending = s.pending := by
  simp [State.changeMode]

@[simp] theorem State.goTo_frame (new : Mode) (s : State) :
    (s.goTo new).clock = s.clock ∧ (s.goTo new).fmu = s.fmu ∧ (s.goTo new).rstnLow = s.rstnLow
      ∧ (s.goTo new).freeIndex = s.freeIndex ∧ (s.goTo new).pending = s.pending := by
  simp [State.goTo]

@[simp] theorem State.goHold_frame (c : HoldCauses) (s : State) :
    (s.goHold c).clock = s.clock ∧ (s.goHold c).fmu = s.fmu ∧ (s.goHold c).rstnLow = s.rstnLow
      ∧ (s.goHold c).freeIndex = s.freeIndex ∧ (s.goHold c).pending = s.pending := by
  simp [State.goHold]

@[simp] theorem State.goTripped_frame (c : TripCause) (s : State) :
    (s.goTripped c).clock = s.clock ∧ (s.goTripped c).fmu = s.fmu ∧ (s.goTripped c).rstnLow = s.rstnLow
      ∧ (s.goTripped c).freeIndex = s.freeIndex ∧ (s.goTripped c).pending = s.pending := by
  simp [State.goTripped]

@[simp] theorem State.entryCheckWith_frame (lim : Option Limits) (s : State) :
    (s.entryCheckWith lim).clock = s.clock ∧ (s.entryCheckWith lim).fmu = s.fmu ∧ (s.entryCheckWith lim).rstnLow = s.rstnLow
      ∧ (s.entryCheckWith lim).freeIndex = s.freeIndex ∧ (s.entryCheckWith lim).pending = s.pending := by
  unfold State.entryCheckWith
  split <;> simp

@[simp] theorem State.entryCheck_frame (s : State) :
    s.entryCheck.clock = s.clock ∧ s.entryCheck.fmu = s.fmu ∧ s.entryCheck.rstnLow = s.rstnLow
      ∧ s.entryCheck.freeIndex = s.freeIndex ∧ s.entryCheck.pending = s.pending := by
  simp [State.entryCheck]

@[simp] theorem State.holdArises_frame (alone : HoldCauses) (add : HoldCauses → HoldCauses) (s : State) :
    (s.holdArises alone add).clock = s.clock ∧ (s.holdArises alone add).fmu = s.fmu
      ∧ (s.holdArises alone add).rstnLow = s.rstnLow ∧ (s.holdArises alone add).freeIndex = s.freeIndex
      ∧ (s.holdArises alone add).pending = s.pending := by
  unfold State.holdArises
  split <;> simp

@[simp] theorem State.holdClears_frame (remove : HoldCauses → HoldCauses) (s : State) :
    (s.holdClears remove).clock = s.clock ∧ (s.holdClears remove).eau = s.eau ∧ (s.holdClears remove).feu = s.feu
      ∧ (s.holdClears remove).sta = s.sta ∧ (s.holdClears remove).slg = s.slg ∧ (s.holdClears remove).fmu = s.fmu
      ∧ (s.holdClears remove).pst = s.pst ∧ (s.holdClears remove).rstnLow = s.rstnLow
      ∧ (s.holdClears remove).freeIndex = s.freeIndex ∧ (s.holdClears remove).pending = s.pending := by
  unfold State.holdClears
  split <;> simp

@[simp] theorem State.takeCleaning_frame (a : Availability) (s : State) :
    (s.takeCleaning a).clock = s.clock ∧ (s.takeCleaning a).fmu = s.fmu ∧ (s.takeCleaning a).rstnLow = s.rstnLow
      ∧ (s.takeCleaning a).freeIndex = s.freeIndex ∧ (s.takeCleaning a).pending = s.pending := by
  unfold State.takeCleaning
  split <;> simp

@[simp] theorem State.handRams_frame (before : Nat) (s : State) :
    (s.handRams before).clock = s.clock ∧ (s.handRams before).fmu = s.fmu ∧ (s.handRams before).rstnLow = s.rstnLow
      ∧ (s.handRams before).freeIndex = s.freeIndex ∧ (s.handRams before).pending = s.pending := by
  unfold State.handRams
  (repeat' split) <;> simp

@[simp] theorem State.compareTmin_frame (l : Limits) (t : Nat) (s : State) :
    (s.compareTmin l t).clock = s.clock ∧ (s.compareTmin l t).fmu = s.fmu ∧ (s.compareTmin l t).rstnLow = s.rstnLow
      ∧ (s.compareTmin l t).freeIndex = s.freeIndex ∧ (s.compareTmin l t).pending = s.pending := by
  unfold State.compareTmin
  (repeat' split) <;> simp

@[simp] theorem State.compareTemperature_frame (l : Limits) (t : Nat) (s : State) :
    (s.compareTemperature l t).clock = s.clock ∧ (s.compareTemperature l t).fmu = s.fmu
      ∧ (s.compareTemperature l t).rstnLow = s.rstnLow ∧ (s.compareTemperature l t).freeIndex = s.freeIndex
      ∧ (s.compareTemperature l t).pending = s.pending := by
  unfold State.compareTemperature
  (repeat' split) <;> simp

@[simp] theorem State.takeTemperature_frame (t : Nat) (s : State) :
    (s.takeTemperature t).clock = s.clock ∧ (s.takeTemperature t).fmu = s.fmu ∧ (s.takeTemperature t).rstnLow = s.rstnLow
      ∧ (s.takeTemperature t).freeIndex = s.freeIndex ∧ (s.takeTemperature t).pending = s.pending := by
  unfold State.takeTemperature
  split <;> simp

@[simp] theorem State.modeSecond_frame (lim : Option Limits) (s : State) :
    (s.modeSecond lim).clock = s.clock ∧ (s.modeSecond lim).fmu = s.fmu ∧ (s.modeSecond lim).rstnLow = s.rstnLow
      ∧ (s.modeSecond lim).freeIndex = s.freeIndex ∧ (s.modeSecond lim).pending = s.pending := by
  dsimp only [State.modeSecond]
  (repeat' split) <;> simp

@[simp] theorem State.grateJamTrip_frame (s : State) :
    s.grateJamTrip.clock = s.clock ∧ s.grateJamTrip.fmu = s.fmu ∧ s.grateJamTrip.rstnLow = s.rstnLow
      ∧ s.grateJamTrip.freeIndex = s.freeIndex ∧ s.grateJamTrip.pending = s.pending := by
  unfold State.grateJamTrip
  split <;> simp

@[simp] theorem State.meetLead_frame (lo hi : Nat) (p : Port) (s : State) :
    (s.meetLead lo hi p).mode = s.mode ∧ (s.meetLead lo hi p).eau = s.eau ∧ (s.meetLead lo hi p).feu = s.feu
      ∧ (s.meetLead lo hi p).sta = s.sta ∧ (s.meetLead lo hi p).slg = s.slg ∧ (s.meetLead lo hi p).fmu = s.fmu
      ∧ (s.meetLead lo hi p).pst = s.pst ∧ (s.meetLead lo hi p).rstnLow = s.rstnLow
      ∧ (s.meetLead lo hi p).freeIndex = s.freeIndex ∧ (s.meetLead lo hi p).pending = s.pending := by
  unfold State.meetLead
  split <;> simp

@[simp] theorem State.meetLeads_frame (lo hi : Nat) (s : State) :
    (s.meetLeads lo hi).mode = s.mode ∧ (s.meetLeads lo hi).eau = s.eau ∧ (s.meetLeads lo hi).feu = s.feu
      ∧ (s.meetLeads lo hi).sta = s.sta ∧ (s.meetLeads lo hi).slg = s.slg ∧ (s.meetLeads lo hi).fmu = s.fmu
      ∧ (s.meetLeads lo hi).pst = s.pst ∧ (s.meetLeads lo hi).rstnLow = s.rstnLow
      ∧ (s.meetLeads lo hi).freeIndex = s.freeIndex ∧ (s.meetLeads lo hi).pending = s.pending := by
  simp [State.meetLeads]

@[simp] theorem State.installPending_frame (s : State) :
    s.installPending.clock = s.clock ∧ s.installPending.mode = s.mode ∧ s.installPending.eau = s.eau
      ∧ s.installPending.slg = s.slg ∧ s.installPending.fmu = s.fmu ∧ s.installPending.rstnLow = s.rstnLow
      ∧ s.installPending.freeIndex = s.freeIndex ∧ s.installPending.pending = s.pending := by
  dsimp only [State.installPending]
  (repeat' split) <;> simp

@[simp] theorem State.ledgerMinute_frame (wrapped : Bool) (s : State) :
    (s.ledgerMinute wrapped).clock = s.clock ∧ (s.ledgerMinute wrapped).mode = s.mode ∧ (s.ledgerMinute wrapped).eau = s.eau
      ∧ (s.ledgerMinute wrapped).fmu = s.fmu ∧ (s.ledgerMinute wrapped).pst = s.pst
      ∧ (s.ledgerMinute wrapped).rstnLow = s.rstnLow ∧ (s.ledgerMinute wrapped).freeIndex = s.freeIndex
      ∧ (s.ledgerMinute wrapped).pending = s.pending := by
  unfold State.ledgerMinute
  split <;> simp

@[simp] theorem State.subEvent_frame (k : EventKind) (old : Bool) (e : SubEvent) (s : State) :
    (s.subEvent k old e).clock = s.clock ∧ (s.subEvent k old e).fmu = s.fmu ∧ (s.subEvent k old e).rstnLow = s.rstnLow
      ∧ (s.subEvent k old e).freeIndex = s.freeIndex ∧ (s.subEvent k old e).pending = s.pending := by
  cases e <;> simp only [State.subEvent] <;> (try split) <;> simp

@[simp] theorem State.subEvents_frame (k : EventKind) (old : Bool) (order : List SubEvent) (s : State) :
    (s.subEvents k old order).clock = s.clock ∧ (s.subEvents k old order).fmu = s.fmu
      ∧ (s.subEvents k old order).rstnLow = s.rstnLow ∧ (s.subEvents k old order).freeIndex = s.freeIndex
      ∧ (s.subEvents k old order).pending = s.pending := by
  induction order generalizing s with
  | nil => simp [State.subEvents]
  | cons e es ih =>
    have := ih (s.subEvent k old e)
    simpa [State.subEvents] using this

@[simp] theorem State.blocksSecond_frame (k : EventKind) (o : EventOrder) (s : State) :
    (s.blocksSecond k o).clock = s.clock ∧ (s.blocksSecond k o).fmu = s.fmu ∧ (s.blocksSecond k o).rstnLow = s.rstnLow
      ∧ (s.blocksSecond k o).freeIndex = s.freeIndex ∧ (s.blocksSecond k o).pending = s.pending := by
  unfold State.blocksSecond
  split <;> simp

@[simp] theorem State.bookEnergy_frame (exported heat : Nat) (s : State) :
    (s.bookEnergy exported heat).clock = s.clock ∧ (s.bookEnergy exported heat).mode = s.mode
      ∧ (s.bookEnergy exported heat).eau = s.eau ∧ (s.bookEnergy exported heat).feu = s.feu
      ∧ (s.bookEnergy exported heat).sta = s.sta ∧ (s.bookEnergy exported heat).slg = s.slg
      ∧ (s.bookEnergy exported heat).pst = s.pst ∧ (s.bookEnergy exported heat).rstnLow = s.rstnLow
      ∧ (s.bookEnergy exported heat).freeIndex = s.freeIndex ∧ (s.bookEnergy exported heat).pending = s.pending := by
  unfold State.bookEnergy
  split <;> simp

@[simp] theorem State.bookWaste_frame (kg : Nat) (s : State) :
    (s.bookWaste kg).clock = s.clock ∧ (s.bookWaste kg).mode = s.mode ∧ (s.bookWaste kg).eau = s.eau
      ∧ (s.bookWaste kg).feu = s.feu ∧ (s.bookWaste kg).sta = s.sta ∧ (s.bookWaste kg).slg = s.slg
      ∧ (s.bookWaste kg).pst = s.pst ∧ (s.bookWaste kg).rstnLow = s.rstnLow ∧ (s.bookWaste kg).freeIndex = s.freeIndex
      ∧ (s.bookWaste kg).pending = s.pending := by
  unfold State.bookWaste
  split <;> simp

@[simp] theorem State.loadTotals_frame (t : MeterTotals) (s : State) :
    (s.loadTotals t).clock = s.clock ∧ (s.loadTotals t).mode = s.mode ∧ (s.loadTotals t).eau = s.eau
      ∧ (s.loadTotals t).feu = s.feu ∧ (s.loadTotals t).sta = s.sta ∧ (s.loadTotals t).slg = s.slg
      ∧ (s.loadTotals t).pst = s.pst ∧ (s.loadTotals t).rstnLow = s.rstnLow ∧ (s.loadTotals t).freeIndex = s.freeIndex
      ∧ (s.loadTotals t).pending = s.pending := by
  simp [State.loadTotals]

@[simp] theorem State.putChannel_frame (ch : StrokeChannel) (r : StrokeRecord) (s : State) :
    (s.putChannel ch r).clock = s.clock ∧ (s.putChannel ch r).fmu = s.fmu ∧ (s.putChannel ch r).rstnLow = s.rstnLow
      ∧ (s.putChannel ch r).freeIndex = s.freeIndex ∧ (s.putChannel ch r).pending = s.pending := by
  simp [State.putChannel]

@[simp] theorem State.putRecord_frame (ch : StrokeChannel) (r : StrokeRecord) (s : State) :
    (s.putRecord ch r).clock = s.clock ∧ (s.putRecord ch r).mode = s.mode ∧ (s.putRecord ch r).eau = s.eau
      ∧ (s.putRecord ch r).feu = s.feu ∧ (s.putRecord ch r).slg = s.slg ∧ (s.putRecord ch r).fmu = s.fmu
      ∧ (s.putRecord ch r).pst = s.pst ∧ (s.putRecord ch r).rstnLow = s.rstnLow ∧ (s.putRecord ch r).freeIndex = s.freeIndex
      ∧ (s.putRecord ch r).pending = s.pending := by
  simp [State.putRecord]

@[simp] theorem State.setSettings_frame (ch : StrokeChannel) (en : Bool) (src : Source) (f : Nat) (s : State) :
    (s.setSettings ch en src f).clock = s.clock ∧ (s.setSettings ch en src f).fmu = s.fmu
      ∧ (s.setSettings ch en src f).rstnLow = s.rstnLow ∧ (s.setSettings ch en src f).freeIndex = s.freeIndex
      ∧ (s.setSettings ch en src f).pending = s.pending := by
  simp [State.setSettings]

@[simp] theorem State.setLaneItems_frame (a b c : Nat) (s : State) :
    (s.setLaneItems a b c).clock = s.clock ∧ (s.setLaneItems a b c).mode = s.mode ∧ (s.setLaneItems a b c).eau = s.eau
      ∧ (s.setLaneItems a b c).feu = s.feu ∧ (s.setLaneItems a b c).slg = s.slg ∧ (s.setLaneItems a b c).fmu = s.fmu
      ∧ (s.setLaneItems a b c).pst = s.pst ∧ (s.setLaneItems a b c).rstnLow = s.rstnLow
      ∧ (s.setLaneItems a b c).freeIndex = s.freeIndex ∧ (s.setLaneItems a b c).pending = s.pending := by
  simp [State.setLaneItems]

@[simp] theorem State.expirePeriod_frame (ch : StrokeChannel) (s : State) :
    (s.expirePeriod ch).clock = s.clock ∧ (s.expirePeriod ch).mode = s.mode ∧ (s.expirePeriod ch).eau = s.eau
      ∧ (s.expirePeriod ch).feu = s.feu ∧ (s.expirePeriod ch).slg = s.slg ∧ (s.expirePeriod ch).fmu = s.fmu
      ∧ (s.expirePeriod ch).pst = s.pst ∧ (s.expirePeriod ch).rstnLow = s.rstnLow
      ∧ (s.expirePeriod ch).freeIndex = s.freeIndex ∧ (s.expirePeriod ch).pending = s.pending := by
  dsimp only [State.expirePeriod]
  split <;> simp

@[simp] theorem State.jamRam_frame (ch : StrokeChannel) (s : State) :
    (s.jamRam ch).clock = s.clock ∧ (s.jamRam ch).fmu = s.fmu ∧ (s.jamRam ch).rstnLow = s.rstnLow
      ∧ (s.jamRam ch).freeIndex = s.freeIndex ∧ (s.jamRam ch).pending = s.pending := by
  simp [State.jamRam]

@[simp] theorem State.jamGrate_frame (ch : StrokeChannel) (s : State) :
    (s.jamGrate ch).clock = s.clock ∧ (s.jamGrate ch).fmu = s.fmu ∧ (s.jamGrate ch).rstnLow = s.rstnLow
      ∧ (s.jamGrate ch).freeIndex = s.freeIndex ∧ (s.jamGrate ch).pending = s.pending := by
  dsimp only [State.jamGrate]
  split <;> simp

@[simp] theorem State.expireLimit_frame (ch : StrokeChannel) (s : State) :
    (s.expireLimit ch).clock = s.clock ∧ (s.expireLimit ch).fmu = s.fmu ∧ (s.expireLimit ch).rstnLow = s.rstnLow
      ∧ (s.expireLimit ch).freeIndex = s.freeIndex ∧ (s.expireLimit ch).pending = s.pending := by
  unfold State.expireLimit
  (repeat' split) <;> simp

@[simp] theorem State.arriveEos_frame (ch : StrokeChannel) (s : State) :
    (s.arriveEos ch).clock = s.clock ∧ (s.arriveEos ch).mode = s.mode ∧ (s.arriveEos ch).eau = s.eau
      ∧ (s.arriveEos ch).feu = s.feu ∧ (s.arriveEos ch).slg = s.slg ∧ (s.arriveEos ch).pst = s.pst
      ∧ (s.arriveEos ch).rstnLow = s.rstnLow ∧ (s.arriveEos ch).freeIndex = s.freeIndex ∧ (s.arriveEos ch).pending = s.pending := by
  dsimp only [State.arriveEos]
  (repeat' split) <;> simp

@[simp] theorem State.expire_frame (ch : StrokeChannel) (s : State) :
    (s.expire ch).clock = s.clock ∧ (s.expire ch).fmu = s.fmu ∧ (s.expire ch).rstnLow = s.rstnLow
      ∧ (s.expire ch).freeIndex = s.freeIndex ∧ (s.expire ch).pending = s.pending := by
  simp [State.expire]

@[simp] theorem State.takeSteam_frame (flow : Nat) (s : State) :
    (s.takeSteam flow).clock = s.clock ∧ (s.takeSteam flow).mode = s.mode ∧ (s.takeSteam flow).eau = s.eau
      ∧ (s.takeSteam flow).fmu = s.fmu ∧ (s.takeSteam flow).pst = s.pst ∧ (s.takeSteam flow).rstnLow = s.rstnLow
      ∧ (s.takeSteam flow).freeIndex = s.freeIndex ∧ (s.takeSteam flow).pending = s.pending := by
  unfold State.takeSteam
  split <;> simp

@[simp] theorem State.takeAux_frame (d : Nat) (s : State) :
    (s.takeAux d).clock = s.clock ∧ (s.takeAux d).mode = s.mode ∧ (s.takeAux d).eau = s.eau ∧ (s.takeAux d).fmu = s.fmu
      ∧ (s.takeAux d).pst = s.pst ∧ (s.takeAux d).rstnLow = s.rstnLow ∧ (s.takeAux d).freeIndex = s.freeIndex
      ∧ (s.takeAux d).pending = s.pending := by
  unfold State.takeAux
  split <;> simp

@[simp] theorem State.takeConsumers_frame (a b : Availability) (s : State) :
    (s.takeConsumers a b).clock = s.clock ∧ (s.takeConsumers a b).mode = s.mode ∧ (s.takeConsumers a b).eau = s.eau
      ∧ (s.takeConsumers a b).fmu = s.fmu ∧ (s.takeConsumers a b).pst = s.pst ∧ (s.takeConsumers a b).rstnLow = s.rstnLow
      ∧ (s.takeConsumers a b).freeIndex = s.freeIndex ∧ (s.takeConsumers a b).pending = s.pending := by
  unfold State.takeConsumers
  split <;> simp

@[simp] theorem State.takeSamples_frame (l : Limits) (x : SampleSet) (s : State) :
    (s.takeSamples l x).clock = s.clock ∧ (s.takeSamples l x).mode = s.mode ∧ (s.takeSamples l x).slg = s.slg
      ∧ (s.takeSamples l x).fmu = s.fmu ∧ (s.takeSamples l x).pst = s.pst ∧ (s.takeSamples l x).rstnLow = s.rstnLow
      ∧ (s.takeSamples l x).freeIndex = s.freeIndex ∧ (s.takeSamples l x).pending = s.pending := by
  simp [State.takeSamples]

@[simp] theorem State.armFeed_frame (s : State) :
    s.armFeed.clock = s.clock ∧ s.armFeed.fmu = s.fmu ∧ s.armFeed.rstnLow = s.rstnLow ∧ s.armFeed.freeIndex = s.freeIndex
      ∧ s.armFeed.pending = s.pending := by
  simp [State.armFeed]

@[simp] theorem State.takeTrip_frame (p : Port) (code : Nat) (s : State) :
    (s.takeTrip p code).clock = s.clock ∧ (s.takeTrip p code).fmu = s.fmu ∧ (s.takeTrip p code).rstnLow = s.rstnLow
      ∧ (s.takeTrip p code).freeIndex = s.freeIndex ∧ (s.takeTrip p code).pending = s.pending := by
  unfold State.takeTrip
  split <;> simp

@[simp] theorem State.leaveTripped_frame (s : State) :
    s.leaveTripped.clock = s.clock ∧ s.leaveTripped.fmu = s.fmu ∧ s.leaveTripped.rstnLow = s.rstnLow
      ∧ s.leaveTripped.freeIndex = s.freeIndex ∧ s.leaveTripped.pending = s.pending := by
  simp [State.leaveTripped]

@[simp] theorem State.setLatch_frame (p : Port) (b : Bool) (s : State) :
    (s.setLatch p b).clock = s.clock ∧ (s.setLatch p b).mode = s.mode ∧ (s.setLatch p b).eau = s.eau
      ∧ (s.setLatch p b).feu = s.feu ∧ (s.setLatch p b).sta = s.sta ∧ (s.setLatch p b).slg = s.slg
      ∧ (s.setLatch p b).fmu = s.fmu ∧ (s.setLatch p b).rstnLow = s.rstnLow ∧ (s.setLatch p b).freeIndex = s.freeIndex
      ∧ (s.setLatch p b).pending = s.pending := by
  simp [State.setLatch]

@[simp] theorem State.setActivity_frame (a : StoreActivity) (s : State) :
    (s.setActivity a).clock = s.clock ∧ (s.setActivity a).mode = s.mode ∧ (s.setActivity a).eau = s.eau
      ∧ (s.setActivity a).feu = s.feu ∧ (s.setActivity a).sta = s.sta ∧ (s.setActivity a).slg = s.slg
      ∧ (s.setActivity a).fmu = s.fmu ∧ (s.setActivity a).rstnLow = s.rstnLow ∧ (s.setActivity a).freeIndex = s.freeIndex
      ∧ (s.setActivity a).pending = s.pending := by
  simp [State.setActivity]

@[simp] theorem State.endCycle_frame (p : Port) (s : State) :
    (s.endCycle p).clock = s.clock ∧ (s.endCycle p).mode = s.mode ∧ (s.endCycle p).eau = s.eau ∧ (s.endCycle p).feu = s.feu
      ∧ (s.endCycle p).sta = s.sta ∧ (s.endCycle p).slg = s.slg ∧ (s.endCycle p).fmu = s.fmu
      ∧ (s.endCycle p).rstnLow = s.rstnLow ∧ (s.endCycle p).freeIndex = s.freeIndex ∧ (s.endCycle p).pending = s.pending := by
  simp [State.endCycle]

@[simp] theorem State.takeImage_frame (sec : PermitSection) (image : List Byte) (s : State) :
    (s.takeImage sec image).clock = s.clock ∧ (s.takeImage sec image).mode = s.mode ∧ (s.takeImage sec image).eau = s.eau
      ∧ (s.takeImage sec image).fmu = s.fmu ∧ (s.takeImage sec image).rstnLow = s.rstnLow
      ∧ (s.takeImage sec image).freeIndex = s.freeIndex ∧ (s.takeImage sec image).pending = s.pending := by
  unfold State.takeImage
  (repeat' split) <;> simp

@[simp] theorem State.completeProgramming_frame (s : State) :
    s.completeProgramming.clock = s.clock ∧ s.completeProgramming.mode = s.mode ∧ s.completeProgramming.eau = s.eau
      ∧ s.completeProgramming.fmu = s.fmu ∧ s.completeProgramming.rstnLow = s.rstnLow
      ∧ s.completeProgramming.freeIndex = s.freeIndex ∧ s.completeProgramming.pending = s.pending := by
  unfold State.completeProgramming
  split <;> simp

@[simp] theorem State.completeLock_frame (s : State) :
    s.completeLock.clock = s.clock ∧ s.completeLock.mode = s.mode ∧ s.completeLock.eau = s.eau ∧ s.completeLock.feu = s.feu
      ∧ s.completeLock.sta = s.sta ∧ s.completeLock.slg = s.slg ∧ s.completeLock.fmu = s.fmu
      ∧ s.completeLock.rstnLow = s.rstnLow ∧ s.completeLock.freeIndex = s.freeIndex ∧ s.completeLock.pending = s.pending := by
  unfold State.completeLock
  split <;> simp

end Sys2Proof.Machine
end

