-- ==== Sys2Proof/Laws/Growth.lean ====
section
/-! SUPPORT. The ports under the operations of the blocks: whatever the blocks do to one another, a port controller changes in its notice
set alone, and a notice set only grows (R180). One lemma an operation; each lets `simp` carry the relation through a chain of them. -/

namespace Sys2Proof.Machine

/-- From one state to another every port keeps all but its notice set, and every notice it held. -/
def PortsGrow (s t : State) : Prop :=
  ∀ p, t.port p = { s.port p with notices := (t.port p).notices }
    ∧ ∀ n, noticeHeld (s.port p).notices n = true → noticeHeld (t.port p).notices n = true

@[simp] theorem PortsGrow.refl (s : State) : PortsGrow s s := fun _ => ⟨rfl, fun _ h => h⟩

theorem PortsGrow.trans {s t u : State} (h : PortsGrow s t) (k : PortsGrow t u) : PortsGrow s u := fun p => by
  refine ⟨?_, fun n hn => (k p).2 n ((h p).2 n hn)⟩
  rw [(k p).1, (h p).1]

/-- A port after a notice has been posted: the cause joins its own set, every other port stays (R180). -/
theorem State.port_post (n : Notice) (p q : Port) (s : State) :
    (s.post n p).port q = if q = p then { s.port q with notices := (s.port q).notices ||| n.bit } else s.port q := by
  cases p <;> cases q <;> rfl

/-- A notice just posted is held. -/
theorem State.holds_post (n : Notice) (p : Port) (s : State) : (s.post n p).holds p n = true := by
  have h : (s.post n p).port p = { s.port p with notices := (s.port p).notices ||| n.bit } := by rw [State.port_post, if_pos rfl]
  rw [State.holds, h]
  cases n <;> simp [noticeHeld, Notice.bit, Notice.code]

@[simp] theorem PortsGrow.setClock_iff (s t : State) (x) : PortsGrow s (t.setClock x) ↔ PortsGrow s t := Iff.rfl
@[simp] theorem PortsGrow.setMode_iff (s t : State) (x) : PortsGrow s (t.setMode x) ↔ PortsGrow s t := Iff.rfl
@[simp] theorem PortsGrow.setEau_iff (s t : State) (x) : PortsGrow s (t.setEau x) ↔ PortsGrow s t := Iff.rfl
@[simp] theorem PortsGrow.setFeu_iff (s t : State) (x) : PortsGrow s (t.setFeu x) ↔ PortsGrow s t := Iff.rfl
@[simp] theorem PortsGrow.setSta_iff (s t : State) (x) : PortsGrow s (t.setSta x) ↔ PortsGrow s t := Iff.rfl
@[simp] theorem PortsGrow.setSlg_iff (s t : State) (x) : PortsGrow s (t.setSlg x) ↔ PortsGrow s t := Iff.rfl
@[simp] theorem PortsGrow.setFmu_iff (s t : State) (x) : PortsGrow s (t.setFmu x) ↔ PortsGrow s t := Iff.rfl
@[simp] theorem PortsGrow.setPst_iff (s t : State) (x) : PortsGrow s (t.setPst x) ↔ PortsGrow s t := Iff.rfl
@[simp] theorem PortsGrow.draw_iff (s t : State) : PortsGrow s t.draw.2 ↔ PortsGrow s t := Iff.rfl

@[simp] theorem PortsGrow.post {s₀ s : State} (h : PortsGrow s₀ s) (n : Notice) (p : Port) : PortsGrow s₀ (s.post n p) := by
  refine h.trans fun q => ?_
  rw [State.port_post]
  split
  · exact ⟨rfl, fun m hm => by simp_all [noticeHeld]⟩
  · exact ⟨rfl, fun _ hm => hm⟩

@[simp] theorem PortsGrow.postAll {s₀ s : State} (h : PortsGrow s₀ s) (n : Notice) :
    PortsGrow s₀ (s.postAll n) := by
  exact ((h.post n .pf).post n .pg).post n .pd

@[simp] theorem PortsGrow.postIf {s₀ s : State} (h : PortsGrow s₀ s) (c : Bool) (n : Notice) (p : Port) :
    PortsGrow s₀ (s.postIf c n p) := by
  unfold State.postIf
  split <;> simp [h]

@[simp] theorem PortsGrow.handGrant {s₀ s : State} (h : PortsGrow s₀ s) (before : Nat) :
    PortsGrow s₀ (s.handGrant before) := by
  unfold State.handGrant
  split <;> simp [h]

@[simp] theorem PortsGrow.retarget {s₀ s : State} (h : PortsGrow s₀ s) :
    PortsGrow s₀ s.retarget := by
  dsimp only [State.retarget]
  exact ((((PortsGrow.setFeu_iff s₀ s _).2 h).handGrant _).postIf _ _ _).postIf _ _ _

@[simp] theorem PortsGrow.recompute {s₀ s : State} (h : PortsGrow s₀ s) :
    PortsGrow s₀ s.recompute := by
  simp [State.recompute, h]

@[simp] theorem PortsGrow.takeRequest {s₀ s : State} (h : PortsGrow s₀ s) (value : Nat) :
    PortsGrow s₀ (s.takeRequest value) := by
  unfold State.takeRequest
  split <;> simp [h]

@[simp] theorem PortsGrow.installLimits {s₀ s : State} (h : PortsGrow s₀ s) :
    PortsGrow s₀ s.installLimits := by
  unfold State.installLimits
  split <;> simp [h]

@[simp] theorem PortsGrow.envelopeSecond {s₀ s : State} (h : PortsGrow s₀ s) :
    PortsGrow s₀ s.envelopeSecond := by
  simp [State.envelopeSecond, h]

@[simp] theorem PortsGrow.reallocate {s₀ s : State} (h : PortsGrow s₀ s) :
    PortsGrow s₀ s.reallocate := by
  dsimp only [State.reallocate]
  exact ((((PortsGrow.setSlg_iff s₀ s _).2 h).postIf _ _ _).postIf _ _ _).postIf _ _ _

@[simp] theorem PortsGrow.writeRequest {s₀ s : State} (h : PortsGrow s₀ s) :
    PortsGrow s₀ s.writeRequest := by
  simp [State.writeRequest, h]

@[simp] theorem PortsGrow.ledgerTakePlant {s₀ s : State} (h : PortsGrow s₀ s) :
    PortsGrow s₀ s.ledgerTakePlant := by
  simp [State.ledgerTakePlant, h]

@[simp] theorem PortsGrow.steamSecond {s₀ s : State} (h : PortsGrow s₀ s) :
    PortsGrow s₀ s.steamSecond := by
  simp [State.steamSecond, h]

@[simp] theorem PortsGrow.rampSetpoints {s₀ s : State} (h : PortsGrow s₀ s) :
    PortsGrow s₀ s.rampSetpoints := by
  dsimp only [State.rampSetpoints]
  split <;> simp [h]

@[simp] theorem PortsGrow.ledgerSecond {s₀ s : State} (h : PortsGrow s₀ s) :
    PortsGrow s₀ s.ledgerSecond := by
  simp [State.ledgerSecond, h]

@[simp] theorem PortsGrow.activateOrder {s₀ s : State} (h : PortsGrow s₀ s) (o : Order) :
    PortsGrow s₀ (s.activateOrder o) := by
  exact ((((PortsGrow.setSlg_iff s₀ s _).2 h).writeRequest).reallocate).post _ _

@[simp] theorem PortsGrow.runActivation {s₀ s : State} (h : PortsGrow s₀ s) (now : Nat) :
    PortsGrow s₀ (s.runActivation now) := by
  dsimp only [State.runActivation]
  split <;> simp [h]

@[simp] theorem PortsGrow.beginStale {s₀ s : State} (h : PortsGrow s₀ s) :
    PortsGrow s₀ s.beginStale := by
  exact ((((PortsGrow.setEau_iff s₀ s _).2 h).recompute).post _ _).post _ _

@[simp] theorem PortsGrow.endStale {s₀ s : State} (h : PortsGrow s₀ s) :
    PortsGrow s₀ s.endStale := by
  simp [State.endStale, h]

@[simp] theorem PortsGrow.emissionAge {s₀ s : State} (h : PortsGrow s₀ s) :
    PortsGrow s₀ s.emissionAge := by
  dsimp only [State.emissionAge]
  split <;> simp [h]

@[simp] theorem PortsGrow.emissionMode {s₀ s : State} (h : PortsGrow s₀ s) (old : Mode) :
    PortsGrow s₀ (s.emissionMode old) := by
  unfold State.emissionMode
  (repeat' split) <;> simp [h]

@[simp] theorem PortsGrow.postClose {s₀ s : State} (h : PortsGrow s₀ s) (r : HalfHourRecord) :
    PortsGrow s₀ (s.postClose r) := by
  exact ((h.post _ _).postIf _ _ _).postIf _ _ _

@[simp] theorem PortsGrow.closeDay {s₀ s : State} (h : PortsGrow s₀ s) (p : OpenPeriod) :
    PortsGrow s₀ (s.closeDay p) := by
  dsimp only [State.closeDay]
  exact ((((PortsGrow.setEau_iff s₀ s _).2 h).post _ _).postIf _ _ _).postIf _ _ _

@[simp] theorem PortsGrow.recordPeriod {s₀ s : State} (h : PortsGrow s₀ s) (p : OpenPeriod) (atStop : Bool) :
    PortsGrow s₀ (s.recordPeriod p atStop) := by
  simp [State.recordPeriod, h]

@[simp] theorem PortsGrow.openPeriod {s₀ s : State} (h : PortsGrow s₀ s) (p : Option OpenPeriod) :
    PortsGrow s₀ (s.openPeriod p) := by
  simp [State.openPeriod, h]

@[simp] theorem PortsGrow.closeHalfHour {s₀ s : State} (h : PortsGrow s₀ s) (dayBoundary : Bool) :
    PortsGrow s₀ (s.closeHalfHour dayBoundary) := by
  dsimp only [State.closeHalfHour]
  split
  · exact h.openPeriod _
  · split
    · exact (((h.recordPeriod _ _).closeDay _).openPeriod _).postClose _
    · exact ((h.recordPeriod _ _).openPeriod _).postClose _

@[simp] theorem PortsGrow.emissionSecond {s₀ s : State} (h : PortsGrow s₀ s) (halfHour dayBoundary : Bool) :
    PortsGrow s₀ (s.emissionSecond halfHour dayBoundary) := by
  unfold State.emissionSecond
  split <;> simp [h]

@[simp] theorem PortsGrow.openAtStart {s₀ s : State} (h : PortsGrow s₀ s) :
    PortsGrow s₀ s.openAtStart := by
  simp [State.openAtStart, h]

@[simp] theorem PortsGrow.closeAtStop {s₀ s : State} (h : PortsGrow s₀ s) :
    PortsGrow s₀ s.closeAtStop := by
  unfold State.closeAtStop
  split
  · exact h.openPeriod _
  · exact ((h.recordPeriod _ _).openPeriod _).postClose _

@[simp] theorem PortsGrow.plantInForce {s₀ s : State} (h : PortsGrow s₀ s) (pl : Plant) :
    PortsGrow s₀ (s.plantInForce pl) := by
  simp [State.plantInForce, h]

@[simp] theorem PortsGrow.releaseHeldPlant {s₀ s : State} (h : PortsGrow s₀ s) :
    PortsGrow s₀ s.releaseHeldPlant := by
  unfold State.releaseHeldPlant
  (repeat' split) <;> simp [h]

@[simp] theorem PortsGrow.deliverMode {s₀ s : State} (h : PortsGrow s₀ s) (old : Mode) :
    PortsGrow s₀ (s.deliverMode old) := by
  exact ((h.releaseHeldPlant).emissionMode old).retarget

@[simp] theorem PortsGrow.changeMode {s₀ s : State} (h : PortsGrow s₀ s) (m : ModeCtl) :
    PortsGrow s₀ (s.changeMode m) := by
  simp [State.changeMode, h]

@[simp] theorem PortsGrow.goTo {s₀ s : State} (h : PortsGrow s₀ s) (new : Mode) :
    PortsGrow s₀ (s.goTo new) := by
  simp [State.goTo, h]

@[simp] theorem PortsGrow.goHold {s₀ s : State} (h : PortsGrow s₀ s) (c : HoldCauses) :
    PortsGrow s₀ (s.goHold c) := by
  simp [State.goHold, h]

@[simp] theorem PortsGrow.goTripped {s₀ s : State} (h : PortsGrow s₀ s) (c : TripCause) :
    PortsGrow s₀ (s.goTripped c) := by
  simp [State.goTripped, h]

@[simp] theorem PortsGrow.entryCheckWith {s₀ s : State} (h : PortsGrow s₀ s) (lim : Option Limits) :
    PortsGrow s₀ (s.entryCheckWith lim) := by
  unfold State.entryCheckWith
  split <;> simp [h]

@[simp] theorem PortsGrow.entryCheck {s₀ s : State} (h : PortsGrow s₀ s) :
    PortsGrow s₀ s.entryCheck := by
  simp [State.entryCheck, h]

@[simp] theorem PortsGrow.holdArises {s₀ s : State} (h : PortsGrow s₀ s) (alone : HoldCauses) (add : HoldCauses → HoldCauses) :
    PortsGrow s₀ (s.holdArises alone add) := by
  unfold State.holdArises
  split <;> simp [h]

@[simp] theorem PortsGrow.holdClears {s₀ s : State} (h : PortsGrow s₀ s) (remove : HoldCauses → HoldCauses) :
    PortsGrow s₀ (s.holdClears remove) := by
  unfold State.holdClears
  split <;> simp [h]

@[simp] theorem PortsGrow.takeCleaning {s₀ s : State} (h : PortsGrow s₀ s) (a : Availability) :
    PortsGrow s₀ (s.takeCleaning a) := by
  unfold State.takeCleaning
  split <;> simp [h]

@[simp] theorem PortsGrow.handRams {s₀ s : State} (h : PortsGrow s₀ s) (before : Nat) :
    PortsGrow s₀ (s.handRams before) := by
  unfold State.handRams
  (repeat' split) <;> simp [h]

@[simp] theorem PortsGrow.compareTmin {s₀ s : State} (h : PortsGrow s₀ s) (l : Limits) (t : Nat) :
    PortsGrow s₀ (s.compareTmin l t) := by
  unfold State.compareTmin
  (repeat' split) <;> simp [h]

@[simp] theorem PortsGrow.compareTemperature {s₀ s : State} (h : PortsGrow s₀ s) (l : Limits) (t : Nat) :
    PortsGrow s₀ (s.compareTemperature l t) := by
  unfold State.compareTemperature
  (repeat' split) <;> simp [h]

@[simp] theorem PortsGrow.takeTemperature {s₀ s : State} (h : PortsGrow s₀ s) (t : Nat) :
    PortsGrow s₀ (s.takeTemperature t) := by
  unfold State.takeTemperature
  split <;> simp [h]

@[simp] theorem PortsGrow.modeSecond {s₀ s : State} (h : PortsGrow s₀ s) (lim : Option Limits) :
    PortsGrow s₀ (s.modeSecond lim) := by
  dsimp only [State.modeSecond]
  (repeat' split) <;> simp [h]

@[simp] theorem PortsGrow.grateJamTrip {s₀ s : State} (h : PortsGrow s₀ s) :
    PortsGrow s₀ s.grateJamTrip := by
  unfold State.grateJamTrip
  split <;> simp [h]

@[simp] theorem PortsGrow.meetLead {s₀ s : State} (h : PortsGrow s₀ s) (lo hi : Nat) (p : Port) :
    PortsGrow s₀ (s.meetLead lo hi p) := by
  unfold State.meetLead
  split <;> simp [h]

@[simp] theorem PortsGrow.meetLeads {s₀ s : State} (h : PortsGrow s₀ s) (lo hi : Nat) :
    PortsGrow s₀ (s.meetLeads lo hi) := by
  exact ((h.meetLead _ _ _).meetLead _ _ _).meetLead _ _ _

@[simp] theorem PortsGrow.installPending {s₀ s : State} (h : PortsGrow s₀ s) :
    PortsGrow s₀ s.installPending := by
  dsimp only [State.installPending]
  (repeat' split) <;> simp [h]

@[simp] theorem PortsGrow.ledgerMinute {s₀ s : State} (h : PortsGrow s₀ s) (wrapped : Bool) :
    PortsGrow s₀ (s.ledgerMinute wrapped) := by
  unfold State.ledgerMinute
  split <;> simp [h]

@[simp] theorem PortsGrow.subEvent {s₀ s : State} (h : PortsGrow s₀ s) (k : EventKind) (old : Bool) (e : SubEvent) :
    PortsGrow s₀ (s.subEvent k old e) := by
  cases e <;> simp only [State.subEvent] <;> (try split) <;> simp [h]

@[simp] theorem PortsGrow.subEvents {s₀ s : State} (h : PortsGrow s₀ s) (k : EventKind) (old : Bool) (order : List SubEvent) :
    PortsGrow s₀ (s.subEvents k old order) := by
  induction order generalizing s with
  | nil => simpa [State.subEvents] using h
  | cons e es ih => exact ih (h.subEvent k old e)

@[simp] theorem PortsGrow.blocksSecond {s₀ s : State} (h : PortsGrow s₀ s) (k : EventKind) (o : EventOrder) :
    PortsGrow s₀ (s.blocksSecond k o) := by
  unfold State.blocksSecond
  split <;> simp [h]

@[simp] theorem PortsGrow.bookEnergy {s₀ s : State} (h : PortsGrow s₀ s) (exported heat : Nat) :
    PortsGrow s₀ (s.bookEnergy exported heat) := by
  unfold State.bookEnergy
  split <;> simp [h]

@[simp] theorem PortsGrow.bookWaste {s₀ s : State} (h : PortsGrow s₀ s) (kg : Nat) :
    PortsGrow s₀ (s.bookWaste kg) := by
  unfold State.bookWaste
  split <;> simp [h]

@[simp] theorem PortsGrow.loadTotals {s₀ s : State} (h : PortsGrow s₀ s) (t : MeterTotals) :
    PortsGrow s₀ (s.loadTotals t) := by
  simp [State.loadTotals, h]

@[simp] theorem PortsGrow.putChannel {s₀ s : State} (h : PortsGrow s₀ s) (ch : StrokeChannel) (r : StrokeRecord) :
    PortsGrow s₀ (s.putChannel ch r) := by
  simp [State.putChannel, h]

@[simp] theorem PortsGrow.putRecord {s₀ s : State} (h : PortsGrow s₀ s) (ch : StrokeChannel) (r : StrokeRecord) :
    PortsGrow s₀ (s.putRecord ch r) := by
  simp [State.putRecord, h]

@[simp] theorem PortsGrow.setSettings {s₀ s : State} (h : PortsGrow s₀ s) (ch : StrokeChannel) (en : Bool) (src : Source) (f : Nat) :
    PortsGrow s₀ (s.setSettings ch en src f) := by
  simp [State.setSettings, h]

@[simp] theorem PortsGrow.setLaneItems {s₀ s : State} (h : PortsGrow s₀ s) (a b c : Nat) :
    PortsGrow s₀ (s.setLaneItems a b c) := by
  simp [State.setLaneItems, h]

@[simp] theorem PortsGrow.expirePeriod {s₀ s : State} (h : PortsGrow s₀ s) (ch : StrokeChannel) :
    PortsGrow s₀ (s.expirePeriod ch) := by
  dsimp only [State.expirePeriod]
  split <;> simp [h]

@[simp] theorem PortsGrow.jamRam {s₀ s : State} (h : PortsGrow s₀ s) (ch : StrokeChannel) :
    PortsGrow s₀ (s.jamRam ch) := by
  simp [State.jamRam, h]

@[simp] theorem PortsGrow.jamGrate {s₀ s : State} (h : PortsGrow s₀ s) (ch : StrokeChannel) :
    PortsGrow s₀ (s.jamGrate ch) := by
  dsimp only [State.jamGrate]
  split
  · exact h.putRecord _ _
  · exact ((h.putRecord _ _).post _ _).grateJamTrip

@[simp] theorem PortsGrow.expireLimit {s₀ s : State} (h : PortsGrow s₀ s) (ch : StrokeChannel) :
    PortsGrow s₀ (s.expireLimit ch) := by
  unfold State.expireLimit
  (repeat' split) <;> simp [h]

@[simp] theorem PortsGrow.arriveEos {s₀ s : State} (h : PortsGrow s₀ s) (ch : StrokeChannel) :
    PortsGrow s₀ (s.arriveEos ch) := by
  dsimp only [State.arriveEos]
  (repeat' split) <;> simp [h]

@[simp] theorem PortsGrow.expire {s₀ s : State} (h : PortsGrow s₀ s) (ch : StrokeChannel) :
    PortsGrow s₀ (s.expire ch) := by
  simp [State.expire, h]

@[simp] theorem PortsGrow.takeSteam {s₀ s : State} (h : PortsGrow s₀ s) (flow : Nat) :
    PortsGrow s₀ (s.takeSteam flow) := by
  unfold State.takeSteam
  split <;> simp [h]

@[simp] theorem PortsGrow.takeAux {s₀ s : State} (h : PortsGrow s₀ s) (d : Nat) :
    PortsGrow s₀ (s.takeAux d) := by
  unfold State.takeAux
  split <;> simp [h]

@[simp] theorem PortsGrow.takeConsumers {s₀ s : State} (h : PortsGrow s₀ s) (a b : Availability) :
    PortsGrow s₀ (s.takeConsumers a b) := by
  unfold State.takeConsumers
  split <;> simp [h]

@[simp] theorem PortsGrow.takeSamples {s₀ s : State} (h : PortsGrow s₀ s) (l : Limits) (x : SampleSet) :
    PortsGrow s₀ (s.takeSamples l x) := by
  simp [State.takeSamples, h]

@[simp] theorem PortsGrow.armFeed {s₀ s : State} (h : PortsGrow s₀ s) :
    PortsGrow s₀ s.armFeed := by
  simp [State.armFeed, h]

@[simp] theorem PortsGrow.takeTrip {s₀ s : State} (h : PortsGrow s₀ s) (p : Port) (code : Nat) :
    PortsGrow s₀ (s.takeTrip p code) := by
  unfold State.takeTrip
  split <;> simp [h]

@[simp] theorem PortsGrow.leaveTripped {s₀ s : State} (h : PortsGrow s₀ s) :
    PortsGrow s₀ s.leaveTripped := by
  simp [State.leaveTripped, h]

@[simp] theorem PortsGrow.setLatch {s₀ s : State} (h : PortsGrow s₀ s) (p : Port) (b : Bool) :
    PortsGrow s₀ (s.setLatch p b) := by
  simp [State.setLatch, h]

@[simp] theorem PortsGrow.setActivity {s₀ s : State} (h : PortsGrow s₀ s) (a : StoreActivity) :
    PortsGrow s₀ (s.setActivity a) := by
  simp [State.setActivity, h]

@[simp] theorem PortsGrow.endCycle {s₀ s : State} (h : PortsGrow s₀ s) (p : Port) :
    PortsGrow s₀ (s.endCycle p) := by
  exact ((h.setActivity _).setLatch _ _).post _ _

@[simp] theorem PortsGrow.takeImage {s₀ s : State} (h : PortsGrow s₀ s) (sec : PermitSection) (image : List Byte) :
    PortsGrow s₀ (s.takeImage sec image) := by
  unfold State.takeImage
  (repeat' split) <;> simp [h]

@[simp] theorem PortsGrow.completeProgramming {s₀ s : State} (h : PortsGrow s₀ s) :
    PortsGrow s₀ s.completeProgramming := by
  unfold State.completeProgramming
  split <;> simp [h]

@[simp] theorem PortsGrow.completeLock {s₀ s : State} (h : PortsGrow s₀ s) :
    PortsGrow s₀ s.completeLock := by
  unfold State.completeLock
  split <;> simp [h]

end Sys2Proof.Machine
end

