-- ==== Sys2Proof/Laws/Envelope.lean ====
section
/-! SUPPORT. What the operations of the firing envelope do to it and to the grant that the stroke timer array holds: one lemma an operation,
cited instead of unfolding it (R80 to R88, R106). -/

namespace Sys2Proof.Machine

/-- The stroke timer array after a grant has been handed over, or left where it has not changed. -/
theorem State.handGrant_sta (before : Nat) (s : State) :
    (s.handGrant before).sta = if s.feu.grant = before then s.sta else takeGrant s.plantMode s.plant s.feu.grant s.sta := by
  unfold State.handGrant
  split <;> simp

/-- The array holds the grant that it is handed. -/
@[simp] theorem takeGrant_grant (mode : Mode) (pl : Option Plant) (g : Nat) (a : StrokeArray) : (takeGrant mode pl g a).grant = g := rfl

/-- The envelope after its target has been formed again. -/
@[simp] theorem State.retarget_feu (s : State) : s.retarget.feu = retargeted s.mode.mode s.feu := by
  simp [State.retarget, State.plantMode]

/-- The stroke timer array after it. -/
theorem State.retarget_sta (s : State) :
    s.retarget.sta = if min s.feu.grant (targetOf s.mode.mode s.feu) = s.feu.grant then s.sta
      else takeGrant s.mode.mode s.plant (min s.feu.grant (targetOf s.mode.mode s.feu)) s.sta := by
  simp [State.retarget, State.handGrant_sta, retargeted, State.plantMode, State.plant]

/-- Where the target, the flag and the grant already stand as they should, forming them again changes nothing. -/
theorem State.retarget_of_grantLaw {s : State} (h : GrantLaw s) : s.retarget = s := by
  obtain ⟨-, ht, hl, hg, -⟩ := h
  have he : retargeted s.mode.mode s.feu = s.feu := by
    simp [retargeted, ← ht, ← hl, Nat.min_eq_left hg]
  simp [State.retarget, State.plantMode, he, State.handGrant, State.postIf]

/-- The envelope after a recomputation. -/
@[simp] theorem State.recompute_feu (s : State) :
    s.recompute.feu = retargeted s.mode.mode (recomputed s.limits s.eau s.feu) := by
  simp [State.recompute]

/-- The array after a recomputation. -/
theorem State.recompute_sta (s : State) :
    s.recompute.sta =
      let e := recomputed s.limits s.eau s.feu
      if min s.feu.grant (targetOf s.mode.mode e) = s.feu.grant then s.sta
      else takeGrant s.mode.mode s.plant (min s.feu.grant (targetOf s.mode.mode e)) s.sta := by
  simp [State.recompute, State.retarget_sta, recomputed, State.plant]

/-- Lanes formed again are those of the grant and the split held (R106). -/
theorem relane_lanes (mode : Mode) (pl : Option Plant) (a : StrokeArray) : LaneLaw (relane mode pl a) := ⟨rfl, rfl⟩

/-- What a grant handed over does to the array under a PLANT copy (R106, R109, R110). -/
theorem takeGrant_taken (mode : Mode) (pl : Plant) (grant : Nat) (a : StrokeArray) :
    GrantTaken mode pl grant a (takeGrant mode (some pl) grant a) := by
  refine ⟨rfl, ?_⟩
  intro ch _ r
  have hl : laneGrant (takeGrant mode (some pl) grant a) ch = laneGrant (withLanes { a with grant := grant }) ch := by cases ch <;> rfl
  have hc : (takeGrant mode (some pl) grant a).channels.get ch =
      if r.source = .auto then
        releaseWait mode (some pl) (withLanes { a with grant := grant }) ch
          (writePreload mode (some pl) (withLanes { a with grant := grant }) ch r)
      else r := by cases ch <;> rfl
  rw [hc, show autoPeriod mode pl (takeGrant mode (some pl) grant a) ch = autoPeriod mode pl (withLanes { a with grant := grant }) ch by
    simp only [autoPeriod, hl], hl]
  generalize withLanes { a with grant := grant } = b
  rcases hs : r.source with _ | _
  · by_cases hlow : isRam ch = true ∧ laneGrant b ch < 50
    · rcases hst : r.state with _ | _ | _ | _ | _ <;>
        simp [hs, hst, hlow, releaseWait, writePreload, cycling, mustWait, computedPeriod, cutoff]
    · have hm : mustWait b ch r = false := by
        cases hr : isRam ch
        · simp [mustWait, hr]
        · exact Bool.and_eq_false_iff.2 (.inr (decide_eq_false fun h => hlow ⟨hr, h⟩))
      have hp : computedPeriod mode (some pl) b ch r = some (autoPeriod mode pl b ch) := by
        by_cases hr : isRam ch = true
        · have : ¬ laneGrant b ch < 50 := fun h => hlow ⟨hr, h⟩
          simp [computedPeriod, hs, hr, cutoff, this, periodFor, autoPeriod]
        · simp [computedPeriod, hs, hr, periodFor, firingFigure, autoPeriod]
      rcases hst : r.state with _ | _ | _ | _ | _ <;>
        simp [hs, hst, hlow, hm, hp, releaseWait, writePreload, cycling, enterDwell, currentLimit]
  · simp

/-- Outside FIRING the target is 0. -/
theorem targetOf_not_firing {mode : Mode} (h : mode ≠ .firing) (e : Envelope) : targetOf mode e = 0 := by simp [targetOf, h]

/-- Under the grant's law the grant is 0 outside FIRING. -/
theorem grant_zero {s : State} (h : GrantLaw s) (hm : s.mode.mode ≠ .firing) : s.feu.grant = 0 ∧ s.feu.target = 0 := by
  obtain ⟨-, ht, -, hg, -⟩ := h
  rw [targetOf_not_firing hm] at ht
  omega

end Sys2Proof.Machine
end

