-- ==== Sys2Proof/Laws/Takes.lean ====
section
/-! SUPPORT. The take of a frame on a port that is ready for it: the arrival of a command row is its take, the take leaves the blocks as they
were, and the reply commutes with what the command does to the blocks. -/

namespace Sys2Proof.Machine

/-- With no frame in progress a command row is taken whole. -/
theorem State.arrive_ready {p : Port} {s : State} (h : Ready p s) (i : Instr) : s.arrive p i = s.takeFrame i := by
  obtain ⟨h1, h2, h3⟩ := h
  simp [State.arrive, deaf, h1, h2, h3]

/-- A port that takes nothing. -/
theorem State.arrive_deaf {p : Port} {s : State} (h : s.rstnLow = true ∨ (s.port p).ignoring = true) (i : Instr) :
    s.arrive p i = s.setPort p (endTransaction (s.port p)) := by
  have : deaf s p = true := by simpa [deaf] using h
  simp [State.arrive, this]

/-- The blocks at the take of a frame are those before it. -/
@[simp] theorem State.beginTake_frame (p : Port) (s : State) :
    (s.beginTake p).clock = s.clock ∧ (s.beginTake p).mode = s.mode ∧ (s.beginTake p).eau = s.eau ∧ (s.beginTake p).feu = s.feu
      ∧ (s.beginTake p).sta = s.sta ∧ (s.beginTake p).slg = s.slg ∧ (s.beginTake p).fmu = s.fmu ∧ (s.beginTake p).pst = s.pst
      ∧ (s.beginTake p).rstnLow = s.rstnLow ∧ (s.beginTake p).freeIndex = s.freeIndex ∧ (s.beginTake p).pending = s.pending := by
  simp [State.beginTake]

/-- A reply changes its port alone. -/
@[simp] theorem State.answer_frame (p : Port) (r : Reply) (s : State) :
    (s.answer p r).clock = s.clock ∧ (s.answer p r).mode = s.mode ∧ (s.answer p r).eau = s.eau ∧ (s.answer p r).feu = s.feu
      ∧ (s.answer p r).sta = s.sta ∧ (s.answer p r).slg = s.slg ∧ (s.answer p r).fmu = s.fmu ∧ (s.answer p r).pst = s.pst
      ∧ (s.answer p r).rstnLow = s.rstnLow ∧ (s.answer p r).freeIndex = s.freeIndex ∧ (s.answer p r).pending = s.pending := by
  simp [State.answer]

@[simp] theorem State.replied_frame (p : Port) (r : Reply) (s : State) :
    (s.replied p r).clock = s.clock ∧ (s.replied p r).mode = s.mode ∧ (s.replied p r).eau = s.eau ∧ (s.replied p r).feu = s.feu
      ∧ (s.replied p r).sta = s.sta ∧ (s.replied p r).slg = s.slg ∧ (s.replied p r).fmu = s.fmu ∧ (s.replied p r).pst = s.pst
      ∧ (s.replied p r).rstnLow = s.rstnLow ∧ (s.replied p r).freeIndex = s.freeIndex ∧ (s.replied p r).pending = s.pending := by
  simp [State.replied]

/-- A command that changes no port answers as `replied` says. -/
@[simp] theorem State.answer_beginTake (p : Port) (r : Reply) (s : State) : (s.beginTake p).answer p r = s.replied p r := by
  cases p <;> rfl

@[simp] theorem State.answer_setClock (p : Port) (r : Reply) (s : State) (x) :
    (s.setClock x).answer p r = (s.answer p r).setClock x := rfl

@[simp] theorem State.answer_setMode (p : Port) (r : Reply) (s : State) (x) :
    (s.setMode x).answer p r = (s.answer p r).setMode x := rfl

@[simp] theorem State.answer_setEau (p : Port) (r : Reply) (s : State) (x) :
    (s.setEau x).answer p r = (s.answer p r).setEau x := rfl

@[simp] theorem State.answer_setFeu (p : Port) (r : Reply) (s : State) (x) :
    (s.setFeu x).answer p r = (s.answer p r).setFeu x := rfl

@[simp] theorem State.answer_setSta (p : Port) (r : Reply) (s : State) (x) :
    (s.setSta x).answer p r = (s.answer p r).setSta x := rfl

@[simp] theorem State.answer_setSlg (p : Port) (r : Reply) (s : State) (x) :
    (s.setSlg x).answer p r = (s.answer p r).setSlg x := rfl

@[simp] theorem State.answer_setFmu (p : Port) (r : Reply) (s : State) (x) :
    (s.setFmu x).answer p r = (s.answer p r).setFmu x := rfl

@[simp] theorem State.answer_setPst (p : Port) (r : Reply) (s : State) (x) :
    (s.setPst x).answer p r = (s.answer p r).setPst x := rfl

@[simp] theorem State.answer_post (p q : Port) (r : Reply) (n : Notice) (s : State) :
    (s.post n q).answer p r = (s.answer p r).post n q := by
  cases p <;> cases q <;> rfl

@[simp] theorem State.answer_postAll (p : Port) (r : Reply) (n : Notice) (s : State) :
    (s.postAll n).answer p r = (s.answer p r).postAll n := by
  simp [State.postAll]

@[simp] theorem State.answer_postIf (c : Bool) (p q : Port) (r : Reply) (n : Notice) (s : State) :
    (s.postIf c n q).answer p r = (s.answer p r).postIf c n q := by
  cases c <;> simp [State.postIf]

/-- The slot after a reply. -/
@[simp] theorem State.answer_slot (p : Port) (r : Reply) (s : State) : ((s.answer p r).port p).slot = some r := by
  simp [State.answer]

/-- A command other than a read, on a ready port: carried out on the blocks as they are, its reply into the slot. -/
theorem State.takeWrite_eq (p : Port) (run : State → State × Reply) (s : State) :
    s.takeWrite p run = (run (s.beginTake p)).1.answer p (run (s.beginTake p)).2 := rfl

end Sys2Proof.Machine
end

