-- ==== Sys2Proof/Tests/Slice0.lean ====
section
/-! SUPPORT. Tests on small states, the expected values taken from the manual's worked examples and tables, and one witness theorem for
each statement that has hypotheses: concrete states and operands that meet them, clause by clause. -/

namespace Sys2Proof.Tests

open Sys2Proof Sys2Proof.Machine

-- One theorem at a time: a thread for each of them at once is more than the check's memory limit allows.
set_option Elab.async false

/-! ## States for the tests -/

/-- The state after a command. -/
def after (i : Instr) (s : State) : State :=
  match exec i s with
  | .next t => t
  | .fault _ => s
  | .refused _ => s

/-- The status waiting in a port's slot. -/
def told (p : Port) (s : State) : Option Status := (s.port p).slot.map Reply.status

/-- A channel entry of the LIMITS image with a role and a reagent. -/
def entry (limit : Nat) (role : Role) (reagent : Option Reagent) : ChannelLimits := ⟨limit, 1000, role, reagent, 600, 100⟩

/-- A LIMITS copy with the values of the worked examples. -/
def lim : Limits :=
  { o2ref := 1100, o2clamp := 1800, expected := 1800, minValid := 1200, minHalves := 6, capValid := 6, knee := 800, floor := 600
    recovery := 10, sampleStale := 60, tmin := 850, dwell := 10, tmax := 1250, tcold := 200, tempStale := 5, serial := 41
    channels := ⟨entry 100 .none none, entry 100 .none none, entry 500 .none none, entry 2000 .none none, entry 500 .firing none,
      entry 100 .none none⟩ }

/-- A PLANT copy with the values of the worked examples. -/
def plant : Plant :=
  { snom := 600, auxMax := 100, heatMax := 300, dumpCap := 300, grantRamp := 5, ram := ⟨1200, 800⟩, zone1 := ⟨600, 300⟩
    zone2 := ⟨900, 300⟩, zone3 := ⟨1500, 300⟩, grateMin := 200, steamStale := 10 }

/-- A TARIFF copy with the holiday list and the two slots of the band selection example. -/
def tariff : Tariff :=
  { working := (List.replicate 48 0).set 14 2 |>.set 37 3, holiday := (List.replicate 48 0).set 14 1 |>.set 37 2
    holidayCount := 3, holidayDays := [790, 812, 860] ++ List.replicate 13 0 }

/-- The image of `lim`. -/
def limitsImage : List Byte :=
  [4, 76, 7, 8, 7, 8, 4, 176, 6, 6, 3, 32, 2, 88, 10, 0, 60, 3, 82, 10, 4, 226, 0, 200, 5, 0, 41, 0, 100, 3, 232, 0, 0, 2, 88, 0,
   100, 0, 100, 3, 232, 0, 0, 2, 88, 0, 100, 1, 244, 3, 232, 0, 0, 2, 88, 0, 100, 7, 208, 3, 232, 0, 0, 2, 88, 0, 100, 1, 244, 3,
   232, 1, 0, 2, 88, 0, 100, 0, 100, 3, 232, 0, 0, 2, 88, 0, 100, 139, 37]

/-- The image of `tariff`. -/
def tariffImage : List Byte := tariffBody tariff ++ [250, 44]

/-- A store with all three sections VALID and in force. -/
def store : PermitStore :=
  { PermitStore.reset with
    limits := ⟨.valid, false, limitsImage⟩, plant := ⟨.valid, false, encodePlant plant⟩
    tariff := ⟨.valid, false, tariffImage⟩
    workingLimits := some lim, workingPlant := some plant, workingTariff := some tariff }

/-- The part after power-on with that store. -/
def stocked : State := { State.reset with pst := store }

/-- A running clock at a time. -/
def clockAt (day hour minute second : Nat) : Clock :=
  latch { Clock.reset with run := .running, divisor := 32768, offset := 3, time := ⟨day, hour, minute, second⟩ }

/-- The part with the clock running on day 812 at 14:28:45 and a period open. -/
def going : State :=
  let c := clockAt 812 14 28 45
  { stocked with clock := c, eau := { Emission.reset with cleaning := .available, period := some ⟨c.latched.period, false, false, some lim⟩ } }

/-- A stroke channel at its start in a mode. -/
def started (m : Mode) (ch : StrokeChannel) (r : StrokeRecord) : StrokeRecord :=
  if allowed m ch && !isRam ch then { r with state := .dwell, period := 705, limit := 300 }
  else if allowed m ch then { r with state := .wait } else r

/-- The same in a mode, each channel in DWELL where the mode lets it run, a request of 700 and no grant. -/
def inMode (m : Mode) : State :=
  { going with
    mode := { ModeCtl.reset with
      mode := m, burner := burnerFor m, feedArmed := m == .firing || m == .hold, temp := some 900, cleaning := .available
      trip := (if m = .tripped then some ⟨.reset, 1, 2, 255⟩ else none) }
    sta := { StrokeArray.reset with channels := StrokeArray.reset.channels.map (started m) }
    slg := { Ledger.reset with request := 700, stale := false, present := true, steam := 470, alloc := ⟨0, 0, 0, 470⟩, dumpOver := true }
    feu := retargeted m { Envelope.reset with request := 700 } }

/-- A state with one stroke channel's record replaced. -/
def withChannel (ch : StrokeChannel) (r : StrokeRecord) (s : State) : State :=
  s.setSta { s.sta with channels := s.sta.channels.set ch r }

/-- Both rams jammed and counted so by both blocks. -/
def ramsJammed (s : State) : State :=
  let jammed (ch : StrokeChannel) (r : StrokeRecord) : StrokeRecord := if isRam ch then { r with state := .jammed, jamCount := 1 } else r
  (s.setSta { s.sta with rams := 0, channels := s.sta.channels.map jammed }).setMode
    { s.mode with rams := 0, causes := if s.mode.mode = .hold then onlyNoFeed else .none }

/-! ## The images of the worked copies -/

/-- The CRC of limitsImage, in pieces of twenty bytes. -/
theorem limits_crc : crc16 (limitsImage.take 87) = 35621#16 := by
  have cut : limitsImage.take 87 = ((limitsImage.take 87).drop 0).take 20 ++ ((limitsImage.take 87).drop 20).take 20 ++ ((limitsImage.take 87).drop 40).take 20 ++ ((limitsImage.take 87).drop 60).take 20 ++ ((limitsImage.take 87).drop 80).take 20 := by decide +kernel
  have h0 : (((limitsImage.take 87).drop 0).take 20).foldl crcByte 0xFFFF#16 = 7580#16 := by decide +kernel
  have h1 : (((limitsImage.take 87).drop 20).take 20).foldl crcByte 7580#16 = 30438#16 := by decide +kernel
  have h2 : (((limitsImage.take 87).drop 40).take 20).foldl crcByte 30438#16 = 55292#16 := by decide +kernel
  have h3 : (((limitsImage.take 87).drop 60).take 20).foldl crcByte 55292#16 = 60948#16 := by decide +kernel
  have h4 : (((limitsImage.take 87).drop 80).take 20).foldl crcByte 60948#16 = 35621#16 := by decide +kernel
  rw [crc16, cut]
  simp only [List.foldl_append, h0, h1, h2, h3, h4]

/-- The image passes every check. -/
theorem limits_accepted : imageFault .limits limitsImage = none := by
  have len : limitsImage.length - 2 = 87 := by decide +kernel
  have ok : crcOk limitsImage = true := by rw [crcOk, len, limits_crc]; decide +kernel
  rw [imageFault, if_neg (by decide +kernel), if_pos ok]
  decide +kernel

/-- The image is that of its values. -/
theorem limits_encoded : encodeLimits lim = limitsImage := by
  have body : limitsBody lim = limitsImage.take 87 := by decide +kernel
  rw [encodeLimits, withCrc, body, limits_crc]
  decide +kernel

/-- The CRC of tariffImage, in pieces of twenty bytes. -/
theorem tariff_crc : crc16 (tariffImage.take 129) = 64044#16 := by
  have cut : tariffImage.take 129 = ((tariffImage.take 129).drop 0).take 20 ++ ((tariffImage.take 129).drop 20).take 20 ++ ((tariffImage.take 129).drop 40).take 20 ++ ((tariffImage.take 129).drop 60).take 20 ++ ((tariffImage.take 129).drop 80).take 20 ++ ((tariffImage.take 129).drop 100).take 20 ++ ((tariffImage.take 129).drop 120).take 20 := by decide +kernel
  have h0 : (((tariffImage.take 129).drop 0).take 20).foldl crcByte 0xFFFF#16 = 32248#16 := by decide +kernel
  have h1 : (((tariffImage.take 129).drop 20).take 20).foldl crcByte 32248#16 = 37994#16 := by decide +kernel
  have h2 : (((tariffImage.take 129).drop 40).take 20).foldl crcByte 37994#16 = 19083#16 := by decide +kernel
  have h3 : (((tariffImage.take 129).drop 60).take 20).foldl crcByte 19083#16 = 60276#16 := by decide +kernel
  have h4 : (((tariffImage.take 129).drop 80).take 20).foldl crcByte 60276#16 = 11571#16 := by decide +kernel
  have h5 : (((tariffImage.take 129).drop 100).take 20).foldl crcByte 11571#16 = 28156#16 := by decide +kernel
  have h6 : (((tariffImage.take 129).drop 120).take 20).foldl crcByte 28156#16 = 64044#16 := by decide +kernel
  rw [crc16, cut]
  simp only [List.foldl_append, h0, h1, h2, h3, h4, h5, h6]

/-- The image passes every check. -/
theorem tariff_accepted : imageFault .tariff tariffImage = none := by
  have len : tariffImage.length - 2 = 129 := by decide +kernel
  have ok : crcOk tariffImage = true := by rw [crcOk, len, tariff_crc]; decide +kernel
  rw [imageFault, if_neg (by decide +kernel), if_pos ok]
  decide +kernel

/-- The image is that of its values. -/
theorem tariff_encoded : encodeTariff tariff = tariffImage := by
  have body : tariffBody tariff = tariffImage.take 129 := by decide +kernel
  rw [encodeTariff, withCrc, body, tariff_crc]
  decide +kernel

/-- The store of the tests meets the store's law. -/
theorem store_lawful : PermitLaw store := by
  refine ⟨⟨by decide +kernel, fun _ => limits_accepted⟩, ⟨by decide +kernel, fun _ => by decide +kernel⟩,
    ⟨by decide +kernel, fun _ => tariff_accepted⟩, by decide +kernel, ?_, ?_, ?_⟩
  · intro l h
    obtain rfl : l = lim := by simpa [store, PermitStore.reset] using h
    show imageFault .limits (encodeLimits lim) = none
    rw [limits_encoded, limits_accepted]
  · intro q h
    obtain rfl : q = plant := by simpa [store, PermitStore.reset] using h
    decide +kernel
  · intro t h
    obtain rfl : t = tariff := by simpa [store, PermitStore.reset] using h
    show imageFault .tariff (encodeTariff tariff) = none
    rw [tariff_encoded, tariff_accepted]

/-! ## The frame and the encodings -/

/-- R164's check value. -/
theorem test_crc_check_value : crc16 [0x31, 0x32, 0x33, 0x34, 0x35, 0x36, 0x37, 0x38, 0x39] = 0x29B1#16 := by decide +kernel

/-- The frame of a two-entry sample set is 17 bytes (chapter 10, one exchange and one suspension). -/
theorem test_sample_frame_length :
    (commandFrame (.postSamples .pg 1250 0 [⟨1, 90, 1⟩, ⟨3, 1500, 0⟩])).length = 17 := by decide +kernel

/-- FETCH is a frame of five bytes (the same example). -/
theorem test_fetch_frame_length : (commandFrame (.fetch .pg)).length = 5 := by decide +kernel

/-- SET_TIME's code is 0x01 and its arguments stand in order, most significant byte first (R166, R167). -/
theorem test_set_time_bytes :
    (commandFrame (.setTime .pd 812 14 25 0 32768 3)).take 12 = [0x01, 0, 9, 0x03, 0x2C, 14, 25, 0, 0, 0x80, 0, 3] := by decide +kernel

/-- A frame whose CRC fails is BAD_CRC, one whose code is in no row is UNKNOWN_OP (R170). -/
theorem test_checks_in_order :
    checkFrame .pf (be 1 0x06 ++ be 2 0 ++ be 2 0) = .badCrc ∧ checkFrame .pf (withCrc [0x7F#8, 0, 0]) = .unknownOp
      ∧ checkFrame .pf (withCrc [0x06#8, 0, 1, 0]) = .badLen := by decide +kernel

/-- The six late bytes of the example begin a frame whose LEN is 1441, answered BAD_LEN. -/
theorem test_late_bytes_bad_len :
    told .pg (after (.badFrame .pg [0x01, 0x05, 0xA1, 0, 0, 0]) stocked) = some .badLen := by decide +kernel

/-- The six late bytes, where their LEN is 1024 or less, are suspended instead. -/
theorem test_late_bytes_suspended :
    ((after (.frameSuspend .pg [0x01, 0x04, 0x00, 0, 0, 0]) stocked).port .pg).suspended = true := by decide +kernel

/-! ## Well-formedness -/

/-- Ill-formed: a sample set of 256 entries, whose LEN would pass 1024. -/
theorem test_illformed_samples : (Instr.postSamples .pg 0 0 (List.replicate 256 ⟨0, 0, 0⟩)).wellFormed = false := by decide +kernel

/-- Ill-formed: a section image of 1024 bytes, which with the section number makes 1025 argument bytes. -/
theorem test_illformed_image : (Instr.programSection .pg 0 (List.replicate 1024 0)).wellFormed = false := by decide +kernel

/-- The longest that a frame carries is well formed. -/
theorem test_longest_wellformed :
    (Instr.postSamples .pg 0 0 (List.replicate 255 ⟨0, 0, 0⟩)).wellFormed = true
      ∧ (Instr.programSection .pg 0 (List.replicate 1023 0)).wellFormed = true := by decide +kernel

/-- The table gives no row bits, so no word spells a command. -/
theorem test_no_word_spells_a_command : decodeTableWord 16 0x0106 = none ∧ State.reset.withFetchWord 16 1 = State.reset := by
  decide +kernel

/-! ## The clock (the examples of chapter 01) -/

/-- The derived quantities of day 812, 14:28:45 with offset 3. -/
theorem test_derived_quantities :
    (clockAt 812 14 28 45).latched.weekday = 3 ∧ (clockAt 812 14 28 45).latched.period = 39004
      ∧ (clockAt 812 14 28 45).latched.minuteKey = 1170148 ∧ (clockAt 812 14 28 45).latched.remaining = 75 := by decide +kernel

/-- The remaining time is 1800 at a boundary and 1 in the last second before one. -/
theorem test_remaining_time_ends :
    (clockAt 812 14 30 0).latched.remaining = 1800 ∧ (clockAt 812 14 29 59).latched.remaining = 1 := by decide +kernel

/-- A stopped part whose newest record is period 39,004, closed partial. -/
def stoppedAfter39004 : State :=
  { stocked with eau := { Emission.reset with
    halfHours := [halfHourRecord ⟨39004, false, false, some lim⟩ accountsZero true] } }

/-- 14:25:00 is in the period already closed. -/
theorem test_start_clock_period_used :
    told .pd (after (.startClock .pd) (after (.setTime .pd 812 14 25 0 32768 3) stoppedAfter39004)) = some .periodUsed := by
  decide +kernel

/-- 14:30:00 is not: period 39,005 opens, partial. -/
theorem test_start_clock_opens_39005 :
    (after (.startClock .pd) (after (.setTime .pd 812 14 30 0 32768 3) stoppedAfter39004)).eau.period
      = some ⟨39005, false, true, some lim⟩ := by decide +kernel

/-- STOP_CLOCK closes period 39,004 as a partial record, the newest. -/
theorem test_stop_clock_closes :
    ((after (.stopClock .pd) going).eau.halfHours.map fun r => (r.period, r.isPart)) = [(39004, true)] := by decide +kernel

/-- A +20 step at 14:28:45 gives 14:29:05. -/
theorem test_adjust_clock_forward : (after (.adjustClock .pd 20) going).clock.time = ⟨812, 14, 29, 5⟩ := by decide +kernel

/-- The step across the boundary is refused. -/
theorem test_adjust_clock_boundary :
    told .pd (after (.adjustClock .pd 30) { going with clock := clockAt 812 14 29 45 }) = some .boundary := by decide +kernel

/-- An edge below the divisor is counted. -/
theorem test_refck_edge_counts : (after .refckEdge going).clock.scaler = 1 := by decide +kernel

/-- A lead above 1800 is refused. -/
theorem test_set_lead_range : told .pg (after (.setLead .pg 1801) going) = some .range := by decide +kernel

/-! ## The modes -/

/-- The trip record of PD's TRIP 17 at 10:02:13 on day 812 (chapter 02, a trip with further causes). -/
theorem test_trip_record :
    (after (.trip .pd 17) { inMode .firing with clock := clockAt 812 10 2 13 }).mode.trip
      = some ⟨.byPort .pd 17, 812, 36133, 0⟩ := by decide +kernel

/-- A post above Tmax in TRIPPED is one more cause, answered OK. -/
theorem test_overtemp_in_tripped :
    (after (.postTemperature .pf 1300) { inMode .tripped with
      mode := { (inMode .tripped).mode with trip := some ⟨.byPort .pd 17, 812, 36133, 0⟩ } }).mode.trip
      = some ⟨.byPort .pd 17, 812, 36133, 1⟩ := by decide +kernel

/-- CLEAR_TRIP with a fresh 1180 enters BURNOUT. -/
theorem test_clear_trip_to_burnout :
    (after (.clearTrip .pf) (after (.postTemperature .pf 1180) (inMode .tripped))).mode.mode = .burnout := by decide +kernel

/-- START enters WARMING with the burner requested; FEED arms. -/
theorem test_start_and_feed :
    (after (.start .pf) going).mode.burner = true ∧ (after (.feed .pf) (after (.start .pf) going)).mode.feedArmed = true := by
  decide +kernel

/-- STOP from HOLD enters BURNOUT. -/
theorem test_stop_from_hold : (after (.stop .pg) (inMode .hold)).mode.mode = .burnout := by decide +kernel

/-! ## The accounts (the examples of chapters 03 and 04) -/

/-- The normalised values of set 1 and of set 4. -/
theorem test_normalised_values :
    normalised lim 1250 300 = 353 ∧ normalised lim 1250 1500 = 1765 ∧ normalised lim 1250 25 = 29 ∧ normalised lim 1950 200 = 667 := by
  decide +kernel

/-- Set 1 into empty accounts. -/
theorem test_sample_set_one :
    let t := after (.postSamples .pg 1250 0 [⟨4, 300, 0⟩, ⟨3, 1500, 0⟩, ⟨1, 90, 1⟩, ⟨0, 25, 0⟩]) going
    t.eau.accounts.co.sum = 353 ∧ t.eau.accounts.hcl.cal = 1 ∧ t.eau.accounts.dust.sum = 29 := by decide +kernel

/-- Set 2 in the same second is TOO_SOON. -/
theorem test_sample_set_too_soon :
    told .pg (after (.postSamples .pg 1250 0 [⟨4, 300, 0⟩]) (after (.postSamples .pg 1250 0 [⟨4, 300, 0⟩]) going)) = some .tooSoon := by
  decide +kernel

/-- The closing averages of period 39,017. -/
theorem test_closing_averages :
    let acc (sum n : Nat) : Accumulator := { Accumulator.zero with sum := sum, valid := n }
    let r := halfHourRecord ⟨39017, true, false, some lim⟩
      ⟨acc 41300 1770, acc 66700 1150, acc 90440 1760, acc 2870400 1740, acc 1032750 1750, acc 0 0⟩ false
    r.channels.dust.average = some 23 ∧ r.channels.hcl.average = none ∧ r.channels.nox.average = some 1650
      ∧ r.channels.co.average = some 590 ∧ r.channels.co.exceeded = true ∧ r.channels.so2.exceeded = false := by decide +kernel

/-- A loss of cleaning holds the firing plant. -/
theorem test_cleaning_loss_holds : (after (.setCleaning .pg 0) (inMode .firing)).mode.causes = onlyCleaning := by decide +kernel

/-- A base demand above 1000 is clamped. -/
theorem test_reagents_clamped :
    told .pg (after (.setReagents .pg ⟨1, 1001⟩ ⟨1, 0⟩ ⟨0, 0⟩) going) = some .clamped
      ∧ (after (.setReagents .pg ⟨1, 1001⟩ ⟨1, 0⟩ ⟨0, 0⟩) going).eau.reagents.sorbent.base = 1000 := by decide +kernel

/-- CLEAR_HISTORY empties the ring. -/
theorem test_clear_history : (after (.clearHistory .pg) stoppedAfter39004).eau.halfHours = [] := by decide +kernel

/-! ## The envelope and the strokes (the examples of chapters 05 and 06) -/

/-- W = 800 and F = 600: a ratio of 900 gives 800, one of 999 gives 602. -/
theorem test_channel_cap : channelCap lim 900 = 800 ∧ channelCap lim 999 = 602 := by decide +kernel

/-- The boiler limit bounds the target. -/
theorem test_boiler_limit : (after (.setBoilerLimit .pf 40) (inMode .firing)).feu.target = 40 := by decide +kernel

/-- The lanes of a grant of 760 at a split of 560, and the eight periods. -/
theorem test_periods_from_one_grant :
    let s := { inMode .firing with sta := { (inMode .firing).sta with grant := 760 } }
    let t := after (.setLanes .pf 560 0 0) s
    t.sta.laneA = 851 ∧ t.sta.laneB = 668 ∧ t.sta.channels.ramA.period = 1410 ∧ t.sta.channels.ramB.period = 1796
      ∧ t.sta.channels.grateA2.preload = some 1058 ∧ t.sta.channels.grateB3.preload = some 2246 := by decide +kernel

/-- The example of rams below the cutoff: at a grant of 40 and a split of 560 the lanes are 44 and 35, nothing is written to the rams and the
grate has the periods of grate_min; at 45 RAM_A, waiting, is released under 24,000 su, and RAM_B stays. -/
theorem test_rams_below_the_cutoff :
    let b := inMode .firing
    let s := { b with feu := { b.feu with grant := 700 }, sta := { b.sta with split := 560, grant := 700, laneA := 784, laneB := 616 } }
    let run := withChannel .ramA { s.sta.channels.ramA with state := .dwell, period := 1410 } s
    let t := after (.setBoilerLimit .pf 40) run
    let u := takeGrant .firing (some plant) 45 (after (.setBoilerLimit .pf 40) s).sta
    t.sta.laneA = 44 ∧ t.sta.laneB = 35 ∧ t.sta.channels.ramA = run.sta.channels.ramA ∧ t.sta.channels.grateA1.preload = some 3000
      ∧ u.laneA = 50 ∧ u.laneB = 39 ∧ u.channels.ramA.state = .dwell ∧ u.channels.ramA.period = 24000
      ∧ u.channels.ramB.state = .wait := by decide +kernel

/-- The grate's periods outside FIRING, from grate_min alone. -/
theorem test_grate_periods_in_hold :
    let t := after (.setCleaning .pg 0) (inMode .firing)
    t.sta.channels.grateA1.preload = some 3000 ∧ t.sta.channels.grateB2.preload = some 4500
      ∧ t.sta.channels.grateA3.preload = some 7500 ∧ t.sta.channels.ramA.state = .off := by decide +kernel

/-- A grate channel's second failure jams it and trips the plant (R102). -/
theorem test_grate_jams_twice :
    let r := { StrokeRecord.reset with state := .stroke, period := 898, limit := 300, counter := 300, strokeCount := 41207 }
    let s := withChannel .grateB1 r (inMode .firing)
    (after (.strokeLimitExpiry .grateB1) s).sta.channels.grateB1.jamCount = 1
      ∧ (after (.strokeLimitExpiry .grateB1) (withChannel .grateB1 { r with jamCount := 1 } s)).mode.mode = .tripped := by decide +kernel

/-- An end of stroke is captured, counted, and clears the jam count (R99). -/
theorem test_eos_arrival :
    let r := { StrokeRecord.reset with state := .stroke, period := 898, limit := 300, counter := 250, jamCount := 1, strokeCount := 41207 }
    let t := after (.eosArrival .grateB1) (withChannel .grateB1 r (inMode .firing))
    t.sta.channels.grateB1.capture = 250 ∧ t.sta.channels.grateB1.strokeCount = 41208 ∧ t.sta.channels.grateB1.jamCount = 0 := by
  decide +kernel

/-- A period expiry starts the stroke; a tick counts the running channels. -/
theorem test_period_expiry_and_tick :
    (after (.periodExpiry .grateA1) (withChannel .grateA1 { (inMode .firing).sta.channels.grateA1 with counter := 705 }
        (inMode .firing))).sta.channels.grateA1.state = .stroke
      ∧ (after .strokeUnitTick (inMode .firing)).sta.channels.grateA1.counter = 1 := by decide +kernel

/-- CLEAR_JAM takes a jammed ram of a cold plant OFF; SET_CHANNEL refuses an unknown channel. -/
theorem test_clear_jam_and_set_channel :
    (after (.clearJam .pf 0) (ramsJammed (inMode .cold))).sta.channels.ramA.state = .off
      ∧ told .pf (after (.setChannel .pf 8 1 0 0) going) = some .range := by decide +kernel

/-- Without a PLANT copy Ls is 50, so the lowest fixed period is 60 (R112). -/
theorem test_set_channel_without_plant :
    let s := { going with pst := PermitStore.reset }
    told .pf (after (.setChannel .pf 0 1 1 59) s) = some .clamped
      ∧ (after (.setChannel .pf 0 1 1 59) s).sta.channels.ramA.fixedPeriod = 60
      ∧ told .pf (after (.setChannel .pf 0 1 1 60) s) = some .ok := by decide +kernel

/-! ## The ledger (the example of chapter 07) -/

/-- The example's start. -/
def ledgerStart : State :=
  let l := { Ledger.reset with
    steam := 540, present := true, stale := false, aux := 40, turbine := .available, extraction := .available
    active := some ⟨12, none, 0, 0, 380, 150, .powerFirst, 5⟩, powerTarget := 380, heatTarget := 150, powerSetpoint := 380
    heatSetpoint := 150, alloc := ⟨40, 380, 120, 0⟩, shortfall := 30, request := 950 }
  { going with slg := l, feu := retargeted .cold { Envelope.reset with request := 950 } }

/-- The loss of the turbine. -/
theorem test_turbine_loss :
    let t := after (.setConsumers .pd 0 1) ledgerStart
    t.slg.alloc = ⟨40, 0, 150, 350⟩ ∧ t.slg.request = 317 ∧ t.slg.dumpOver = true ∧ t.feu.request = 317 := by decide +kernel

/-- POST_STEAM 470 after it. -/
theorem test_post_steam_after_loss :
    let t := after (.postSteam .pf 470) (after (.setConsumers .pd 0 1) ledgerStart)
    t.slg.alloc = ⟨40, 0, 150, 280⟩ ∧ t.slg.dumpOver = false := by decide +kernel

/-- The auxiliary demand is clamped to the plant's maximum. -/
theorem test_aux_clamped : (after (.setAuxDemand .pf 101) ledgerStart).slg.aux = 100 := by decide +kernel

/-- An order record for a minute of day 812. -/
def orderAt (hour minute : Nat) : OrderArgs :=
  ⟨12, 1, 812, BitVec.ofNat 8 hour, BitVec.ofNat 8 minute, 380, 150, 0, 5⟩

/-- A one-shot order queues under its own minute's key, and CANCEL_ORDERS removes it. -/
theorem test_order_key_and_cancel :
    ((after (.postOrder .pd (orderAt 14 29)) going).slg.queue.map QueuedOrder.key) = [1170149]
      ∧ (after (.cancelOrders .pd 12) (after (.postOrder .pd (orderAt 14 29)) going)).slg.queue = [] := by decide +kernel

/-- The codes and ranges of R120 check 2 and R166: an order out of each of them is none, and a daily order's day is ignored. -/
theorem test_order_ranges :
    (∀ a ∈ [{ orderAt 14 29 with hour := 24 }, { orderAt 14 29 with minute := 60 }, { orderAt 14 29 with dayFlag := 2 },
        { orderAt 14 29 with priority := 2 }], Machine.orderOf a = none)
      ∧ Machine.orderOf { orderAt 23 59 with dayFlag := 0, priority := 1 } = some ⟨12, none, 23, 59, 380, 150, .heatFirst, 5⟩ := by
  decide +kernel

/-- An order for the current minute is active at once. -/
theorem test_order_active_at_once :
    ((after (.postOrder .pd (orderAt 14 28)) going).slg.active.map Order.tag) = some 12 := by decide +kernel

/-- The minute event 06:00 of the activation example: the daily order is active, and dropped, its next key being taken. -/
theorem test_daily_order_dropped :
    let o (tag hour minute : Nat) (day : Option Nat) : Order := ⟨tag, day, hour, minute, 380, 150, .powerFirst, 5⟩
    let t := ({ going with slg := { going.slg with queue :=
      [⟨1169640, o 7 6 0 none⟩, ⟨1169670, o 3 6 30 (some 812)⟩, ⟨1169700, o 7 7 0 none⟩, ⟨1171080, o 9 6 0 (some 813)⟩] } }).runActivation
        1169640
    t.slg.queue.map QueuedOrder.key = [1169670, 1169700, 1171080] ∧ t.slg.active.map Order.tag = some 7
      ∧ t.holds .pd .orderDropped = true ∧ t.holds .pd .orderActive = true := by decide +kernel

/-! ## The meters, the store and the ports -/

/-- The bands of the selection example. -/
theorem test_band_selection :
    (going.setClock (clockAt 811 18 41 6)).band = 3 ∧ (going.setClock (clockAt 812 18 41 6)).band = 2 := by decide +kernel

/-- 1500 Wh make one kilowatt-hour and a residue of 500. -/
theorem test_energy_residue :
    let t := after (.postEnergy .pd 1500 999) (after (.freshMeters .pd) going)
    t.fmu.exported.grand = 1 :: List.replicate 11 0 ∧ t.fmu.exported.residue = 500 ∧ t.fmu.heat.grand = zeroTotal := by decide +kernel

/-- The meters of the restore example before the restore (chapter 11). -/
def pendingMeters : Meters :=
  { Meters.reset with
    exported := { EnergyMeter.reset with waiting := ⟨0, 0, 1804250, 824380⟩ }
    heat := { EnergyMeter.reset with waiting := ⟨0, 0, 742300, 95110⟩ }
    waste := { WasteMeter.reset with waiting := 9600 } }

/-- The totals of the restore example. -/
def restoreArgs : MeterArgs :=
  ⟨0x410000, 0x220500, 0x130000, 0x95000, 0x855500, 0x600000, 0, 0x50000, 0x10000, 0x660000, 0x1207300⟩

/-- The restore example: the first attempt is a MISMATCH, the second folds band by band. -/
theorem test_restore_folds :
    let s := { going with fmu := pendingMeters }
    let t := after (.restoreMeters .pd restoreArgs) s
    told .pd (after (.restoreMeters .pd { restoreArgs with exportedGrand := 0x855050 }) s) = some .mismatch
      ∧ (t.fmu.exported.bands.toList ++ [t.fmu.exported.grand]).map totalValue = [410000, 220500, 131804, 95824, 858128]
      ∧ (t.fmu.heat.bands.toList ++ [t.fmu.heat.grand]).map totalValue = [600000, 0, 50742, 10095, 660837]
      ∧ (t.fmu.exported.residue, t.fmu.heat.residue, totalValue t.fmu.waste.grand) = (630, 410, 1216900)
      ∧ (t.port .pd).slot = some ⟨.ok, be 4 2628 ++ be 4 837 ++ be 4 9600 ++ be 2 630 ++ be 2 410 ++ be 1 0⟩ := by decide +kernel

/-- A packed total with a digit above 9 is refused by its index. -/
theorem test_restore_bad_digit :
    ((after (.restoreMeters .pd ⟨0, 0, 0xA, 0, 0, 0, 0, 0, 0, 0, 0⟩) going).port .pd).slot = some ⟨.badDigit, [2]⟩ := by decide +kernel

/-- Programming needs the latch; a completed cycle holds the image. -/
theorem test_programming_cycle :
    told .pf (after (.programSection .pf 1 (encodePlant plant)) stocked) = some .noLatch
      ∧ (after .programmingCompletion (after (.programSection .pf 1 (encodePlant { plant with auxMax := 99 }))
          (after (.enableWrite .pf) stocked))).pst.plant.image = encodePlant { plant with auxMax := 99 } := by decide +kernel

/-- A completed lock cycle sets the lock bit. -/
theorem test_lock_cycle :
    (after .lockCompletion (after (.lockSection .pf 1) (after (.enableWrite .pf) stocked))).pst.plant.lockBit = true := by decide +kernel

/-- The exchange of the example: the reply of POST_SAMPLES waits, FETCH moves it to the output buffer. -/
theorem test_fetch_moves_the_reply :
    let c := ((after (.fetch .pg) (after (.postSamples .pg 1250 0 [⟨4, 300, 0⟩]) going)).port .pg)
    c.slot = none ∧ c.output.map Reply.status = some .ok := by decide +kernel

/-- After a reset only RESET_SEEN is set; READ_NOTICES with clear empties the set. -/
theorem test_notices_read_and_cleared :
    (stocked.port .pf).notices = 1#16 ∧ ((after (.readNotices .pf false 1) stocked).port .pf).notices = 0#16 := by decide +kernel

/-- SET_QUIET keeps the mask; PORT_RESET drops the arm. -/
theorem test_quiet_and_port_reset :
    ((after (.setQuiet .pd 0x0222) stocked).port .pd).wakeMask = 0x0222#16
      ∧ ((after (.portReset .pd) (after (.readClock .pd true) stocked)).port .pd).arm = none := by decide +kernel

/-- A frame that its timer discards answers FRAME_TIMEOUT; one that CS breaks answers LINK_ERROR. -/
theorem test_timeout_and_link_error :
    told .pg (after (.frameTimeout .pg) (after (.frameSuspend .pg [0x01]) stocked)) = some .frameTimeout
      ∧ told .pg (after (.linkError .pg [0x01]) stocked) = some .linkError := by decide +kernel

/-- A history read with a count of 9 is refused and leaves the port disarmed. -/
theorem test_history_count_nine :
    told .pd (after (.readHistory .pd true 0 9) going) = some .range
      ∧ ((after (.readHistory .pd true 0 9) going).port .pd).arm = none := by decide +kernel

/-- A pin reset of a firing plant trips it and keeps the clock's time. -/
theorem test_pin_reset_trips :
    (after .pinReset (inMode .firing)).mode.mode = .tripped ∧ (after .pinReset (inMode .firing)).clock.time = ⟨812, 14, 28, 45⟩ := by
  decide +kernel

/-- An empty output buffer shifts out 0xFF; a FETCH of an empty slot makes it NO_REPLY, RLEN 0 (R168, R172). -/
theorem test_sdo :
    sdo (stocked.port .pf) 0 = 0xFF ∧ (List.range 3).map (sdo ((after (.fetch .pf) stocked).port .pf)) = [0x03, 0, 0]
      ∧ sdo ((after (.fetch .pf) stocked).port .pf) 5 = 0xFF := by decide +kernel

/-- The attention line follows the set in ACTIVE and the mask in QUIET (R181). -/
theorem test_attention :
    attention (stocked.port .pf) = true ∧ attention ((after (.setQuiet .pf 2) stocked).port .pf) = false
      ∧ attention ((after (.setQuiet .pf 1) stocked).port .pf) = true := by decide +kernel

/-! ## Witnesses for the statements: the link and the ports -/

/-- EveryRowCompletes: the empty queue. -/
theorem witness_EveryRowCompletes : State.reset.pending = [] ∧ step State.reset = .next State.reset := ⟨rfl, rfl⟩

/-- CommandFrameRoundTrip, at the longest frames. -/
theorem witness_CommandFrameRoundTrip :
    (Instr.postSamples .pg 0 0 (List.replicate 255 ⟨0, 0, 0⟩)).port? = some .pg
      ∧ (Instr.postSamples .pg 0 0 (List.replicate 255 ⟨0, 0, 0⟩)).wellFormed = true
      ∧ (Instr.programSection .pf 1 (List.replicate 1023 0)).port? = some .pf
      ∧ (Instr.programSection .pf 1 (List.replicate 1023 0)).wellFormed = true := by decide +kernel

/-- FrameSplitAnywhere, cut after the first byte and before the last. -/
theorem witness_FrameSplitAnywhere :
    let i := Instr.setLead .pg 1800
    i.port? = some .pg ∧ i.wellFormed = true ∧ Ready .pg stocked
      ∧ commandFrame i = (commandFrame i).take 1 ++ (commandFrame i).drop 1 ∧ (commandFrame i).take 1 ≠ []
      ∧ (commandFrame i).drop 1 ≠ [] ∧ (commandFrame i).drop 1 ≠ portResetFrame
      ∧ commandFrame i = (commandFrame i).take 6 ++ (commandFrame i).drop 6 ∧ (commandFrame i).drop 6 ≠ []
      ∧ (commandFrame i).drop 6 ≠ portResetFrame := by decide +kernel

/-- FrameDelimitedAndChecked: a frame for each answer, and the least LEN that cannot delimit one. -/
theorem witness_FrameDelimitedAndChecked :
    let complete (f : List Byte) (c : FrameCheck) : Bool := f.head? != some 0xFF#8 && frameState f == .complete f && checkFrame .pf f == c
    Ready .pf stocked ∧ complete (be 1 0x06 ++ be 2 0 ++ be 2 0) .badCrc = true ∧ complete (withCrc [0x7F#8, 0, 0]) .unknownOp = true
      ∧ complete (withCrc [0x06#8, 0, 1, 0]) .badLen = true ∧ complete (commandFrame (.fetch .pf)) (.command (.fetch .pf)) = true
      ∧ frameState [0x06, 4, 1] = .tooLong ∧ frameState [0x06, 4, 0] = .part [0x06, 4, 0] := by decide +kernel

/-- R167 and R170: the table has 47 codes, none twice; a read's code alone may carry 0x80; the lengths of POST_SAMPLES and PROGRAM_SECTION. -/
theorem test_frame_checks :
    (commandTable.map Prod.fst).length = 47 ∧ (commandTable.map Prod.fst).Nodup
      ∧ checkFrame .pf (withCrc [0x86, 0, 0]) = .command (.readClock .pf true) ∧ checkFrame .pf (withCrc [0x81, 0, 0]) = .unknownOp
      ∧ checkFrame .pg (withCrc [0x20, 0, 3, 0, 0, 0]) = .badLen ∧ checkFrame .pg (withCrc [0x20, 0, 4, 0, 0, 0, 1]) = .badLen
      ∧ checkFrame .pg (withCrc [0x49, 0, 0]) = .badLen := by decide +kernel

/-- A port with one byte of a frame suspended. -/
def suspended : State := after (.frameSuspend .pg [0x05]) stocked

/-- The part under reset. -/
def underReset : State := { stocked with rstnLow := true }

/-- A transaction under way at the release of RSTN. -/
def ignoringPg : State := stocked.setPort .pg { stocked.port .pg with csLow := true, ignoring := true }

/-- LinkEventsOfAFrame: the timer running and stopped; a frame begun and a frame joined; reset and ignored. -/
theorem witness_LinkEventsOfAFrame :
    (suspended.port .pg).timer = .running ∧ (stocked.port .pg).timer = .stopped
      ∧ (stocked.rstnLow = false ∧ (stocked.port .pg).ignoring = false
          ∧ frameState (joinBytes (stocked.port .pg).frame [0xFF, 0x05]) = .part [0x05] ∧ ([0xFF, 0x05] : List Byte) ≠ portResetFrame)
      ∧ (suspended.rstnLow = false ∧ (suspended.port .pg).ignoring = false
          ∧ frameState (joinBytes (suspended.port .pg).frame [0, 2, 7, 8, 1]) = .part [0x05, 0, 2, 7, 8, 1])
      ∧ underReset.rstnLow = true ∧ (ignoringPg.port .pg).ignoring = true
      ∧ (Instr.setLead .pg 5).port? = some .pg := by decide +kernel

/-- LinkEventsOfAFrame, a byte cut off with no frame begun, after a LEN above 1024, and after a complete frame: a command, a frame joined, one
with a bad CRC, an unknown OP and a wrong length. -/
theorem witness_LinkEventsOfAFrame_cut :
    (stocked.rstnLow = false ∧ (stocked.port .pg).ignoring = false ∧ (stocked.port .pg).frame = [])
      ∧ frameState (joinBytes [] [0xFF, 0xFF]) = .idle ∧ frameState (joinBytes [] [0x06, 4, 1, 9]) = .tooLong
      ∧ (∀ i ∈ [Instr.setLead .pg 5, .portReset .pg, .readClock .pg true],
          frameState (joinBytes [] (0xFF :: commandFrame i ++ [7])) = .complete (commandFrame i)
            ∧ checkFrame .pg (commandFrame i) = .command i)
      ∧ (suspended.rstnLow = false ∧ (suspended.port .pg).ignoring = false
          ∧ frameState (joinBytes (suspended.port .pg).frame ((commandFrame (.setLead .pg 5)).drop 1))
            = .complete (commandFrame (.setLead .pg 5)))
      ∧ frameState [0x06, 0, 0, 0, 0] = .complete [0x06, 0, 0, 0, 0] ∧ checkFrame .pg [0x06, 0, 0, 0, 0] = .badCrc
      ∧ frameState (withCrc [0x99, 0, 0]) = .complete (withCrc [0x99, 0, 0]) ∧ checkFrame .pg (withCrc [0x99, 0, 0]) = .unknownOp
      ∧ frameState (withCrc [0x06, 0, 1, 7]) = .complete (withCrc [0x06, 0, 1, 7])
      ∧ checkFrame .pg (withCrc [0x06, 0, 1, 7]) = .badLen := by decide +kernel

/-- R175: a byte cut off leaves the slot as it was where no frame is in progress, discards a frame begun with LINK_ERROR, and does not
disturb a complete frame or the BAD_LEN of a LEN above 1024. -/
theorem test_link_error :
    let cut (bytes : List Byte) := after (.linkError .pg bytes) (after (.setLead .pg 1801) stocked)
    told .pg (cut [0xFF]) = some .range ∧ told .pg (cut [0x05, 0]) = some .linkError ∧ told .pg (cut [0x06, 4, 1]) = some .badLen
      ∧ told .pg (cut (commandFrame (.setLead .pg 7) ++ [1])) = some .ok
      ∧ (cut (commandFrame (.setLead .pg 7) ++ [1])).clock.leads.pg = 7 := by decide +kernel

/-- FetchFillsTheOutputBuffer: a reply waiting, none and disarmed, none and armed. -/
theorem witness_FetchFillsTheOutputBuffer :
    let armed := after (.fetch .pg) (after (.readClock .pg true) stocked)
    let waiting := after (.readClock .pg true) stocked
    Ready .pg waiting ∧ (waiting.port .pg).slot.isSome = true
      ∧ Ready .pg stocked ∧ (stocked.port .pg).slot = none ∧ (stocked.port .pg).arm = none
      ∧ Ready .pg armed ∧ (armed.port .pg).slot = none ∧ (armed.port .pg).arm = some .clock := by decide +kernel

/-- FetchFillsTheOutputBuffer: read rows that are answered and refused, with the repeat flag and without. -/
theorem witness_FetchFillsTheOutputBuffer_reads :
    Ready .pg stocked ∧ (Instr.readClock .pg true).port? = some .pg ∧ asRead (.readClock .pg true) = some (.clock, true)
      ∧ asRead (.readHistory .pg true 0 9) = some (.history 0 9, true)
      ∧ (stocked.runRead .pg (.history 0 9)).2.status = .range ∧ asRead (.readNotices .pg false 1) = some (.notices 1, false) := by
  decide +kernel

/-- QuietAndPortReset, with a frame in progress for the second clause. -/
theorem witness_QuietAndPortReset :
    Ready .pg stocked ∧ suspended.rstnLow = false ∧ (suspended.port .pg).ignoring = false ∧ (suspended.port .pg).frame ≠ [] := by
  decide +kernel

/-- TakeLeavesTheReply: a read refused RANGE, one carried out, and a write. -/
theorem witness_TakeLeavesTheReply :
    Ready .pd going
      ∧ (∀ i ∈ [Instr.readHistory .pd true 0 9, .readHistory .pd true 0 8, .setLead .pd 0],
          i.port? = some .pd ∧ i ≠ .fetch .pd ∧ i ≠ .portReset .pd)
      ∧ (∀ m, Instr.readHistory .pd true 0 9 ≠ .setQuiet .pd m) ∧ (∀ m, Instr.setLead .pd 0 ≠ .setQuiet .pd m) := by
  refine ⟨by decide +kernel, by decide +kernel, ?_, ?_⟩ <;> (intro m h; cases h)

/-- OtherPortsOnlyGainNotices: PD's TRIP seen from PF. -/
theorem witness_OtherPortsOnlyGainNotices :
    isReset (.trip .pd 17) = false ∧ rowPort (.trip .pd 17) ≠ some .pf ∧ ∃ t, exec (.trip .pd 17) (inMode .firing) = .next t :=
  ⟨rfl, by decide, _, rfl⟩

/-- NotOwnerChangesNothing: PG sends START. -/
theorem witness_NotOwnerChangesNothing :
    (Instr.start .pg).port? = some .pg ∧ ownerOf (.start .pg) = some .pf ∧ Port.pg ≠ .pf ∧ Ready .pg going := by decide +kernel

/-- ReadsReturnTheState: the clear flag 0, 1 and 2; the codes 2 and 3 of a section and of a selector. -/
theorem witness_ReadsReturnTheState :
    Ready .pf going ∧ PermitSection.ofCode 2 = some .tariff ∧ selectorOf 2 = some .pending ∧ 2 < (3#8).toNat ∧ 2 ≤ (2#8).toNat := by
  decide +kernel

/-- A ring of two records of day 812. -/
def withHistory : State :=
  { going with eau := { going.eau with
    halfHours := [halfHourRecord ⟨39001, true, false, some lim⟩ accountsZero false, halfHourRecord ⟨39003, true, false, some lim⟩ accountsZero false]
    days := [dayRecord (some lim) 810 [], dayRecord (some lim) 811 []] } }

/-- HistoryReadsScanTheRing: empty and filled rings, at the ends of both arguments; 39,000 is below the oldest record, 39,001 is it. -/
theorem witness_HistoryReadsScanTheRing :
    Ready .pf going ∧ going.eau.halfHours = [] ∧ going.eau.days = [] ∧ (3145727#24).toNat ≤ 3145727 ∧ 3145727 < (3145728#24).toNat
      ∧ 1 ≤ (1#8).toNat ∧ (8#8).toNat ≤ 8 ∧ 8 < (9#8).toNat
      ∧ Ready .pf withHistory ∧ withHistory.eau.halfHours.head?.map HalfHourRecord.period = some 39001
      ∧ withHistory.eau.halfHours.getLast?.map HalfHourRecord.period = some 39003 ∧ (39000#24).toNat < 39001
      ∧ withHistory.eau.days.head?.map DayRecord.day = some 810 ∧ withHistory.eau.days.getLast?.map DayRecord.day = some 811 := by
  decide +kernel

/-- A state with one command waiting. -/
def waiting (i : Instr) (s : State) : State := { s with pending := [i] }

/-- PortsLawKept. -/
theorem witness_PortsLawKept :
    PortsLaw (waiting (.frameSuspend .pg [0, 2]) suspended) ∧ ∃ t, step (waiting (.frameSuspend .pg [0, 2]) suspended) = .next t :=
  ⟨by decide +kernel, _, rfl⟩

/-! ## Witnesses: the clock -/

/-- SetTimeAndSetLead: each branch at its boundary. -/
theorem witness_SetTimeAndSetLead :
    Ready .pg stocked ∧ Ready .pd stocked ∧ Ready .pd going ∧ going.clock.run = .running ∧ stocked.clock.run = .stopped
      ∧ (23#8).toNat ≤ 23 ∧ ¬ (24#8).toNat ≤ 23 ∧ (65536#24).toNat ≤ 65536 ∧ ¬ (65537#24).toNat ≤ 65536 ∧ ¬ 1 ≤ (0#24).toNat
      ∧ ¬ 1800 < (1800#16).toNat ∧ 1800 < (1801#16).toNat := by decide +kernel

/-- StartClockOpensAPeriod: running; in the period of the newest record; one period on, with an order due and with none. -/
theorem witness_StartClockOpensAPeriod :
    let used := after (.setTime .pd 812 14 29 59 0x8000 3) stoppedAfter39004
    let free := after (.setTime .pd 812 14 30 0 0x8000 3) stoppedAfter39004
    let due := { free with slg := { free.slg with queue := [⟨1170149, ⟨12, none, 14, 29, 380, 150, .powerFirst, 5⟩⟩] } }
    (Ready .pd going ∧ going.clock.run = .running)
      ∧ (Ready .pd used ∧ used.clock.run = .stopped ∧ used.eau.halfHours.getLast?.map HalfHourRecord.period = some 39004
          ∧ used.clock.latched.period ≤ 39004)
      ∧ (Ready .pd free ∧ free.clock.run = .stopped ∧ free.eau.halfHours.getLast?.map HalfHourRecord.period = some 39004
          ∧ 39004 < free.clock.latched.period ∧ StoppedIsCold free ∧ GrantLaw free ∧ (∀ q ∈ free.slg.queue, q.key < keyWrap)
          ∧ ∀ q ∈ free.slg.queue, minuteKeyOf free.clock.time < q.key)
      ∧ (Ready .pd due ∧ GrantLaw due ∧ (∀ q ∈ due.slg.queue, q.key < keyWrap)
          ∧ (due.slg.queue.filter fun q => q.key ≤ minuteKeyOf due.clock.time).getLast?.map QueuedOrder.key = some 1170149) := by
  decide +kernel

/-- An order under a key, daily or on a day. -/
def orderKeyed (key : Nat) (day : Option Nat) (hour minute : Nat) : QueuedOrder := ⟨key, ⟨12, day, hour, minute, 380, 150, .powerFirst, 5⟩⟩

/-- The part stopped at a loaded time with a queue. -/
def loadedAt (day hour minute : Nat) (queue : List QueuedOrder) : State :=
  { stocked with
    clock := latch { Clock.reset with divisor := 32768, offset := 3, time := ⟨day, hour, minute, 0⟩ }
    slg := { Ledger.reset with queue := queue } }

/-- StartClockOpensAPeriod, the clause on the queue: the loaded days 65,534 and 65,535 with a daily order past the wrap; an order due whose
next key is taken; two due with one next key; nothing due. -/
theorem witness_StartClockOpensAPeriod_queue :
    let past := [orderKeyed 94371838 (some 65535) 23 58, orderKeyed 94371840 none 0 0, orderKeyed 94372709 none 14 29]
    let taken := [orderKeyed 5189 none 14 29, orderKeyed 6629 (some 4) 14 29]
    let twice := [orderKeyed 3749 none 14 29, orderKeyed 5189 none 14 29]
    (∀ s ∈ [loadedAt 65534 0 0 past, loadedAt 65535 0 0 past, loadedAt 3 14 30 taken, loadedAt 3 14 30 twice, loadedAt 3 14 28 taken],
        Ready .pd s ∧ s.clock.run = .stopped ∧ s.eau.halfHours = [] ∧ QueueLaw s)
      ∧ ((broughtBack past).map QueuedOrder.key = [0, 869, 94371838])
      ∧ putBackBarred 5190 [orderKeyed 5189 none 14 29] [orderKeyed 6629 (some 4) 14 29] (orderKeyed 5189 none 14 29) 0 = true
      ∧ putBackBarred 5190 twice [] (orderKeyed 3749 none 14 29) 0 = false
      ∧ putBackBarred 5190 twice [] (orderKeyed 5189 none 14 29) 1 = true := by decide +kernel

/-- StartClockOpensAPeriod, the activation with a working PLANT copy under stale and under fresh steam, and without one. -/
theorem witness_StartClockOpensAPeriod_request :
    let s := loadedAt 3 14 30 [orderKeyed 5189 none 14 29]
    let fresh := { s with slg := { s.slg with stale := false } }
    let bare := { s with pst := PermitStore.reset }
    (∀ u ∈ [s, fresh, bare], Ready .pd u ∧ u.clock.run = .stopped ∧ u.eau.halfHours = [] ∧ QueueLaw u ∧ StoppedIsCold u ∧ GrantLaw u
        ∧ (∀ q ∈ u.slg.queue, q.key < keyWrap)
        ∧ (u.slg.queue.filter fun q => q.key ≤ minuteKeyOf u.clock.time).getLast? = some (orderKeyed 5189 none 14 29))
      ∧ s.pst.workingPlant = some plant ∧ s.slg.stale = true ∧ fresh.slg.stale = false ∧ bare.pst.workingPlant = none := by
  decide +kernel

/-- A half-hour's accounts in which CO is above its limit. -/
def overCo : PerPollutant Accumulator := { accountsZero with co := { Accumulator.zero with sum := 1032750, valid := 1750 } }

/-- StopClockClosesThePeriod: stopped, not COLD, and accepted; a closing record with an excess. -/
theorem witness_StopClockClosesThePeriod :
    (Ready .pd stocked ∧ stocked.clock.run = .stopped) ∧ (Ready .pd (inMode .burnout) ∧ (inMode .burnout).mode.mode ≠ .cold)
      ∧ (Ready .pd going ∧ going.clock.run = .running ∧ going.mode.mode = .cold ∧ going.eau.period = some ⟨39004, false, false, some lim⟩
          ∧ GrantLaw going)
      ∧ (halfHourRecord ⟨39004, true, false, some lim⟩ overCo true).anyExceeded = true := by decide +kernel

/-- A daily order for a minute of the 14th hour, under a key. -/
def queued (key minute : Nat) : QueuedOrder := ⟨key, ⟨12, none, 14, minute, 380, 150, .powerFirst, 5⟩⟩

/-- 14:29:29 with leads armed and an order for the next period, at the ends of a step of 30 seconds. -/
def at2929 : State :=
  { going with clock := { clockAt 812 14 29 29 with leads := ⟨0, 30, 1⟩ }, slg := { going.slg with queue := [queued 1170150 30] } }

/-- AdjustClockStaysInThePeriod: stopped; steps of 31 and -31; out of the period by one second; the ends of the range; leads passed over. -/
theorem witness_AdjustClockStaysInThePeriod :
    (Ready .pd stocked ∧ ClockLaw stocked.clock ∧ stocked.clock.run = .stopped)
      ∧ Ready .pd at2929 ∧ ClockLaw at2929.clock ∧ at2929.clock.run = .running
      ∧ 30 < (31#8).toInt ∧ (225#8).toInt < -30 ∧ (226#8).toInt = -30 ∧ (30#8).toInt = 30
      ∧ ((absoluteSecond at2929.clock.time : Int) + 30) / 1800 = (absoluteSecond at2929.clock.time / 1800 : Nat)
      ∧ ¬ ((absoluteSecond (clockAt 812 14 29 30).time : Int) + 30) / 1800 = (absoluteSecond (clockAt 812 14 29 30).time / 1800 : Nat)
      ∧ ((absoluteSecond at2929.clock.time : Int) + -30) / 1800 = (absoluteSecond at2929.clock.time / 1800 : Nat) := by decide +kernel

/-- The clauses of AdjustClockStaysInThePeriod on leads and on orders: none due, and one due at the minute entered. -/
theorem witness_AdjustClockStaysInThePeriod_leads_and_orders :
    (∀ p ∈ [Port.pg, .pd], 0 < at2929.clock.leads.get p ∧ 1 ≤ at2929.clock.leads.get p
        ∧ at2929.clock.leads.get p < remainingOf at2929.clock.time)
      ∧ (∀ q ∈ at2929.slg.queue, minuteKeyOf (clockAt 812 14 29 59).time < q.key)
      ∧ (Ready .pd { going with slg := { going.slg with queue := [queued 1170149 29] } } ∧ ClockLaw going.clock
          ∧ minuteKeyOf going.clock.time < minuteKeyOf (clockAt 812 14 29 5).time
          ∧ ([queued 1170149 29].filter fun q => q.key ≤ minuteKeyOf (clockAt 812 14 29 5).time).getLast? = some (queued 1170149 29)) := by
  decide +kernel

/-- AdjustClockStaysInThePeriod, the activation: the queue's law and a working PLANT copy. -/
theorem witness_AdjustClockStaysInThePeriod_activation :
    QueueLaw { going with slg := { going.slg with queue := [queued 1170149 29] } } ∧ going.pst.workingPlant = some plant := by
  decide +kernel

/-- RefckEdgeCountsOrWraps: stopped, one edge below the divisor, and at it. -/
theorem witness_RefckEdgeCountsOrWraps :
    stocked.clock.run = .stopped ∧ going.clock.run = .running ∧ going.clock.scaler + 1 < going.clock.divisor
      ∧ ({ going.clock with scaler := 32767 } : Clock).divisor ≤ ({ going.clock with scaler := 32767 } : Clock).scaler + 1 := by
  decide +kernel

/-- SecondEventAdvancesTheClock: stopped; running, with a lead met and one not. -/
theorem witness_SecondEventAdvancesTheClock :
    let s := { going with clock := { clockAt 65535 23 59 59 with leads := ⟨1800, 1799, 0⟩ } }
    stocked.clock.run = .stopped ∧ s.clock.run = .running ∧ TimeInRange s.clock.time
      ∧ 0 < s.clock.leads.get .pf ∧ s.clock.leads.get .pf = remainingOf (advance s.clock.time) := by decide +kernel

/-- SecondEventAdvancesTheClock: the steam age one and two short of its staleness value, the flag set, and no PLANT copy; setpoints
below, above and at their targets; a second inside a minute and the last of one with no order due. -/
theorem witness_SecondEventAdvancesTheClock_ledger :
    let o : Order := ⟨12, none, 14, 40, 380, 150, .powerFirst, 5⟩
    let aged (age : Nat) : State := { going with slg := { going.slg with stale := false, age := age } }
    let moving : State := { going with slg := { going.slg with
      active := some o, powerTarget := 380, powerSetpoint := 376, heatTarget := 150, heatSetpoint := 156, queue := [queued 1170150 30] } }
    (∀ pl ∈ (aged 9).pst.workingPlant.toList, pl.steamStale ≤ min 65535 ((aged 9).slg.age + 1))
      ∧ (∃ pl ∈ (aged 8).pst.workingPlant.toList, ¬ pl.steamStale ≤ min 65535 ((aged 8).slg.age + 1))
      ∧ (aged 9).slg.stale = false ∧ going.slg.stale = true ∧ PermitStore.reset.workingPlant = none
      ∧ moving.clock.run = .running ∧ TimeInRange moving.clock.time ∧ moving.clock.time.second < 59
      ∧ min 380 (376 + o.ramp) = 380 ∧ max 150 (156 - o.ramp) = 151
      ∧ minuteKeyOf (clockAt 812 14 28 59).time < minuteKeyOf (advance (clockAt 812 14 28 59).time)
      ∧ (∀ q ∈ moving.slg.queue, minuteKeyOf (advance (clockAt 812 14 28 59).time) < q.key) := by decide +kernel

/-- FiringSecondRaisesCapAndGrant, the ages one below their limits, the effective cap below the computed cap. -/
theorem witness_FiringSecondRaisesCapAndGrant :
    let b := inMode .firing
    let s := { b with
      mode := { b.mode with tempAge := 3 }, eau := { b.eau with sampleAge := 58 }
      feu := retargeted .firing { b.feu with effectiveCap := 600 } }
    s.clock.run = .running ∧ s.clock.time.second < 59 ∧ s.mode.mode = .firing ∧ s.pst.workingLimits = some lim
      ∧ s.pst.workingPlant = some plant ∧ s.mode.temp = some 900 ∧ min 65535 (s.mode.tempAge + 1) < lim.tempStale
      ∧ min 65535 (s.eau.sampleAge + 1) < lim.sampleStale ∧ GrantLaw s ∧ s.feu.effectiveCap < s.feu.computedCap ∧ ¬ s.feu.target ≤ s.feu.grant := by
  decide +kernel

/-- FiringSecondRaisesCapAndGrant: a ramp over the cutoff with a ram waiting; samples going stale at a request below F, and at one above it
with a grant that the cap cuts. -/
theorem witness_FiringSecondRaisesCapAndGrant_lanes :
    let b := inMode .firing
    let at' (request grant sampleAge : Nat) : State :=
      { b with
        eau := { b.eau with sampleAge := sampleAge }, slg := { b.slg with request := request }
        feu := { retargeted .firing { b.feu with request := request } with grant := grant }
        sta := withLanes { b.sta with grant := grant } }
    (∀ s ∈ [at' 700 48 0, at' 500 300 59, at' 700 650 59], GrantLaw s ∧ LaneLaw s.sta ∧ CapLaw s ∧ s.clock.run = .running
        ∧ s.mode.mode = .firing ∧ s.mode.temp = some 900 ∧ s.eau.staleInFiring = false)
      ∧ (at' 700 48 0).sta.channels.ramA.state = .wait ∧ rampedGrant (some plant) (at' 700 48 0).feu = 53
      ∧ min (at' 500 300 59).feu.request (at' 500 300 59).feu.boilerLimit ≤ lim.floor ∧ lim.floor < 650 := by decide +kernel

/-- FiringSecondRaisesCapAndGrant: the second at which the samples go stale, with the grant above F and below it; the second at which the
temperature goes stale, and no record; the condition already on. -/
theorem witness_FiringSecondRaisesCapAndGrant_stale :
    let b := inMode .firing
    let silent (grant : Nat) : State :=
      { b with eau := { b.eau with sampleAge := 59 }, feu := { b.feu with grant := grant }, sta := { b.sta with grant := grant } }
    let old := { b with mode := { b.mode with tempAge := 4 } }
    let on := { b with eau := { b.eau with sampleAge := 70, staleInFiring := true } }
    (∀ g ∈ [650, 300], (silent g).mode.temp = some 900 ∧ min 65535 ((silent g).mode.tempAge + 1) < lim.tempStale
        ∧ lim.sampleStale ≤ min 65535 ((silent g).eau.sampleAge + 1) ∧ (silent g).eau.staleInFiring = false ∧ CapLaw (silent g)
        ∧ GrantLaw (silent g) ∧ (silent g).pst.workingLimits = some lim ∧ (silent g).pst.workingPlant = some plant)
      ∧ GrantLaw old ∧ lim.tempStale ≤ min 65535 (old.mode.tempAge + 1) ∧ old.mode.mode = .firing
      ∧ ({ b with mode := { b.mode with temp := none } } : State).mode.temp = none
      ∧ GrantLaw on ∧ on.eau.staleInFiring = true ∧ ¬ min 65535 (on.eau.sampleAge + 1) < lim.sampleStale := by decide +kernel

/-- MinuteEventActivatesTheLastDue, with an order due at the new minute and one left for the next. -/
theorem witness_MinuteEventActivatesTheLastDue :
    let o (m : Nat) : Order := ⟨12, none, 14, m, 380, 150, .powerFirst, 5⟩
    let s := { going with clock := clockAt 812 14 28 59, slg := { going.slg with queue := [⟨1170149, o 29⟩, ⟨1170150, o 30⟩] } }
    s.clock.run = .running ∧ TimeInRange s.clock.time ∧ s.clock.time.second = 59
      ∧ minuteKeyOf s.clock.time < minuteKeyOf (advance s.clock.time) ∧ s.pst.workingPlant = some plant
      ∧ (s.slg.queue.filter fun q => q.key ≤ minuteKeyOf (advance s.clock.time)).getLast? = some ⟨1170149, o 29⟩
      ∧ ∃ q ∈ s.slg.queue, minuteKeyOf (advance s.clock.time) < q.key := by decide +kernel

/-- MinuteEventActivatesTheLastDue, the clause on the queue: the wrap of the day count with an order at the wrap and one after it, an
ordinary minute with a daily order due whose next key is taken, and a minute with none due. -/
theorem witness_MinuteEventActivatesTheLastDue_queue :
    let at' (c : Clock) (queue : List QueuedOrder) : State := { going with clock := c, slg := { going.slg with queue := queue } }
    let wrap := at' (clockAt 65535 23 59 59) [orderKeyed 94371840 none 0 0, orderKeyed 94371841 none 0 1]
    let due := at' (clockAt 812 14 28 59) [orderKeyed 1170149 none 14 29, orderKeyed 1171589 (some 813) 14 29]
    let none' := at' (clockAt 812 14 27 59) [orderKeyed 1170149 none 14 29]
    (∀ s ∈ [wrap, due, none'], s.clock.run = .running ∧ TimeInRange s.clock.time ∧ s.clock.time.second = 59 ∧ QueueLaw s)
      ∧ (advance wrap.clock.time).day = 0 ∧ (broughtBack wrap.slg.queue).map QueuedOrder.key = [0, 1]
      ∧ minuteKeyOf (advance wrap.clock.time) = 0 ∧ minuteKeyOf (advance due.clock.time) = 1170149
      ∧ minuteKeyOf (advance none'.clock.time) = 1170148 := by decide +kernel

/-- MinuteEventActivatesTheLastDue, the activation: stale steam, steam that stays fresh, steam that goes stale at this event, with setpoints
off their targets; and no PLANT copy. -/
theorem witness_MinuteEventActivatesTheLastDue_request :
    let at' (l : Ledger) : State := { going with clock := clockAt 812 14 28 59, slg := { l with queue := [orderKeyed 1170149 none 14 29] } }
    let stale := at' { ledgerStart.slg with stale := true, powerSetpoint := 200 }
    let fresh := at' { ledgerStart.slg with age := 8, powerSetpoint := 200 }
    let going' := at' { ledgerStart.slg with age := 9 }
    let bare := { fresh with pst := PermitStore.reset }
    (∀ s ∈ [stale, fresh, going', bare], s.clock.run = .running ∧ TimeInRange s.clock.time ∧ s.clock.time.second = 59 ∧ QueueLaw s
        ∧ minuteKeyOf s.clock.time < minuteKeyOf (advance s.clock.time)
        ∧ (s.slg.queue.filter fun q => q.key ≤ minuteKeyOf (advance s.clock.time)).getLast? = some (orderKeyed 1170149 none 14 29))
      ∧ (∀ s ∈ [stale, fresh, going'], s.pst.workingPlant = some plant) ∧ stale.slg.stale = true
      ∧ (fresh.slg.stale = false ∧ ¬ plant.steamStale ≤ min 65535 (fresh.slg.age + 1))
      ∧ (going'.slg.stale = false ∧ plant.steamStale ≤ min 65535 (going'.slg.age + 1)) ∧ bare.pst.workingPlant = none := by decide +kernel

/-- HalfHourBoundaryClosesAndOpens: a half-hour, midnight, and excesses of both records. -/
theorem witness_HalfHourBoundaryClosesAndOpens :
    let half := { inMode .firing with clock := clockAt 812 14 29 59, eau := { (inMode .firing).eau with accounts := overCo } }
    let night := { half with clock := clockAt 812 23 59 59, eau := { half.eau with period := some ⟨39023, true, false, some lim⟩ } }
    let copy := { lim with minHalves := 1, channels := { lim.channels with co := { lim.channels.co with dayLimit := 589 } } }
    (half.clock.run = .running ∧ TimeInRange half.clock.time ∧ half.clock.time.second = 59 ∧ half.clock.time.minute = 29
        ∧ half.eau.period = some ⟨39004, false, false, some lim⟩)
      ∧ (halfHourRecord ⟨39004, true, false, some lim⟩ half.eau.accounts false).anyExceeded = true
      ∧ (night.clock.run = .running ∧ TimeInRange night.clock.time ∧ night.clock.time.second = 59 ∧ night.clock.time.minute = 59
          ∧ night.clock.time.hour = 23 ∧ night.eau.period = some ⟨39023, true, false, some lim⟩)
      ∧ (dayRecord (some copy) 812 [halfHourRecord ⟨39023, true, false, some lim⟩ night.eau.accounts false]).anyExceeded = true := by
  decide +kernel

/-- ClockLawsKept. -/
theorem witness_ClockLawsKept :
    (∃ t, step (waiting (.setLead .pg 1800) going) = .next t) ∧ ClockLaw (waiting (.setLead .pg 1800) going).clock
      ∧ StoppedIsCold (waiting (.startClock .pd) stocked) ∧ ∃ t, step (waiting (.startClock .pd) stocked) = .next t :=
  ⟨⟨_, rfl⟩, by decide +kernel, by decide +kernel, ⟨_, rfl⟩⟩

/-! ## Witnesses: the plant mode -/

/-- A state with a changed mode controller. -/
def withMode (m : ModeCtl) (s : State) : State := s.setMode m

/-- StartEntersWarming: another port, accepted, NO_TIME, STATE outside COLD and without a copy. -/
theorem witness_StartEntersWarming :
    (Port.pg ≠ .pf ∧ Ready .pg going)
      ∧ (Ready .pf going ∧ going.mode.mode = .cold ∧ going.clock.run = .running ∧ going.pst.workingLimits.isSome = true
        ∧ going.pst.workingPlant.isSome = true ∧ GrantLaw going ∧ StrokeLaw going)
      ∧ (Ready .pf stocked ∧ stocked.mode.mode = .cold ∧ stocked.clock.run = .stopped)
      ∧ (Ready .pf (inMode .warming) ∧ (inMode .warming).mode.mode ≠ .cold)
      ∧ (Ready .pf { going with pst := PermitStore.reset } ∧ PermitStore.reset.workingLimits = none) := by decide +kernel

/-- A warming plant whose dwell is counted, its samples of an age. -/
def warm (age : Nat) : State :=
  let s := inMode .warming
  { s with mode := { s.mode with timer := 10, feedArmed := false }, eau := { s.eau with sampleAge := age } }

/-- FeedArmsAndFires: refused; armed with the dwell one second short; fired with samples one second fresh and just stale; a channel of
each kind. -/
theorem witness_FeedArmsAndFires :
    (Ready .pf going ∧ going.mode.mode ≠ .warming)
      ∧ (Ready .pf (warm 0) ∧ (warm 0).pst.workingLimits = some lim ∧ 9 < lim.dwell)
      ∧ (∀ age ∈ [59, 60], Ready .pf (warm age) ∧ (warm age).mode.mode = .warming ∧ lim.dwell ≤ (warm age).mode.timer
          ∧ (warm age).mode.cleaning = .available ∧ 1 ≤ (warm age).mode.rams ∧ GrantLaw (warm age) ∧ StrokeLaw (warm age))
      ∧ 59 < lim.sampleStale ∧ lim.sampleStale ≤ 60 ∧ (warm 60).eau.staleInFiring = false
      ∧ ((warm 0).sta.channels.get .grateA1).state ≠ .jammed ∧ ((warm 0).sta.channels.get .grateA1).enabled = true
      ∧ ((ramsJammed (warm 0)).sta.channels.get .ramA).state = .jammed := by decide +kernel

/-- FeedArmsAndFires at a second event: WARMING and HOLD, the dwell reached at that second and one short, the temperature going stale at it
and not, at Tmin and below it. -/
theorem witness_FeedArmsAndFires_second :
    let ready (m : Mode) (timer age temp : Nat) : State :=
      withMode { (inMode m).mode with timer := timer, tempAge := age, temp := some temp, feedArmed := true } (inMode m)
    (∀ m ∈ [Mode.warming, .hold], ∀ timer ∈ [8, 9], ∀ age ∈ [3, 4], ∀ temp ∈ [849, 850],
        let s := ready m timer age temp
        s.clock.run = .running ∧ s.clock.time.second < 59 ∧ s.pst.workingLimits = some lim ∧ s.mode.mode = m ∧ GrantLaw s)
      ∧ EntryMet (some lim) { (ready .warming 9 3 850).mode with tempAge := 4, timer := 10 }
      ∧ ¬ EntryMet (some lim) { (ready .warming 8 3 850).mode with tempAge := 4, timer := 9 }
      ∧ EntryMet (some lim) { (ready .hold 9 3 850).mode with tempAge := 4, timer := 10 }
      ∧ min 65535 (3 + 1) < lim.tempStale ∧ lim.tempStale ≤ min 65535 (4 + 1) ∧ lim.tmin ≤ 850 ∧ ¬ lim.tmin ≤ 849 := by decide +kernel

/-- A plant in a mode with a PLANT copy held, its aux max below the aux demand and its Snom below the power ordered. -/
def holdingPlant (m : Mode) : State :=
  let s := inMode m
  { s with
    pst := { s.pst with heldPlant := some { plant with auxMax := 30, snom := 300, dumpCap := 100 } }
    slg := { s.slg with
      aux := 40, turbine := .available, active := some ⟨12, none, 0, 0, 380, 150, .powerFirst, 5⟩, powerTarget := 380 } }

/-- StopEndsFeeding, TripTakesThePlantDown, PostTemperatureActsByMode and StrokeEvents: a PLANT copy held when the plant stops or trips. -/
theorem witness_HeldCopyReleased :
    (∀ m ∈ [Mode.firing, .hold], Ready .pf (holdingPlant m) ∧ (holdingPlant m).mode.mode = m ∧ GrantLaw (holdingPlant m)
        ∧ (holdingPlant m).pst.heldPlant.isSome = true ∧ (holdingPlant m).clock.run = .running)
      ∧ (∀ pl ∈ (holdingPlant .firing).pst.heldPlant.toList, pl.auxMax < (holdingPlant .firing).slg.aux
          ∧ pl.snom < (holdingPlant .firing).slg.powerTarget) := by decide +kernel

/-- StopEndsFeeding: the three modes it ends, the two it leaves, and TRIPPED. -/
theorem witness_StopEndsFeeding :
    (∀ m ∈ [Mode.warming, .firing, .hold], Ready .pd (inMode m) ∧ (inMode m).mode.mode = m ∧ GrantLaw (inMode m)
        ∧ (inMode m).pst.heldPlant = none)
      ∧ ∀ m ∈ [Mode.cold, .burnout, .tripped], Ready .pd (inMode m) ∧ (inMode m).mode.mode = m := by decide +kernel

/-- TripTakesThePlantDown: code 0, a stopped clock, one more cause at a count of 255, and a trip from COLD and from FIRING. -/
theorem witness_TripTakesThePlantDown :
    Ready .pg (inMode .tripped) ∧ (1#8) ≠ 0#8 ∧ (Ready .pg stocked ∧ stocked.clock.run = .stopped)
      ∧ ((inMode .tripped).clock.run = .running ∧ (inMode .tripped).mode.mode = .tripped
          ∧ (inMode .tripped).mode.trip = some ⟨.reset, 1, 2, 255⟩)
      ∧ ∀ m ∈ [Mode.cold, .firing], Ready .pg (inMode m) ∧ (inMode m).clock.run = .running ∧ (inMode m).mode.mode ≠ .tripped
          ∧ GrantLaw (inMode m) ∧ (inMode m).pst.heldPlant = none := by decide +kernel

/-- A tripped plant with a temperature of an age. -/
def trippedAt (temp : Option Nat) (age : Nat) : State :=
  withMode { (inMode .tripped).mode with temp := temp, tempAge := age } (inMode .tripped)

/-- ClearTripLeavesTripped: outside TRIPPED; a jammed grate channel; to BURNOUT at Tcold with an age of 4; to COLD at an age of 5, one below
Tcold, and with no record. -/
theorem witness_ClearTripLeavesTripped :
    (Ready .pf going ∧ going.mode.mode ≠ .tripped)
      ∧ (isRam .grateA1 = false
          ∧ ((withChannel .grateA1 { StrokeRecord.reset with state := .jammed } (inMode .tripped)).sta.channels.get .grateA1).state = .jammed)
      ∧ (∀ x ∈ [(some 200, 4), (some 200, 5), (some 199, 0), (none, 0)],
          Ready .pf (trippedAt x.1 x.2) ∧ (trippedAt x.1 x.2).mode.mode = .tripped ∧ GrantLaw (trippedAt x.1 x.2)
            ∧ StrokeLaw (trippedAt x.1 x.2) ∧ (trippedAt x.1 x.2).pst.heldPlant = none
            ∧ (∀ ch ∈ StrokeChannel.all, isRam ch = false → ((trippedAt x.1 x.2).sta.channels.get ch).state ≠ .jammed))
      ∧ 4 < lim.tempStale ∧ lim.tempStale ≤ 5 ∧ lim.tcold ≤ 200 ∧ 199 < lim.tcold
      ∧ (inMode .tripped).pst.workingLimits = some lim ∧ (inMode .tripped).pst.workingPlant = some plant := by decide +kernel

/-- PostTemperatureActsByMode: each mode, without a copy, and the values at and beside Tcold, Tmin, Tmax and the clamp. -/
theorem witness_PostTemperatureActsByMode :
    (Ready .pf { inMode .firing with pst := PermitStore.reset } ∧ PermitStore.reset.workingLimits = none)
      ∧ (∀ m ∈ [Mode.cold, .warming, .firing, .hold, .burnout, .tripped],
          Ready .pf (inMode m) ∧ (inMode m).mode.mode = m ∧ (inMode m).pst.workingLimits = some lim ∧ GrantLaw (inMode m)
            ∧ (inMode m).pst.heldPlant = none ∧ (inMode m).mode.timer < lim.dwell)
      ∧ 1 ≤ lim.dwell ∧ (inMode .tripped).mode.trip = some ⟨.reset, 1, 2, 255⟩
      ∧ min 1999 (1250#16).toNat ≤ lim.tmax ∧ lim.tmax < min 1999 (1251#16).toNat
      ∧ lim.tmin ≤ min 1999 (850#16).toNat ∧ min 1999 (849#16).toNat < lim.tmin
      ∧ lim.tcold ≤ min 1999 (200#16).toNat ∧ min 1999 (199#16).toNat < lim.tcold ∧ 1999 < (2000#16).toNat := by decide +kernel

/-- A warming plant, its feed armed and its dwell counted. -/
def armed : State := withMode { (warm 0).mode with feedArmed := true } (warm 0)

/-- A plant held for a low temperature alone, its dwell counted. -/
def heldLow : State := withMode { (inMode .hold).mode with timer := 10, causes := onlyLowTemp } (inMode .hold)

/-- PostTemperatureActsByMode, the clause on the entry check. -/
theorem witness_PostTemperatureActsByMode_entry :
    (∀ s ∈ [armed, heldLow], Ready .pf s ∧ s.pst.workingLimits = some lim ∧ GrantLaw s ∧ StrokeLaw s)
      ∧ armed.mode.mode = .warming ∧ heldLow.mode.mode = .hold ∧ min 1999 (850#16).toNat ≤ lim.tmax := by decide +kernel

/-- The entry check met at a post of Tmin, and not at one below it. -/
theorem witness_PostTemperatureActsByMode_met :
    (EntryMet (some lim) { armed.mode with temp := some 850, tempAge := 0 }
        ∧ ¬ EntryMet (some lim) { armed.mode with temp := some 849, tempAge := 0, timer := 0 })
      ∧ EntryMet (some lim) { heldLow.mode with causes := .none } ∧ ¬ EntryMet (some lim) heldLow.mode := by decide +kernel

/-- ModeAndInterlockKept. -/
theorem witness_ModeAndInterlockKept :
    (∃ t, step (waiting (.stop .pd) (inMode .firing)) = .next t) ∧ ModeLaw (waiting (.stop .pd) (inMode .firing)).mode
      ∧ InterlockLaw (waiting (.stop .pd) (inMode .firing)) ∧ InterlockLaw (ramsJammed (inMode .hold)) :=
  ⟨⟨_, rfl⟩, by decide +kernel, by decide +kernel, by decide +kernel⟩

/-! ## Witnesses: the accounts -/

/-- The entries of the example's first set. -/
def setOne : List SampleEntry := [⟨4, 300, 0⟩, ⟨3, 1500, 0⟩, ⟨1, 90, 1⟩, ⟨0, 25, 0⟩]

/-- SamplesJoinTheAccounts, at one entry and at six. -/
theorem witness_SamplesJoinTheAccounts :
    let six := (List.range 6).map fun k => (⟨BitVec.ofNat 8 k, 300, 0⟩ : SampleEntry)
    Ready .pg going ∧ going.clock.run = .running ∧ going.periodCopy = some lim ∧ going.eau.marker ≠ some going.clock.latched.time
      ∧ GrantLaw going
      ∧ ∀ es ∈ [six, six.take 1, setOne], 1 ≤ es.length ∧ es.length ≤ 6
          ∧ ∀ x ∈ (sampleSetOf 2100 0 es).toList, (x.entries.map Sample.channel).Nodup ∧ x.entries.length = es.length := by decide +kernel

/-- SamplesJoinTheAccounts: a value of 999,999 and one above it; room for the last addition and none; the O2 value at the clamp and above;
an entry and an oxygen reading that are not valid. -/
theorem witness_SamplesJoinTheAccounts_values :
    let copy := { lim with o2ref := 0, o2clamp := 2000 }
    let quotient (raw : Nat) := (raw * 2100 + 50) / 100
    quotient 47619 = 999999 ∧ 999999 < quotient 47620 ∧ normalised copy 2000 47620 = 999999
      ∧ (4293967296 + 999999 ≤ 4294967295 ∧ ¬ 4293967297 + 999999 ≤ 4294967295 ∧ 65534 < 65535)
      ∧ ¬ lim.o2clamp < 1800 ∧ lim.o2clamp < 1801
      ∧ (sampleSetOf 1800 3 setOne).isSome = true ∧ (sampleSetOf 1800 0 [⟨4, 300, 2⟩]).isSome = true := by decide +kernel

/-- RefusedSamplesChangeNothing: no entry, seven, a value out of range; a channel twice; stopped; no copy; the same second. -/
theorem witness_RefusedSamplesChangeNothing :
    let twice : List SampleEntry := [⟨4, 300, 0⟩, ⟨4, 300, 0⟩]
    let noCopy := { going with eau := { going.eau with period := some ⟨39004, false, false, none⟩ } }
    let marked := { going with eau := { going.eau with marker := some ⟨812, 14, 28, 45⟩ } }
    Ready .pg going ∧ ([] : List SampleEntry).length = 0 ∧ 6 < (List.replicate 7 (⟨4, 300, 0⟩ : SampleEntry)).length
      ∧ sampleSetOf 2101 0 setOne = none
      ∧ ((sampleSetOf 1250 0 twice).map fun x => decide ((x.entries.map Sample.channel).Nodup)) = some false
      ∧ ((sampleSetOf 1250 0 setOne).map fun x => decide ((x.entries.map Sample.channel).Nodup)) = some true
      ∧ (Ready .pg stocked ∧ stocked.clock.run = .stopped) ∧ (Ready .pg noCopy ∧ noCopy.clock.run = .running ∧ noCopy.periodCopy = none)
      ∧ (Ready .pg marked ∧ marked.periodCopy = some lim ∧ marked.eau.marker = some marked.clock.latched.time) := by decide +kernel

/-- RefusedSamplesChangeNothing: the ends of the four ranges of a set. -/
theorem witness_RefusedSamplesChangeNothing_ranges :
    (sampleSetOf 2100 3 [⟨5, 65535, 3⟩]).isSome = true ∧ sampleSetOf 2101 3 [⟨5, 0, 3⟩] = none ∧ sampleSetOf 2100 4 [⟨5, 0, 3⟩] = none
      ∧ sampleSetOf 2100 3 [⟨6, 0, 3⟩] = none ∧ sampleSetOf 2100 3 [⟨5, 0, 4⟩] = none := by decide +kernel

/-- NormalisationRoundsHalfUp: the example's copy; a value that saturates. -/
theorem witness_NormalisationRoundsHalfUp :
    lim.o2ref ≤ 2000 ∧ lim.o2clamp ≤ 2000 ∧ ({ lim with o2ref := 0, o2clamp := 2000 } : Limits).o2clamp ≤ 2000
      ∧ normalised { lim with o2ref := 0, o2clamp := 2000 } 2000 65535 = 999999 ∧ normalised lim 1250 300 < 999999 := by decide +kernel

/-- RecordsAverageAndRingsTurn: V and M met and one short, no copy, a ring with room and a full one. -/
theorem witness_RecordsAverageAndRingsTurn :
    let fired := halfHourRecord ⟨39004, true, false, some lim⟩ overCo false
    1 ≤ lim.minValid ∧ ({ Accumulator.zero with valid := 1199 } : Accumulator).valid < lim.minValid ∧ lim.minValid ≤ 1200
      ∧ (⟨39004, true, false, none⟩ : OpenPeriod).copy = none ∧ 1 ≤ lim.minHalves
      ∧ ((List.replicate 5 fired).filterMap fun x => if x.fired then (x.channels.get .co).average else none).length < lim.minHalves
      ∧ lim.minHalves ≤ ((List.replicate 6 fired).filterMap fun x => if x.fired then (x.channels.get .co).average else none).length
      ∧ (List.replicate 47 fired).length < 48 ∧ (List.replicate 48 fired).length = 48 := by decide +kernel

/-- SetCleaningMovesTheInterlock: the codes 1 and 2; a repeat; the loss and the return in each mode, the held plant with another cause and
with none. -/
theorem witness_SetCleaningMovesTheInterlock :
    let lost (s : State) : State := { s with eau := { s.eau with cleaning := .unavailable }, mode := { s.mode with cleaning := .unavailable } }
    let held (c : HoldCauses) : State := lost (withMode { (inMode .hold).mode with timer := 10, causes := c } (inMode .hold))
    2 ≤ (2#8).toNat ∧ Availability.ofCode 0 = some .unavailable ∧ Availability.ofCode 1 = some .available
      ∧ (∀ m ∈ [Mode.cold, .warming, .firing, .hold, .burnout, .tripped],
          Ready .pg (inMode m) ∧ (inMode m).mode.mode = m ∧ (inMode m).eau.cleaning = .available ∧ GrantLaw (inMode m))
      ∧ (lost (warm 0)).mode.feedArmed = false ∧ (lost (warm 0)).eau.cleaning = .unavailable
      ∧ (Ready .pg (held onlyLowTemp) ∧ (held onlyLowTemp).mode.causes.lowTemp = true ∧ (held onlyLowTemp).eau.cleaning = .unavailable)
      ∧ (Ready .pg (held onlyCleaning) ∧ (held onlyCleaning).mode.mode = .hold ∧ (held onlyCleaning).pst.workingLimits = some lim
          ∧ lim.dwell ≤ (held onlyCleaning).mode.timer ∧ (held onlyCleaning).mode.causes.lowTemp = false
          ∧ (held onlyCleaning).mode.causes.tempStale = false ∧ (held onlyCleaning).mode.causes.noFeed = false
          ∧ GrantLaw (held onlyCleaning) ∧ (held onlyCleaning).eau.cleaning = .unavailable) := by decide +kernel

/-- SetCleaningMovesTheInterlock, a return of cleaning: WARMING with the feed armed and the dwell counted; HOLD with no other cause, the
dwell counted and one second short; COLD. -/
theorem witness_SetCleaningMovesTheInterlock_return :
    let lost (m : ModeCtl) (s : State) : State :=
      { s with eau := { s.eau with cleaning := .unavailable }, mode := { m with cleaning := .unavailable } }
    let armed := lost armed.mode armed
    let held (timer : Nat) := lost { (inMode .hold).mode with timer := timer, causes := onlyCleaning } (inMode .hold)
    (∀ s ∈ [armed, held 9, held 10, lost (inMode .cold).mode (inMode .cold)], Ready .pg s ∧ Availability.available ≠ s.eau.cleaning
        ∧ GrantLaw s ∧ StrokeLaw s)
      ∧ EntryMet (some lim) { armed.mode with cleaning := .available }
      ∧ EntryMet (some lim) { (held 10).mode with cleaning := .available, causes := .none }
      ∧ ¬ EntryMet (some lim) { (held 9).mode with cleaning := .available, causes := .none } := by decide +kernel

/-- SetReagentsRecomputes: a code out of its list, and codes in it with base demands of 1000 and 1001. -/
theorem witness_SetReagentsRecomputes :
    Ready .pg going ∧ 2 ≤ (⟨2, 0⟩ : ReagentArgs).availability.toNat
      ∧ Availability.ofCode (⟨1, 1000⟩ : ReagentArgs).availability = some .available
      ∧ Availability.ofCode (⟨0, 1001⟩ : ReagentArgs).availability = some .unavailable ∧ GrantLaw going ∧ 1000 < (1001#16).toNat := by
  decide +kernel

/-- ClearHistoryEmptiesTheRings: another port, a running clock, and accepted. -/
theorem witness_ClearHistoryEmptiesTheRings :
    Ready .pd stoppedAfter39004 ∧ Ready .pg going ∧ going.clock.run = .running ∧ Ready .pg stoppedAfter39004
      ∧ stoppedAfter39004.clock.run = .stopped := by decide +kernel

/-- EmissionLawKept. -/
theorem witness_EmissionLawKept :
    let s := waiting (.postSamples .pg 1250 0 setOne) going
    ClockLaw s.clock ∧ EmissionLaw s ∧ ∃ t, step s = .next t := ⟨by decide +kernel, by decide +kernel, _, rfl⟩

/-! ## Witnesses: the envelope and the strokes -/

/-- ChannelCapFallsFromKneeToFloor: the ends of its three ranges; a channel that takes part, at Nc, and one that does not. -/
theorem witness_ChannelCapFallsFromKneeToFloor :
    lim.knee ≤ 950 ∧ lim.floor ≤ 1000 ∧ ({ lim with knee := 950, floor := 1000 } : Limits).knee ≤ 950 ∧ 800 ≤ lim.knee ∧ lim.knee < 801
      ∧ 999 < 1000
      ∧ (capFigure (some lim) { Emission.reset with accounts := { overCo with co := { overCo.co with valid := 6 } } } .co).takesPart = true
      ∧ (capFigure (some lim) { Emission.reset with accounts := { overCo with co := { overCo.co with valid := 5 } } } .co).takesPart = false := by decide +kernel

/-- SetBoilerLimitRetargets: another port; FIRING and COLD; the limiting flag rising, and the grant at the target. -/
theorem witness_SetBoilerLimitRetargets :
    let s := inMode .firing
    let capped := { s with feu := { retargeted .firing { s.feu with boilerLimit := 500, effectiveCap := 600 } with grant := 0 } }
    Port.pd ≠ .pf ∧ Ready .pd s ∧ Ready .pf s ∧ GrantLaw s ∧ Ready .pf going ∧ GrantLaw going ∧ s.feu.grant ≤ 700
      ∧ Ready .pf capped ∧ GrantLaw capped ∧ capped.feu.limiting = false
      ∧ limitingFlag .firing { capped.feu with boilerLimit := 1000 } = true ∧ 1000 < (1001#16).toNat := by decide +kernel

/-- CapAndFiguresKept. -/
theorem witness_CapAndFiguresKept :
    let s := waiting (.postSamples .pg 1250 0 setOne) going
    PermitLaw s.pst ∧ CapLaw s ∧ FormedLaw s ∧ ∃ t, step s = .next t :=
  ⟨store_lawful, by decide +kernel, by decide +kernel, _, rfl⟩

/-- CapAndFiguresKept, the clauses on the figures: the stale condition on; a computed cap below 1000 with its channel, and 1000; a reagent
that serves one of two channels of one ratio, the lower id, and a reagent that serves none. -/
theorem witness_CapAndFiguresKept_figures :
    let e := { Emission.reset with accounts := overCo }
    let dosed := { lim with channels := { lim.channels with
      hcl := { lim.channels.hcl with role := .dosing, reagent := some .sorbent, limit := 500 }
      so2 := { lim.channels.so2 with role := .dosing, reagent := some .sorbent } } }
    let two := { Emission.reset with accounts := { overCo with hcl := overCo.co, so2 := overCo.co } }
    ({ e with staleInFiring := true } : Emission).staleInFiring = true ∧ e.staleInFiring = false
      ∧ computedCapOf (some lim) e < 1000 ∧ (capFigure (some lim) e .co).takesPart = true
      ∧ (capFigure (some lim) e .co).cap = computedCapOf (some lim) e ∧ computedCapOf (some lim) Emission.reset = 1000
      ∧ (dosed.channels.get .hcl).role = .dosing ∧ (dosed.channels.get .so2).reagent = some .sorbent
      ∧ (capFigure (some dosed) two .hcl).ratio = (capFigure (some dosed) two .so2).ratio ∧ 1 ≤ two.accounts.hcl.valid
      ∧ (lim.channels.get .co).reagent = none := by decide +kernel

/-- GrantLawKept. -/
theorem witness_GrantLawKept :
    let s := waiting (.setBoilerLimit .pf 40) (inMode .firing)
    GrantLaw s ∧ LaneLaw s.sta ∧ ∃ t, step s = .next t := ⟨by decide +kernel, by decide +kernel, _, rfl⟩

/-- A firing plant with one channel in a state, its counter at a value. -/
def firingWith (ch : StrokeChannel) (st : ChannelState) (counter jams : Nat) : State :=
  withChannel ch { (inMode .firing).sta.channels.get ch with state := st, counter := counter, period := 705, limit := 300, jamCount := jams }
    (inMode .firing)

/-- A firing plant whose other ram is jammed. -/
def lastRam : State :=
  let s := withChannel .ramB { StrokeRecord.reset with state := .jammed, jamCount := 1 } (firingWith .ramA .stroke 300 0)
  (s.setSta { s.sta with rams := 1 }).setMode { s.mode with rams := 1 }

/-- StrokeEvents at a period expiry: a ram that must wait, a grate channel, and one unit before the expiry. -/
theorem witness_StrokeEvents_period :
    let ram := firingWith .ramA .dwell 705 0
    let grate := firingWith .grateA1 .dwell 705 0
    ((ram.sta.channels.get .ramA).state = .dwell ∧ (ram.sta.channels.get .ramA).period ≤ 705
        ∧ isRam .ramA = true ∧ (ram.sta.channels.get .ramA).source = .auto ∧ laneGrant ram.sta .ramA < 50)
      ∧ ((grate.sta.channels.get .grateA1).state = .dwell ∧ isRam .grateA1 = false ∧ grate.pst.workingPlant = some plant)
      ∧ ((firingWith .grateA1 .dwell 704 0).sta.channels.get .grateA1).counter < 705
      ∧ ((firingWith .grateA1 .stroke 299 0).sta.channels.get .grateA1).counter < 300
      ∧ (inMode .cold).sta.channels.get .grateA1 = StrokeRecord.reset := by decide +kernel

/-- StrokeEvents at a stroke limit expiry: the other ram feed-capable and not; a grate channel's first and second failure. -/
theorem witness_StrokeEvents_limit :
    let one := firingWith .ramA .stroke 300 0
    ((one.sta.channels.get .ramA).state = .stroke ∧ (one.sta.channels.get .ramA).limit ≤ 300 ∧ InterlockLaw one
        ∧ feedCapable (one.sta.channels.get .ramB) = true)
      ∧ ((lastRam.sta.channels.get .ramA).state = .stroke ∧ (lastRam.sta.channels.get .ramA).enabled = true ∧ lastRam.mode.mode = .firing
          ∧ InterlockLaw lastRam ∧ GrantLaw lastRam ∧ feedCapable (lastRam.sta.channels.get .ramB) = false)
      ∧ ∀ jams ∈ [0, 1], let s := firingWith .grateB1 .stroke 300 jams
          (s.sta.channels.get .grateB1).state = .stroke ∧ (s.sta.channels.get .grateB1).limit ≤ (s.sta.channels.get .grateB1).counter
            ∧ isRam .grateB1 = false ∧ (s.sta.channels.get .grateB1).jamCount = jams ∧ s.mode.mode = .firing ∧ GrantLaw s
            ∧ s.pst.heldPlant = none := by decide +kernel

/-- A ram's stroke while the WASTE total stands at its last value. -/
def wasteFull : State :=
  (firingWith .ramA .stroke 299 0).setFmu
    { Meters.reset with state := .running, waste := { WasteMeter.reset with grand := List.replicate 12 9 } }

/-- StrokeEvents at an EOS arrival: outside STROKE; the meters UNSET; RUNNING, a total that wraps with the largest mass. -/
theorem witness_StrokeEvents_eos :
    (going.sta.channels.get .ramA).state ≠ .stroke
      ∧ (((firingWith .ramA .stroke 299 0).sta.channels.get .ramA).state = .stroke ∧ isRam .ramA = true
          ∧ (firingWith .ramA .stroke 299 0).fmu.state = .unset)
      ∧ ((wasteFull.sta.channels.get .ramA).state = .stroke ∧ wasteFull.fmu.state = .running ∧ TotalLaw wasteFull.fmu.waste.grand
          ∧ 1000000000000 ≤ totalValue wasteFull.fmu.waste.grand + 2000) :=
  ⟨by decide, ⟨rfl, rfl, rfl⟩, rfl, rfl, by decide +kernel, by decide +kernel⟩

/-- StrokeEvents at a tick with nothing due. -/
theorem witness_StrokeEvents_tick : ∀ ch ∈ StrokeChannel.all, expiryDue ((inMode .firing).sta.channels.get ch) = false := by
  decide +kernel

/-- SetChannelSettles: the codes at and beyond their lists; no change in the count of rams; the last ram disabled. -/
theorem witness_SetChannelSettles :
    Ready .pf going ∧ 8 ≤ (8#8).toNat ∧ 2 ≤ (2#8).toNat ∧ StrokeChannel.ofCode 7 = some .grateB3 ∧ flagOf 1 = some true
      ∧ Source.ofCode 1 = some .fixed
      ∧ (going.sta.rams = 0 ↔ (feedCapable going.sta.channels.ramA).toNat + (feedCapable going.sta.channels.ramB).toNat = 0)
      ∧ Ready .pf lastRam ∧ StrokeChannel.ofCode 0 = some .ramA ∧ flagOf 0 = some false ∧ lastRam.sta.rams ≠ 0
      ∧ (feedCapable { lastRam.sta.channels.ramA with enabled := false }).toNat + (feedCapable lastRam.sta.channels.ramB).toNat = 0
      ∧ lastRam.mode.mode = .firing ∧ GrantLaw lastRam := by decide +kernel

/-- A plant in a mode with one ram left, RAM_A, that is enabled or not; RAM_B is jammed. -/
def oneRam (m : Mode) (enabled : Bool) : State :=
  let s := withChannel .ramB { StrokeRecord.reset with state := .jammed, jamCount := 1 }
    (withChannel .ramA { StrokeRecord.reset with enabled := enabled } (inMode m))
  (s.setSta { s.sta with rams := enabled.toNat }).setMode
    { s.mode with rams := enabled.toNat, timer := 10, feedArmed := true, causes := if enabled || m != .hold then .none else onlyNoFeed }

/-- SetChannelSettles: the last ram disabled and the first enabled, in HOLD, WARMING and COLD. -/
theorem witness_SetChannelSettles_rams :
    (∀ m ∈ [Mode.hold, .warming, .cold],
      let s := oneRam m true
      let u := oneRam m false
      (Ready .pf s ∧ s.sta.rams ≠ 0 ∧ s.mode.mode ≠ .firing
          ∧ (feedCapable { s.sta.channels.ramA with enabled := false }).toNat + (feedCapable s.sta.channels.ramB).toNat = 0)
        ∧ (Ready .pf u ∧ u.sta.rams = 0 ∧ GrantLaw u ∧ StrokeLaw u
          ∧ (feedCapable { u.sta.channels.ramA with enabled := true }).toNat + (feedCapable u.sta.channels.ramB).toNat ≠ 0))
      ∧ EntryMet (some lim) { (oneRam .warming false).mode with rams := 1 }
      ∧ EntryMet (some lim) { (oneRam .hold false).mode with rams := 1, causes := .none } := by decide +kernel

/-- SetLanesDividesTheGrant. -/
theorem witness_SetLanesDividesTheGrant :
    Ready .pf (inMode .firing) ∧ (inMode .firing).pst.workingPlant = some plant
      ∧ Ready .pf { going with pst := PermitStore.reset } ∧ PermitStore.reset.workingPlant = none
      ∧ (∀ ch ∈ StrokeChannel.all, (going.sta.channels.get ch).state ≠ .wait) := by decide +kernel

/-- A firing plant with a jammed channel. -/
def jammedIn (m : Mode) (ch : StrokeChannel) : State :=
  withChannel ch { (inMode m).sta.channels.get ch with state := .jammed, jamCount := 1 } (inMode m)

/-- Two states of a cold plant with RAM_A jammed, the ram disabled and enabled; one ram is feed-capable. -/
def coldRamJam (enabled : Bool) : State :=
  let s := withChannel .ramA { StrokeRecord.reset with state := .jammed, jamCount := 1, enabled := enabled } (inMode .cold)
  (s.setSta { s.sta with rams := 1 }).setMode { s.mode with rams := 1 }

/-- A held plant whose rams are both jammed, its dwell counted. -/
def heldForFeed : State := withMode { (ramsJammed (inMode .hold)).mode with timer := 10 } (ramsJammed (inMode .hold))

/-- ClearJamReleases: an unknown channel; one not jammed; a grate channel that runs and one that does not. -/
theorem witness_ClearJamReleases_grate :
    (Ready .pf going ∧ 8 ≤ (8#8).toNat ∧ StrokeChannel.ofCode 2 = some .grateA1 ∧ (going.sta.channels.get .grateA1).state ≠ .jammed)
      ∧ (Ready .pf (jammedIn .firing .grateA1) ∧ active .firing .grateA1 ((jammedIn .firing .grateA1).sta.channels.get .grateA1) = true
          ∧ (computedPeriod .firing (some plant) (jammedIn .firing .grateA1).sta .grateA1
              ((jammedIn .firing .grateA1).sta.channels.get .grateA1)).isSome = true ∧ InterlockLaw (jammedIn .firing .grateA1))
      ∧ (Ready .pf (jammedIn .cold .grateA1)
          ∧ active .cold .grateA1 ((jammedIn .cold .grateA1).sta.channels.get .grateA1) = false ∧ InterlockLaw (jammedIn .cold .grateA1)) := by
  decide +kernel

/-- ClearJamReleases: a disabled ram; an enabled one outside FIRING with the other feed-capable. -/
theorem witness_ClearJamReleases_ram :
    ∀ en ∈ [false, true], Ready .pf (coldRamJam en) ∧ ((coldRamJam en).sta.channels.get .ramA).state = .jammed
      ∧ ((coldRamJam en).sta.channels.get .ramA).enabled = en ∧ (coldRamJam en).mode.mode ≠ .firing ∧ 1 ≤ (coldRamJam en).sta.rams
      ∧ InterlockLaw (coldRamJam en) := by decide +kernel

/-- ClearJamReleases: the ram whose release ends the hold. -/
theorem witness_ClearJamReleases_hold :
    Ready .pf heldForFeed ∧ (heldForFeed.sta.channels.get .ramA).state = .jammed ∧ (heldForFeed.sta.channels.get .ramA).enabled = true
      ∧ heldForFeed.mode.mode = .hold ∧ heldForFeed.sta.rams = 0 ∧ InterlockLaw heldForFeed ∧ GrantLaw heldForFeed
      ∧ heldForFeed.mode.causes = onlyNoFeed ∧ heldForFeed.pst.workingLimits = some lim ∧ lim.dwell ≤ heldForFeed.mode.timer := by
  decide +kernel

/-- ClearJamReleases: a ram cleared in FIRING with its lane grant at the cutoff and one below it. -/
theorem witness_ClearJamReleases_firing :
    ∀ lane ∈ [49, 50],
      let b := withChannel .ramA { StrokeRecord.reset with state := .jammed, jamCount := 1 } (inMode .firing)
      let s := (b.setSta { b.sta with rams := 1, laneA := lane }).setMode { b.mode with rams := 1 }
      Ready .pf s ∧ (s.sta.channels.get .ramA).state = .jammed ∧ (s.sta.channels.get .ramA).enabled = true ∧ s.mode.mode = .firing
        ∧ s.pst.workingPlant = some plant ∧ InterlockLaw s ∧ laneGrant s.sta .ramA = lane := by decide +kernel

/-- ClearJamReleases: the only ram cleared in WARMING with the feed armed and the dwell counted, in HOLD, and in COLD. -/
theorem witness_ClearJamReleases_rise :
    let armed := ramsJammed armed
    (∀ s ∈ [armed, heldForFeed, ramsJammed (inMode .cold)], Ready .pf s ∧ (s.sta.channels.get .ramA).state = .jammed
        ∧ (s.sta.channels.get .ramA).enabled = true ∧ s.mode.mode ≠ .firing ∧ s.sta.rams = 0 ∧ InterlockLaw s ∧ GrantLaw s ∧ StrokeLaw s)
      ∧ EntryMet (some lim) { armed.mode with rams := 1 } := by decide +kernel

/-- StrokeLawKept. -/
theorem witness_StrokeLawKept :
    let s := waiting (.clearJam .pf 0) (inMode .firing)
    StrokeLaw s ∧ ∃ t, step s = .next t := ⟨by decide +kernel, _, rfl⟩

/-! ## Witnesses: the ledger, the meters, the store, the resets -/

/-- LedgerCommandsReallocate: fresh and stale steam; an auxiliary demand held and a new one; codes in and out of their lists, held and new;
a shortfall and a dump that arise. -/
theorem witness_LedgerCommandsReallocate :
    let s := ledgerStart
    let stale := { s with slg := { s.slg with stale := true } }
    let balanced := { s with slg := { s.slg with steam := 570, alloc := ⟨40, 380, 150, 0⟩, shortfall := 0 } }
    s.pst.workingPlant = some plant ∧ GrantLaw s ∧ GrantLaw stale ∧ Ready .pf s ∧ Ready .pf stale ∧ Ready .pd s
      ∧ min plant.auxMax (40#16).toNat = s.slg.aux ∧ min plant.auxMax (101#16).toNat ≠ s.slg.aux ∧ 2 ≤ (2#8).toNat
      ∧ Availability.ofCode 1 = some s.slg.turbine ∧ Availability.ofCode 0 = some .unavailable ∧ s.slg.turbine ≠ .unavailable
      ∧ GrantLaw balanced ∧ balanced.slg.shortfall = 0 ∧ balanced.slg.dumpOver = false := by decide +kernel

/-- LedgerCommandsReallocate without a PLANT copy: the aux demand held and a new one, and new availabilities with no active order. -/
theorem witness_LedgerCommandsReallocate_without_plant :
    let s := { going with pst := PermitStore.reset, slg := { going.slg with aux := 40 } }
    s.pst.workingPlant = none ∧ GrantLaw s ∧ Ready .pf s ∧ Ready .pd s ∧ (40#16).toNat = s.slg.aux ∧ (65535#16).toNat ≠ s.slg.aux
      ∧ s.slg.active = none ∧ Availability.ofCode 1 = some .available ∧ s.slg.turbine ≠ .available := by decide +kernel

/-- OrdersArePlacedByKey: out of range, stopped, without PLANT; for a later minute, taken and free, in a full queue and not; due now. -/
theorem witness_OrdersArePlacedByKey :
    let filled (n : Nat) := { going with slg := { going.slg with queue := (List.range n).map fun k => queued (1170149 + k) ((29 + k) % 60) } }
    Ready .pd going ∧ Machine.orderOf { orderAt 14 29 with hour := 24 } = none ∧ (Machine.orderOf (orderAt 14 29)).isSome = true
      ∧ (Ready .pd stocked ∧ stocked.clock.run = .stopped)
      ∧ (Ready .pd { going with pst := PermitStore.reset } ∧ going.clock.run = .running ∧ PermitStore.reset.workingPlant = none)
      ∧ going.pst.workingPlant = some plant ∧ going.clock.latched.minuteKey < 1170149
      ∧ ((filled 16).slg.queue.any fun q => q.key == 1170149) = true
      ∧ ((filled 16).slg.queue.any fun q => q.key == 1170165) = false ∧ 16 ≤ (filled 16).slg.queue.length
      ∧ (filled 15).slg.queue.length < 16 ∧ ((filled 15).slg.queue.any fun q => q.key == 1170164) = false
      ∧ 1170148 ≤ going.clock.latched.minuteKey ∧ GrantLaw going := by decide +kernel

/-- OrdersArePlacedByKey, an order active at once under stale and under fresh steam. -/
theorem witness_OrdersArePlacedByKey_request :
    let stale := { ledgerStart with slg := { ledgerStart.slg with stale := true } }
    (∀ s ∈ [ledgerStart, stale], Ready .pd s ∧ s.clock.run = .running ∧ s.pst.workingPlant = some plant ∧ GrantLaw s
        ∧ 1170148 ≤ s.clock.latched.minuteKey) ∧ ledgerStart.slg.stale = false ∧ stale.slg.stale = true
      ∧ (Machine.orderOf (orderAt 14 28)).isSome = true := by decide +kernel

/-- The opening of the worked day (chapter 12): the request of the first order is bounded by the 0 held while the steam is stale, and the
first POST_STEAM writes 950. -/
theorem test_request_at_an_activation :
    let l := { Ledger.reset with aux := 40, turbine := .available, extraction := .available }
    let t := after (.postOrder .pd (orderAt 14 28)) { going with slg := l }
    t.slg.request = 0 ∧ (after (.postSteam .pf 0) t).feu.request = 950
      ∧ (after (.postOrder .pd (orderAt 14 28)) { going with slg := { l with stale := false } }).feu.request = 950 := by decide +kernel

/-- LedgerLawsKept. -/
theorem witness_LedgerLawsKept :
    let s := waiting (.postOrder .pd (orderAt 14 29)) going
    AllocationLaw s.slg ∧ ClockLaw s.clock ∧ QueueLaw s ∧ ∃ t, step s = .next t :=
  ⟨by decide +kernel, by decide +kernel, by decide +kernel, _, rfl⟩

/-- The same with the meters running. -/
def metered : State := { going with fmu := { Meters.reset with state := .running } }

/-- EnergyIsBookedInItsBand and MetersLoadAndFold: the meters' law, running and unset. -/
theorem witness_meters_lawful : MeterLaw metered.fmu ∧ MeterLaw going.fmu := ⟨by decide +kernel, by decide +kernel⟩

/-- EnergyIsBookedInItsBand: running and unset, with a tariff and without, and stopped. -/
theorem witness_EnergyIsBookedInItsBand :
    Ready .pd metered ∧ metered.band ≤ 3 ∧ metered.fmu.state = .running ∧ Ready .pd going ∧ going.fmu.state = .unset
      ∧ PermitStore.reset.workingTariff = none ∧ stocked.clock.latched.run = .stopped
      ∧ metered.pst.workingTariff = some tariff ∧ metered.clock.latched.run = .running := by decide +kernel

/-- MetersLoadAndFold: running; a bad digit; the EXPORT and the HEAT mismatch; accepted, with a waste that wraps. -/
theorem witness_MetersLoadAndFold :
    let good : MeterArgs := ⟨1, 2, 3, 4, 0x10, 5, 0, 0, 0, 5, 0x999999999999⟩
    let digits (a : MeterArgs) : Bool := (meterTotals a).all fun d => d.all fun x => x ≤ 9
    let e (a : MeterArgs) : Bool := bandSum (totalsOf a).exported == (totalsOf a).exportedGrand
    let h (a : MeterArgs) : Bool := bandSum (totalsOf a).heat == (totalsOf a).heatGrand
    Ready .pd metered ∧ metered.fmu.state = .running ∧ Ready .pd going ∧ going.fmu.state = .unset
      ∧ firstBadDigit (meterTotals { good with waste := 0xA }) 0 = some 10
      ∧ digits good = true ∧ e good = true ∧ h good = true
      ∧ digits { good with exportedGrand := 9 } = true ∧ e { good with exportedGrand := 9 } = false
      ∧ digits { good with heatGrand := 4 } = true ∧ e { good with heatGrand := 4 } = true ∧ h { good with heatGrand := 4 } = false
      ∧ 1000000000000 ≤ totalValue (totalsOf good).waste + 1 := by decide +kernel

/-- MetersLoadAndFold with accumulators waiting: the restore example; a band and a grand total that wrap; the meters' law. -/
theorem witness_MetersLoadAndFold_waiting :
    let s := { going with fmu := pendingMeters }
    let full := totalsOf ⟨0, 0, 0x999999999999, 0, 0x999999999999, 0, 0, 0, 0, 0, 0⟩
    Ready .pd s ∧ MeterLaw s.fmu ∧ s.fmu.state = .unset ∧ (meterTotals restoreArgs).all (fun d => d.all fun x => x ≤ 9) = true
      ∧ bandSum (totalsOf restoreArgs).exported = (totalsOf restoreArgs).exportedGrand
      ∧ bandSum (totalsOf restoreArgs).heat = (totalsOf restoreArgs).heatGrand
      ∧ bandSum full.exported = full.exportedGrand ∧ 1000000000000 ≤ totalValue full.exported.band2 + 1804250 / 1000 := by decide +kernel

/-- MeterLawKept. -/
theorem witness_MeterLawKept :
    let s := waiting (.postEnergy .pd 1500 999) metered
    MeterLaw s.fmu ∧ ∃ t, step s = .next t := ⟨by decide +kernel, _, rfl⟩

/-- MeterLawKept, the clause on the sum: four totals that pass 10^12. -/
theorem witness_MeterLawKept_sum :
    let b := (totalsOf { restoreArgs with exported0 := 0x999999999999 }).exported
    (∀ d ∈ b.toList, TotalLaw d) ∧ 10 ^ 12 ≤ totalValue b.band0 + totalValue b.band1 := by decide +kernel

/-- PermitCommandsCheckInOrder: the section numbers 2 and 3, and a state for each check that follows. -/
theorem witness_PermitCommandsCheckInOrder :
    let enabled := after (.enableWrite .pf) stocked
    let busy := after (.programSection .pf 1 (encodePlant plant)) enabled
    let locked := after (.enableWrite .pf) (after .lockCompletion (after (.lockSection .pf 1) enabled))
    Ready .pf stocked ∧ PermitSection.ofCode 3 = none ∧ PermitSection.ofCode 2 = some .tariff ∧ PermitSection.tariff.owner ≠ .pf
      ∧ PermitSection.plant.owner = .pf ∧ stocked.pst.latches.get .pf = false
      ∧ Ready .pf enabled ∧ enabled.pst.latches.get .pf = true ∧ enabled.pst.activity = .idle ∧ (enabled.pst.stored .plant).state = .valid
      ∧ Ready .pf busy ∧ busy.pst.activity ≠ .idle ∧ Ready .pf locked ∧ (locked.pst.stored .plant).state = .locked
      ∧ Ready .pf (inMode .firing) ∧ (inMode .firing).mode.mode = .firing
      ∧ imageFault .plant [] = some 0xFFFF ∧ imageFault .plant (encodePlant plant) = none := by decide +kernel

/-- A state whose store has a cycle in flight. -/
def during (a : StoreActivity) (s : State) : State := { s with pst := { s.pst with activity := a } }

/-- CyclesComplete: each kind of cycle, PLANT in FIRING and in COLD, and none in flight. -/
theorem witness_CyclesComplete :
    (during (.programming .limits .pg limitsImage) going).pst.activity = .programming .limits .pg limitsImage
      ∧ (during (.programming .tariff .pd tariffImage) going).pst.activity = .programming .tariff .pd tariffImage
      ∧ (during (.programming .plant .pf (encodePlant plant)) (inMode .firing)).mode.mode = .firing
      ∧ (during (.programming .plant .pf (encodePlant plant)) going).pst.activity = .programming .plant .pf (encodePlant plant)
      ∧ going.mode.mode ≠ .firing ∧ going.mode.mode ≠ .hold ∧ GrantLaw (during (.programming .plant .pf (encodePlant plant)) going)
      ∧ (during (.locking .tariff .pd) going).pst.activity = .locking .tariff .pd ∧ going.pst.activity = .idle :=
  ⟨rfl, rfl, rfl, rfl, by decide, by decide, by decide +kernel, rfl, rfl⟩

/-- A plant in BURNOUT in which a new PLANT image completes: an AUTO grate channel in STROKE and a FIXED one in DWELL. -/
def burnoutNewPlant : State :=
  let s := { holdingPlant .burnout with pst := store }
  let fixed := { s.sta.channels.get .grateB1 with source := .fixed, fixedPeriod := 310 }
  during (.programming .plant .pf (encodePlant { plant with snom := 300, auxMax := 30, zone1 := ⟨700, 400⟩, grateMin := 250 }))
    (withChannel .grateB1 fixed (withChannel .grateA1 { s.sta.channels.get .grateA1 with state := .stroke, source := .auto } s))

/-- CyclesComplete, PLANT in force at once in BURNOUT. -/
theorem witness_CyclesComplete_burnout :
    GrantLaw burnoutNewPlant ∧ burnoutNewPlant.mode.mode = .burnout ∧ burnoutNewPlant.sta.channels.grateA1.state = .stroke
      ∧ burnoutNewPlant.sta.channels.grateA1.source = .auto ∧ burnoutNewPlant.sta.channels.grateB1.state = .dwell
      ∧ burnoutNewPlant.sta.channels.grateB1.source = .fixed := by decide +kernel

/-- R111 and R135 by hand: 700,000 over 250 is 2,800; the fixed 310 is raised to 400 + 10; the power target falls to Snom and the aux demand to
aux max; the request of 330 over 300 is capped at 1000. -/
theorem test_new_plant_in_burnout :
    let t := after .programmingCompletion burnoutNewPlant
    t.sta.channels.grateA1.preload = some 2800 ∧ t.sta.channels.grateB1.preload = some 410 ∧ t.sta.channels.ramA.preload = none
      ∧ t.slg.powerTarget = 300 ∧ t.slg.aux = 30 ∧ t.slg.request = 1000 ∧ t.feu.request = 1000 := by decide +kernel

/-- AcceptedImageIsItsValues: an image of each section that passes. -/
theorem witness_AcceptedImageIsItsValues :
    65535 < 65536 ∧ imageFault .limits limitsImage = none ∧ imageFault .plant (encodePlant plant) = none
      ∧ imageFault .tariff tariffImage = none :=
  ⟨by decide, limits_accepted, by decide +kernel, tariff_accepted⟩

/-- R156: what is reported of a PLANT image with a byte missing, with its CRC wrong, and with Snom and grate_min out of range; the first field
out of range of a LIMITS image with Tmax below Tmin + 100 and of a TARIFF image whose third holiday does not rise. -/
theorem test_image_faults :
    imageFault .plant ((encodePlant plant).take 29) = some 0xFFFF ∧ imageFault .plant (plantBody plant ++ [0, 0]) = some 0xFFFE
      ∧ imageFault .plant (encodePlant { plant with snom := 99, grateMin := 99 }) = some 0
      ∧ imageFault .plant (encodePlant { plant with grateMin := 1001 }) = some 25
      ∧ (let image := limitsBody { lim with tmax := 949 }; firstOutOfRange image (limitsRanges image) = some 20)
      ∧ (let image := tariffBody { tariff with holidayDays := [790, 812, 812] ++ List.replicate 13 0 }
        firstOutOfRange image (tariffRanges image) = some 101) := by decide +kernel

/-- PermitLawKeptAndLockedStays, with PLANT LOCKED. -/
theorem witness_PermitLawKeptAndLockedStays :
    let s := waiting .powerOn { stocked with pst := { store with plant := { store.plant with state := .locked, lockBit := true } } }
    PermitLaw s.pst ∧ (s.pst.stored .plant).state = .locked ∧ ∃ t, step s = .next t :=
  ⟨⟨store_lawful.1, ⟨by decide +kernel, fun _ => by decide +kernel⟩, store_lawful.2.2⟩, rfl, _, rfl⟩

/-- ResetsTakeEachBlock: RSTN low and high, and the store's law. -/
theorem witness_ResetsTakeEachBlock : underReset.rstnLow = true ∧ (inMode .firing).rstnLow = false ∧ PermitLaw (inMode .firing).pst :=
  ⟨rfl, rfl, store_lawful⟩

end Sys2Proof.Tests
end

section
/-! SUPPORT and CERTIFICATES. The plant clock's rows: the rows as takes of their frames on a ready port, and the statements about SET_TIME,
SET_LEAD, REFCK_EDGE and the machine after reset. -/

namespace Sys2Proof.Machine

/-! ## The rows of the plant clock -/

theorem exec_setTime (p : Port) (day : BitVec 16) (hour minute second : BitVec 8) (divisor : BitVec 24) (offset : BitVec 8) (s : State) :
    exec (.setTime p day hour minute second divisor offset) s
      = .next (s.arrive p (.setTime p day hour minute second divisor offset)) := rfl

theorem exec_setLead (p : Port) (lead : BitVec 16) (s : State) : exec (.setLead p lead) s = .next (s.arrive p (.setLead p lead)) := rfl

theorem exec_startClock (p : Port) (s : State) : exec (.startClock p) s = .next (s.arrive p (.startClock p)) := rfl

theorem exec_stopClock (p : Port) (s : State) : exec (.stopClock p) s = .next (s.arrive p (.stopClock p)) := rfl

theorem exec_adjustClock (p : Port) (shift : BitVec 8) (s : State) :
    exec (.adjustClock p shift) s = .next (s.arrive p (.adjustClock p shift)) := rfl

theorem exec_refckEdge (s : State) : exec .refckEdge s = .next s.refckEdge := rfl

/-- SECOND_EVENT of a STOPPED clock (log entry 8). -/
theorem exec_secondEvent_stopped {s : State} (h : s.clock.run = .stopped) : exec .secondEvent s = .next s := by
  simp [exec, execSecondEvent, h]

/-- SECOND_EVENT of a running clock. -/
theorem exec_secondEvent_running {s : State} (h : s.clock.run = .running) : exec .secondEvent s = .next s.secondEvent := by
  simp [exec, execSecondEvent, h]

/-- A refused command on a port that takes it: the reply alone. -/
@[simp] theorem refuse_fst (status : Status) (s : State) : (refuse status s).1 = s := rfl
@[simp] theorem refuse_snd (status : Status) (s : State) : (refuse status s).2 = .plain status := rfl

/-! ## SET_TIME, SET_LEAD and REFCK_EDGE -/

/-- The range check of SET_TIME as a proposition (R8). -/
theorem timeInRange_iff (hour minute second : BitVec 8) (divisor : BitVec 24) (offset : BitVec 8) :
    timeInRange hour minute second divisor offset = true ↔
      hour.toNat ≤ 23 ∧ minute.toNat ≤ 59 ∧ second.toNat ≤ 59 ∧ 1 ≤ divisor.toNat ∧ divisor.toNat ≤ 65536 ∧ offset.toNat ≤ 6 := by
  simp [timeInRange, and_assoc]

/-- Settles O16: each check of SET_TIME and SET_LEAD in its order. -/
theorem setTimeAndSetLead : Obligations.SetTimeAndSetLead := by
  unfold Obligations.SetTimeAndSetLead
  intro p day hour minute second divisor offset lead s ready
  rw [exec_setTime, exec_setLead, State.arrive_ready ready, State.arrive_ready ready, State.takeFrame, State.takeFrame,
    State.takeWrite_eq, State.takeWrite_eq]
  refine ⟨congrArg _ ?_, congrArg _ ?_⟩
  · simp only [← timeInRange_iff, State.doSetTime]
    by_cases owner : p ≠ .pd
    · simp [owner]
    by_cases running : s.clock.run = .running
    · simp [owner, running]
    by_cases inRange : timeInRange hour minute second divisor offset = true
    · simp [owner, running, inRange, State.loadTime]
    · simp [owner, running, inRange]
  · unfold State.doSetLead
    by_cases tooLong : 1800 < lead.toNat
    · simp [tooLong]
    · simp [tooLong]

/-- Settles O20: the three cases of an edge. -/
theorem refckEdgeCountsOrWraps : Obligations.RefckEdgeCountsOrWraps := by
  unfold Obligations.RefckEdgeCountsOrWraps
  intro s
  refine ⟨fun stopped => ?_, fun running below => ?_, fun running wraps => ?_⟩
  · simp [exec_refckEdge, State.refckEdge, stopped]
  · simp [exec_refckEdge, State.refckEdge, running, below]
  · simp [exec_refckEdge, exec_secondEvent_running running, State.refckEdge, running, Nat.not_lt.2 wraps]

/-! ## The machine after reset -/

/-- Settles O3: each law at the reset values. -/
theorem resetMeetsTheLaws : Obligations.ResetMeetsTheLaws := by
  unfold Obligations.ResetMeetsTheLaws
  refine ⟨by decide, by decide, by decide, by decide, by decide, by decide, by decide, by decide, by decide, by decide, by decide,
    by decide, by decide, by decide, by decide⟩

end Sys2Proof.Machine
end

section
/-! SUPPORT and CERTIFICATE. The two resets: the store's load section by section, the envelope formed again from the accounts kept, and
the statement about POWER_ON, PIN_RESET and PIN_RESET_RELEASE. -/

namespace Sys2Proof.Machine

/-! ## The load of the store (R161) -/

/-- Cutting off a cycle changes the store and the number of draws alone. -/
theorem State.cutOff_frame (s : State) :
    s.cutOff.clock = s.clock ∧ s.cutOff.mode = s.mode ∧ s.cutOff.eau = s.eau ∧ s.cutOff.feu = s.feu ∧ s.cutOff.sta = s.sta
      ∧ s.cutOff.slg = s.slg ∧ s.cutOff.fmu = s.fmu ∧ s.cutOff.ports = s.ports ∧ s.cutOff.rstnLow = s.rstnLow
      ∧ s.cutOff.pending = s.pending := by
  unfold State.cutOff
  split <;> simp

/-- The load changes the store and the number of draws alone. -/
@[simp] theorem State.loadStore_frame (s : State) :
    s.loadStore.clock = s.clock ∧ s.loadStore.mode = s.mode ∧ s.loadStore.eau = s.eau ∧ s.loadStore.feu = s.feu
      ∧ s.loadStore.sta = s.sta ∧ s.loadStore.slg = s.slg ∧ s.loadStore.fmu = s.fmu ∧ s.loadStore.ports = s.ports
      ∧ s.loadStore.rstnLow = s.rstnLow ∧ s.loadStore.pending = s.pending :=
  s.cutOff_frame

theorem State.loadStore_pst (s : State) : s.loadStore.pst = loadedStore s.cutOff.pst := rfl

/-- A stored section after another has been replaced, or it itself. -/
theorem PermitStore.stored_store (p : PermitStore) (sec other : PermitSection) (x : StoredSection) :
    (p.store sec x).stored other = if other = sec then x else p.stored other := by
  cases sec <;> cases other <;> rfl

/-- What a cut-off cycle leaves of a section: CORRUPT under its lock bit where the cycle was programming it, else as it was. -/
theorem State.cutOff_stored (s : State) (sec : PermitSection) :
    if programming? s.pst.activity = some sec then
      (s.cutOff.pst.stored sec).state = .corrupt ∧ (s.cutOff.pst.stored sec).lockBit = (s.pst.stored sec).lockBit
    else s.cutOff.pst.stored sec = s.pst.stored sec := by
  unfold State.cutOff
  rcases s.pst.activity with _ | ⟨cut, p, image⟩ | ⟨locked, p⟩
  · simp [programming?]
  · by_cases same : sec = cut
    · simp [programming?, same, PermitStore.stored_store]
    · simp [programming?, same, Ne.symm same, PermitStore.stored_store]
  · simp [programming?]

/-- The stored sections after a load are those before it, each checked. -/
theorem loadedStore_stored (p : PermitStore) (sec : PermitSection) : (loadedStore p).stored sec = loadedSection (p.stored sec) := by
  cases sec <;> rfl

/-- A section that is CORRUPT stays as it is at a load (log entry 15). -/
theorem loadedSection_corrupt {x : StoredSection} (h : x.state = .corrupt) : loadedSection x = x := by simp [loadedSection, h]

/-- A section at a load, by its state, its CRC and its lock bit (R161). -/
theorem loadedSection_eq (x : StoredSection) :
    loadedSection x =
      if (x.state = .valid ∨ x.state = .locked) ∧ crcOk x.image = false then { x with state := .corrupt }
      else if x.state = .valid ∧ x.lockBit = true then { x with state := .locked }
      else x := by
  rcases hs : x.state with _ | _ | _ | _
  case blank => simp [loadedSection, hs]
  case corrupt => simp [loadedSection, hs]
  case valid =>
    by_cases crc : crcOk x.image = true
    · by_cases locked : x.lockBit = true
      · simp [loadedSection, hs, crc, locked]
      · simp [loadedSection, hs, crc, locked]
    · simp [loadedSection, hs, crc]
  case locked =>
    by_cases crc : crcOk x.image = true
    · simp [loadedSection, hs, crc]
    · simp [loadedSection, hs, crc]

/-- The store after a load is what R161 says of it. -/
theorem State.loadStore_loaded (s : State) : StoreLoaded s.pst s.loadStore.pst := by
  refine ⟨fun sec _ => ?_, rfl, rfl, rfl, rfl, rfl, rfl, rfl, rfl⟩
  have cut := s.cutOff_stored sec
  rw [State.loadStore_pst, loadedStore_stored]
  by_cases programmed : programming? s.pst.activity = some sec
  · rw [if_pos programmed] at cut ⊢
    rwa [loadedSection_corrupt cut.1]
  · rw [if_neg programmed] at cut ⊢
    rw [cut, loadedSection_eq]
    (repeat' split) <;> rfl

/-! ## The envelope after a reset (R92) -/

/-- An image passes its ranges when each of them holds (R156). -/
theorem firstOutOfRange_none {image : List Byte} {ranges : List FieldRange} (h : firstOutOfRange image ranges = none) :
    ∀ f ∈ ranges, f.holds image = true := by
  induction ranges with
  | nil => simp
  | cons f fs ih =>
    by_cases inRange : f.holds image = true
    · rw [firstOutOfRange, if_pos inRange] at h
      simpa [inRange] using ih h
    · simp [firstOutOfRange, inRange] at h

/-- A LIMITS image that passes the checks asks for at least one valid reading before a channel takes part (10.1). -/
theorem capValid_pos {image : List Byte} (h : imageFault .limits image = none) : 1 ≤ (decodeLimits image).capValid := by
  have ranges : firstOutOfRange image (limitsRanges image) = none := by
    unfold imageFault at h
    split at h
    · cases h
    · split at h
      · exact h
      · cases h
  have holds := firstOutOfRange_none ranges ⟨9, 1, 1, 60⟩ (by simp [limitsRanges])
  simp only [FieldRange.holds, Bool.and_eq_true, decide_eq_true_eq] at holds
  exact holds.1

/-- The image that a loaded section gives is its own, and the section was VALID or LOCKED. -/
theorem loadableImage_loadedSection {x : StoredSection} {image : List Byte} (h : loadableImage (loadedSection x) = some image) :
    x.image = image ∧ (x.state = .valid ∨ x.state = .locked) := by
  rw [loadedSection_eq] at h
  split at h
  · cases h
  split at h
  · next locks => exact ⟨Option.some.inj h, .inl locks.1⟩
  · unfold loadableImage at h
    split at h
    · next valid => exact ⟨Option.some.inj h, .inl valid⟩
    · next locked => exact ⟨Option.some.inj h, .inr locked⟩
    · cases h
    · cases h

/-- The working LIMITS copy after a load is one whose Nc is at least 1. -/
theorem loadStore_capValid {s : State} (law : PermitLaw s.pst) : ∀ l ∈ s.loadStore.limits.toList, 1 ≤ l.capValid := by
  obtain ⟨⟨-, lawful⟩, -⟩ := law
  intro l hl
  have working : s.loadStore.limits = (loadableImage (loadedSection s.cutOff.pst.limits)).map decodeLimits := rfl
  rw [working, Option.mem_toList, Option.map_eq_some_iff] at hl
  obtain ⟨image, loaded, rfl⟩ := hl
  obtain ⟨rfl, good⟩ := loadableImage_loadedSection loaded
  have cut := s.cutOff_stored .limits
  by_cases programmed : programming? s.pst.activity = some .limits
  · rw [if_pos programmed] at cut
    have corrupt : s.cutOff.pst.limits.state = .corrupt := cut.1
    simp [corrupt] at good
  · rw [if_neg programmed] at cut
    have kept : s.cutOff.pst.limits = s.pst.limits := cut
    rw [kept] at good ⊢
    exact capValid_pos (lawful good)

/-- With no reading accumulated no channel takes part in the cap. -/
theorem capFigure_reset {lim : Option Limits} (h : ∀ l ∈ lim.toList, 1 ≤ l.capValid) (ch : Pollutant) :
    capFigure lim .reset ch = .idle := by
  rcases lim with _ | l
  · rfl
  have few : ¬ l.capValid ≤ 0 := by have := h l (by simp); omega
  have empty : Emission.reset.accounts.get ch = .zero := by cases ch <;> rfl
  have out : takesPart l .reset (l.channels.get ch) .zero = false := by
    unfold takesPart
    split <;> simp [Accumulator.zero, few]
  simp only [capFigure, empty, out, CapFigure.idle]
  simp [ratio, runningAverage, Accumulator.zero]

/-- With no reading accumulated no channel drives a reagent, whose demand is its base. -/
theorem demandOf_reset (lim : Option Limits) (r : Reagent) : demandOf lim .reset r = ⟨0, none⟩ := by
  have base : (Emission.reset.reagents.get r).base = 0 := by cases r <;> rfl
  rcases lim with _ | l
  · simp [demandOf, base]
  have unserved (ch : Pollutant) : served l .reset r ch = false := by cases ch <;> simp [served] <;> intros <;> decide
  simp [demandOf, drivingOf, Pollutant.all, unserved, base]

/-- With no reading accumulated and every base demand 0 the envelope formed again is that of power-on. -/
theorem resetEnvelope_reset {lim : Option Limits} (h : ∀ l ∈ lim.toList, 1 ≤ l.capValid) : resetEnvelope lim .reset = .reset := by
  have figures : capFigures lim .reset = ⟨.idle, .idle, .idle, .idle, .idle, .idle⟩ := by simp [capFigures, capFigure_reset h]
  have cap : computedCapOf lim .reset = 1000 := by
    rcases lim with _ | l
    · rfl
    · simp only [computedCapOf, figures]
      rfl
  simp only [resetEnvelope, recomputed, figures, cap, demandsOf, demandOf_reset]
  rfl

/-! ## The statement -/

theorem exec_powerOn (s : State) : exec .powerOn s = .next s.powerOn := rfl
theorem exec_pinReset (s : State) : exec .pinReset s = .next s.pinReset := rfl
theorem exec_pinResetRelease (s : State) : exec .pinResetRelease s = .next s.releaseReset := rfl

/-- The mode controller after a pin reset, its trip record by the mode before it (R33, R37). -/
theorem resetMode_eq (m : ModeCtl) (t : ClockTime) :
    resetMode m t = { ModeCtl.reset with
      mode := if m.mode = .cold then .cold else .tripped
      trip := if m.mode = .cold then none
        else if m.mode = .tripped then m.trip.map fun r => { r with count := min 255 (r.count + 1) }
        else some { cause := .reset, day := t.day, secondOfDay := secondOfDay t, count := 0 } } := by
  rcases h : m.mode with _ | _ | _ | _ | _ | _ <;> simp [resetMode, resetTrip, h, countTrip, newTrip, satAdd]

/-- A port's controller after all three have been replaced. -/
theorem State.port_map (f : Port → PortCtl → PortCtl) (p : Port) (s t : State) (h : t.ports = s.ports.map f) :
    t.port p = f p (s.port p) := by
  rw [State.port, h, PerPort.get_map]
  rfl

/-- Settles O60: the load of the store, then each block as its reset leaves it. -/
theorem resetsTakeEachBlock : Obligations.ResetsTakeEachBlock := by
  unfold Obligations.ResetsTakeEachBlock
  intro s
  refine ⟨⟨_, exec_powerOn s, ?_⟩, fun low => ?_, fun high => ?_, fun high => ?_, fun low => ?_⟩
  · refine ⟨rfl, rfl, rfl, rfl, rfl, rfl, fun law => resetEnvelope_reset (loadStore_capValid law), ⟨rfl, rfl, rfl, rfl⟩,
      s.loadStore_loaded, ?_, fun p => ?_⟩
    · simp [State.powerOn, State.powerOnBlocks]
    · rw [State.port_map (fun _ c => powerPort s.loadStore.rstnLow c) p s.loadStore s.powerOn rfl]
      simp [powerPort, resetPort, State.port]
  · simp [exec_pinReset, State.pinReset, low]
  · refine ⟨s.loadStore.pinResetBlocks, by simp [exec_pinReset, State.pinReset, high], ?_⟩
    refine ⟨?_, ?_, ?_, rfl, rfl, ?_, rfl, rfl, rfl, rfl, rfl, ⟨rfl, rfl, rfl, rfl⟩, rfl, s.loadStore_loaded, rfl, fun p => ?_⟩
    · simp [State.pinResetBlocks]
    · simp [State.pinResetBlocks, resetMode_eq]
    · simp [State.pinResetBlocks, resetEmission]
    · simp [State.pinResetBlocks]
    · rw [State.port_map (fun _ c => resetPort c) p s.loadStore s.loadStore.pinResetBlocks rfl]
      simp [resetPort, State.port]
  · simp [exec_pinResetRelease, State.releaseReset, high]
  · refine ⟨_, exec_pinResetRelease s, ?_, fun p => ?_⟩
    · simp [State.releaseReset, low]
    · rw [State.port_map (fun _ c => releasePort c) p s s.releaseReset (by simp [State.releaseReset, low])]
      rfl

end Sys2Proof.Machine
end

section
/-! SUPPORT. Which notices an operation can post, the envelope and the ledger after their shared operations, and the queue of orders under
the activation check: the rules that the clock's statements are proved from. -/

namespace Sys2Proof.Machine

/-! ## Notices (R180) -/

@[simp] theorem State.holds_setClock (x : Clock) (p : Port) (n : Notice) (s : State) : (s.setClock x).holds p n = s.holds p n := rfl
@[simp] theorem State.holds_setEau (x : Emission) (p : Port) (n : Notice) (s : State) : (s.setEau x).holds p n = s.holds p n := rfl
@[simp] theorem State.holds_setFeu (x : Envelope) (p : Port) (n : Notice) (s : State) : (s.setFeu x).holds p n = s.holds p n := rfl
@[simp] theorem State.holds_setSta (x : StrokeArray) (p : Port) (n : Notice) (s : State) : (s.setSta x).holds p n = s.holds p n := rfl
@[simp] theorem State.holds_setSlg (x : Ledger) (p : Port) (n : Notice) (s : State) : (s.setSlg x).holds p n = s.holds p n := rfl

/-- A reply, and the take before it, leave every notice set. -/
@[simp] theorem State.holds_answer (q : Port) (r : Reply) (p : Port) (n : Notice) (s : State) :
    (s.answer q r).holds p n = s.holds p n := by
  cases p <;> cases q <;> rfl

@[simp] theorem State.holds_beginTake (q p : Port) (n : Notice) (s : State) : (s.beginTake q).holds p n = s.holds p n := by
  cases p <;> cases q <;> rfl

/-- A notice posted is no other notice. -/
theorem Notice.not_held_of_ne {n m : Notice} (h : m ≠ n) : n.bit.getLsbD m.code = false := by
  have codes : n.code ≠ m.code := fun same => h (by cases n <;> cases m <;> simp_all [Notice.code])
  simp [Notice.bit, codes]

/-- Posting a notice leaves every other one. -/
@[simp] theorem State.holds_post_of_ne {n m : Notice} (h : m ≠ n) (p q : Port) (s : State) : (s.post n q).holds p m = s.holds p m := by
  rw [State.holds, State.port_post]
  split
  · simp [noticeHeld, Notice.not_held_of_ne h, State.holds]
  · rfl

@[simp] theorem State.holds_postIf_of_ne {n m : Notice} (h : m ≠ n) (c : Bool) (p q : Port) (s : State) :
    (s.postIf c n q).holds p m = s.holds p m := by
  cases c <;> simp [State.postIf, h]

/-- After a conditional post the notice is held where it was, and where the condition holds. -/
theorem State.holds_postIf (c : Bool) (n : Notice) (p : Port) (s : State) : (s.postIf c n p).holds p n = (s.holds p n || c) := by
  cases c <;> simp [State.postIf, State.holds_post]

/-- Notices only grow, whatever the blocks do. -/
theorem PortsGrow.holds {s t : State} (grow : PortsGrow s t) {p : Port} {n : Notice} (h : s.holds p n = true) : t.holds p n = true :=
  (grow p).2 n h

theorem State.holds_postIf_of_held {s : State} {p : Port} {n : Notice} (h : s.holds p n = true) (c : Bool) (m : Notice) (q : Port) :
    (s.postIf c m q).holds p n = true :=
  ((PortsGrow.refl s).postIf c m q).holds h

@[simp] theorem State.holds_handGrant (before : Nat) (p : Port) (n : Notice) (s : State) :
    (s.handGrant before).holds p n = s.holds p n := by
  unfold State.handGrant
  split <;> simp

@[simp] theorem State.holds_retarget {n : Notice} (h : n ≠ .capLimiting) (p : Port) (s : State) : s.retarget.holds p n = s.holds p n := by
  simp [State.retarget, h]

@[simp] theorem State.holds_recompute {n : Notice} (h : n ≠ .capLimiting) (p : Port) (s : State) :
    s.recompute.holds p n = s.holds p n := by
  simp [State.recompute, h]

@[simp] theorem State.holds_takeRequest {n : Notice} (h : n ≠ .capLimiting) (value : Nat) (p : Port) (s : State) :
    (s.takeRequest value).holds p n = s.holds p n := by
  unfold State.takeRequest
  split <;> simp [h]

@[simp] theorem State.holds_writeRequest {n : Notice} (h : n ≠ .capLimiting) (p : Port) (s : State) :
    s.writeRequest.holds p n = s.holds p n := by
  simp [State.writeRequest, h]

@[simp] theorem State.holds_reallocate {n : Notice} (short : n ≠ .shortfall) (spill : n ≠ .dumpOver) (p : Port) (s : State) :
    s.reallocate.holds p n = s.holds p n := by
  simp [State.reallocate, short, spill]

/-- An activation drops no order: that is the queue's own notice (R125). -/
@[simp] theorem State.holds_activateOrder_orderDropped (o : Order) (p : Port) (s : State) :
    (s.activateOrder o).holds p .orderDropped = s.holds p .orderDropped := by
  simp [State.activateOrder]

@[simp] theorem State.holds_openPeriod {n : Notice} (h : n ≠ .capLimiting) (x : Option OpenPeriod) (p : Port) (s : State) :
    (s.openPeriod x).holds p n = s.holds p n := by
  simp [State.openPeriod, h]

@[simp] theorem State.holds_meetLead {n : Notice} (h : n ≠ .lead) (lo hi : Nat) (q p : Port) (s : State) :
    (s.meetLead lo hi q).holds p n = s.holds p n := by
  unfold State.meetLead
  split <;> simp [h]

@[simp] theorem State.holds_meetLeads {n : Notice} (h : n ≠ .lead) (lo hi : Nat) (p : Port) (s : State) :
    (s.meetLeads lo hi).holds p n = s.holds p n := by
  simp [State.meetLeads, h]

/-! ## A recomputation of the envelope (R80) -/

/-- A grant that follows its target is handed to the array as `GrantFollows` says. -/
theorem grantFollows_of {s t : State} {mode : Mode} {grant : Nat} (hgrant : t.feu.grant = grant) (hmode : t.mode.mode = mode)
    (hsta : t.sta = if grant = s.feu.grant then s.sta else takeGrant mode t.pst.workingPlant grant s.sta) : GrantFollows s t := by
  refine ⟨fun same => ?_, fun changed pl hpl => ?_⟩
  · rw [hsta, if_pos (hgrant ▸ same)]
  · rw [hsta, if_neg (hgrant ▸ changed), Option.mem_toList.1 hpl, hgrant, hmode]
    exact takeGrant_taken _ _ _ _

/-- What a recomputation leaves, from a state with the same envelope and the same array before it. -/
theorem recomputedFrom_of {s u t : State} (ufeu : u.feu = s.feu) (usta : u.sta = s.sta) (held : s.sta.grant = s.feu.grant)
    (tfeu : t.feu = u.recompute.feu) (tsta : t.sta = u.recompute.sta) (teau : t.eau = u.eau) (tmode : t.mode = u.mode)
    (tpst : t.pst = u.pst) : RecomputedFrom s t := by
  rw [State.recompute_feu, State.limits, ← tpst, ← teau, ← tmode, ufeu] at tfeu
  have sta : t.sta = if t.feu.grant = s.feu.grant then s.sta else takeGrant t.mode.mode t.pst.workingPlant t.feu.grant s.sta := by
    rw [tsta, State.recompute_sta, State.limits, State.plant, ← tpst, ← teau, ← tmode, ufeu, usta, tfeu]
    rfl
  refine ⟨?_, ?_, ?_, ?_, ?_, ?_, ?_, ?_, grantFollows_of rfl rfl sta⟩
  · rw [FormedLaw, tfeu]
    exact ⟨rfl, rfl, rfl, rfl⟩
  · rw [tfeu]
    rfl
  · rw [tfeu]
    rfl
  · rw [tfeu]
    rfl
  · rw [tfeu]
    rfl
  · rw [tfeu]
    rfl
  · rw [tfeu]
    rfl
  · rw [sta]
    split
    · next same => rw [held, same]
    · rfl

/-! ## The request written by the ledger (R75) -/

/-- The envelope after a request has been handed over. -/
theorem State.takeRequest_feu (value : Nat) (s : State) :
    (s.takeRequest value).feu = if value = s.feu.request then s.feu else retargeted s.mode.mode { s.feu with request := value } := by
  unfold State.takeRequest
  split <;> simp

/-- The envelope holds the request that it is handed. -/
@[simp] theorem State.takeRequest_request (value : Nat) (s : State) : (s.takeRequest value).feu.request = value := by
  rw [State.takeRequest_feu]
  split
  · next same => exact same.symm
  · rfl

/-- A request changes no figure, no cap and no demand. -/
@[simp] theorem State.takeRequest_kept (value : Nat) (s : State) :
    (s.takeRequest value).feu.figures = s.feu.figures ∧ (s.takeRequest value).feu.computedCap = s.feu.computedCap
      ∧ (s.takeRequest value).feu.capping = s.feu.capping ∧ (s.takeRequest value).feu.demand = s.feu.demand
      ∧ (s.takeRequest value).feu.effectiveCap = s.feu.effectiveCap := by
  rw [State.takeRequest_feu]
  split <;> exact ⟨rfl, rfl, rfl, rfl, rfl⟩

/-- The array follows the grant that a request leaves. -/
theorem State.takeRequest_sta (value : Nat) (s : State) :
    (s.takeRequest value).sta =
      if (s.takeRequest value).feu.grant = s.feu.grant then s.sta
      else takeGrant s.mode.mode s.pst.workingPlant (s.takeRequest value).feu.grant s.sta := by
  rw [State.takeRequest_feu]
  unfold State.takeRequest
  split
  · simp
  · simp [State.retarget_sta, retargeted, State.plant]

/-- Outside FIRING, with no target and no grant, a request is taken without either. -/
theorem State.takeRequest_idle (value : Nat) {s : State} (mode : s.mode.mode ≠ .firing) (target : s.feu.target = 0)
    (grant : s.feu.grant = 0) :
    (s.takeRequest value).feu.target = 0 ∧ (s.takeRequest value).feu.grant = 0 ∧ (s.takeRequest value).sta = s.sta := by
  have none : (s.takeRequest value).feu.target = 0 ∧ (s.takeRequest value).feu.grant = 0 := by
    rw [State.takeRequest_feu]
    split
    · exact ⟨target, grant⟩
    · simp [retargeted, targetOf_not_firing mode]
  exact ⟨none.1, none.2, by rw [State.takeRequest_sta, none.2, grant, if_pos rfl]⟩

/-! ## The allocation (R130 to R132) -/

theorem State.reallocate_slg (s : State) : s.reallocate.slg = reallocated s.pst.workingPlant s.slg := by
  simp [State.reallocate, State.plant]

/-- The allocation formed again serves the steam in its order. -/
theorem reallocated_served (pl : Option Plant) (l : Ledger) : ServedInOrder (reallocated pl l) := by
  have priority : priorityOf l = .heatFirst ↔ l.active.map Order.priority = some .heatFirst := by
    unfold priorityOf
    cases l.active <;> simp
  unfold ServedInOrder reallocated shortfallOf
  dsimp only
  by_cases heat : l.active.map Order.priority = some .heatFirst
  · have first := priority.2 heat
    simp only [allocate, first, heat, if_true, true_and]
    exact ⟨Nat.sub_right_comm _ _ _, trivial⟩
  · have first : priorityOf l = .powerFirst := by
      cases h : priorityOf l
      · rfl
      · exact absurd (priority.1 h) heat
    simp [allocate, first, heat]

/-- What a recomputation of the allocation leaves, from a state with the same shortfall and the same flag before it. -/
theorem reallocatedFrom_of {s u t : State} (short : u.slg.shortfall = s.slg.shortfall) (spill : u.slg.dumpOver = s.slg.dumpOver)
    (tslg : t.slg = u.reallocate.slg) (tpst : t.pst.workingPlant = u.pst.workingPlant) (grow : PortsGrow u.reallocate t) :
    ReallocatedFrom s t := by
  rw [State.reallocate_slg, ← tpst] at tslg
  refine ⟨tslg ▸ reallocated_served _ _, ?_, fun rises zero => ?_, fun rises clear => ?_⟩
  · rw [tslg]
    cases t.pst.workingPlant <;> simp [reallocated, dumpOverFlag]
  · refine grow.holds ?_
    rw [tslg, tpst] at rises
    simp [State.reallocate, State.plant, State.holds_postIf, short, zero, rises]
  · rw [tslg, tpst] at rises
    refine ⟨grow.holds (State.holds_postIf_of_held ?_ _ _ _), grow.holds ?_⟩
    · simp [State.plant, State.holds_postIf, spill, clear, rises]
    · simp [State.reallocate, State.plant, State.holds_postIf, spill, clear, rises]

end Sys2Proof.Machine
end

section
/-! SUPPORT. The queue of orders under the activation check and at the wrap of the day count, and what an activation leaves of the ledger and
of the envelope (R121, R124 to R128, R133, R134). -/

namespace Sys2Proof.Machine

/-! ## The queue (R121, R122) -/

/-- The queue's keys ascend. -/
abbrev KeysAscend (queue : List QueuedOrder) : Prop := queue.Pairwise fun a b => a.key < b.key

theorem nextOccurrence_eq (now : Nat) (o : Order) : nextOccurrence now o.hour o.minute = nextKey now o := rfl

theorem mem_enqueue {q x : QueuedOrder} {queue : List QueuedOrder} : x ∈ enqueue q queue ↔ x = q ∨ x ∈ queue := by
  induction queue with
  | nil => simp [enqueue]
  | cons y ys ih =>
    unfold enqueue
    split
    · simp
    · simp only [List.mem_cons, ih]
      tauto

theorem keyTaken_iff {key : Nat} {queue : List QueuedOrder} : keyTaken key queue = true ↔ ∃ q ∈ queue, q.key = key := by
  simp [keyTaken]

theorem keyTaken_enqueue (key : Nat) (q : QueuedOrder) (queue : List QueuedOrder) :
    keyTaken key (enqueue q queue) = (keyTaken key queue || q.key == key) := by
  rw [Bool.eq_iff_iff, Bool.or_eq_true, keyTaken_iff, keyTaken_iff, beq_iff_eq]
  simp only [mem_enqueue, or_and_right, exists_or, exists_eq_left]
  exact or_comm

/-- An order placed under a key that no queued order has keeps the keys ascending. -/
theorem enqueue_ascends {q : QueuedOrder} {queue : List QueuedOrder} (ascends : KeysAscend queue)
    (free : ∀ x ∈ queue, x.key ≠ q.key) : KeysAscend (enqueue q queue) := by
  induction queue with
  | nil => simp [enqueue, KeysAscend]
  | cons y ys ih =>
    obtain ⟨first, rest⟩ := List.pairwise_cons.1 ascends
    unfold enqueue
    split
    · next before =>
      exact List.pairwise_cons.2 ⟨fun x hx => by
        rcases List.mem_cons.1 hx with rfl | later
        · exact before
        · exact before.trans (first x later), ascends⟩
    · next notBefore =>
      refine List.pairwise_cons.2 ⟨fun x hx => ?_, ih rest fun x hx => free x (List.mem_cons_of_mem _ hx)⟩
      rcases mem_enqueue.1 hx with rfl | later
      · have := free y (List.mem_cons_self)
        omega
      · exact first x later

/-! ## Putting the daily orders back (R125) -/

/-- Orders that stand in the queue stay there while the daily ones are put back. -/
theorem mem_requeue_of_mem (now : Nat) (due : List QueuedOrder) {queue : List QueuedOrder} {q : QueuedOrder} (h : q ∈ queue) :
    q ∈ (requeue now due queue).1 := by
  induction due generalizing queue with
  | nil => exact h
  | cons d ds ih =>
    unfold requeue
    split
    · exact ih h
    · dsimp only
      split
      · exact ih h
      · exact ih (mem_enqueue.2 (.inr h))

/-- Nothing but daily orders due, each under its next key, joins the queue. -/
theorem mem_requeue {now : Nat} {due queue : List QueuedOrder} {q : QueuedOrder} (h : q ∈ (requeue now due queue).1) :
    q ∈ queue ∨ ∃ d ∈ due, d.order.day = none ∧ q = { key := nextKey now d.order, order := d.order } := by
  induction due generalizing queue with
  | nil => exact .inl h
  | cons d ds ih =>
    have later (h : q ∈ queue ∨ ∃ d ∈ ds, d.order.day = none ∧ q = { key := nextKey now d.order, order := d.order }) :
        q ∈ queue ∨ ∃ x ∈ d :: ds, x.order.day = none ∧ q = { key := nextKey now x.order, order := x.order } :=
      h.imp_right fun ⟨x, hx, rest⟩ => ⟨x, List.mem_cons_of_mem _ hx, rest⟩
    unfold requeue at h
    split at h
    · exact later (ih h)
    · next daily =>
      dsimp only at h
      split at h
      · exact later (ih h)
      · rcases ih h with placed | ⟨x, hx, rest⟩
        · rcases mem_enqueue.1 placed with rfl | held
          · exact .inr ⟨d, List.mem_cons_self, daily, rfl⟩
          · exact .inl held
        · exact .inr ⟨x, List.mem_cons_of_mem _ hx, rest⟩

theorem requeue_ascends (now : Nat) (due : List QueuedOrder) {queue : List QueuedOrder} (ascends : KeysAscend queue) :
    KeysAscend (requeue now due queue).1 := by
  induction due generalizing queue with
  | nil => exact ascends
  | cons d ds ih =>
    unfold requeue
    split
    · exact ih ascends
    · dsimp only
      split
      · exact ih ascends
      · next free => exact ih (enqueue_ascends ascends fun x hx same => free (keyTaken_iff.2 ⟨x, hx, same⟩))

/-- The keys taken once the daily orders of a list due have been seen: those of the later orders, and each daily order's next key, held
by it or by the one that barred it. -/
abbrev KeysSeen (now : Nat) (seen later queue : List QueuedOrder) : Prop :=
  ∀ key, keyTaken key queue = (later.any (fun x => x.key == key) || seen.any fun x => x.order.day.isNone && nextKey now x.order == key)

/-- A daily order seen adds its next key. -/
theorem KeysSeen.snoc {now : Nat} {seen later queue queue' : List QueuedOrder} {d : QueuedOrder} (keys : KeysSeen now seen later queue)
    (daily : d.order.day = none) (grown : ∀ key, keyTaken key queue' = (keyTaken key queue || nextKey now d.order == key)) :
    KeysSeen now (seen ++ [d]) later queue' := fun key => by
  simp [grown, keys key, daily, Bool.or_assoc]

/-- A daily order is put back unless it is barred, and an order is dropped exactly where one is barred. -/
theorem requeue_places {now : Nat} {due later : List QueuedOrder} (rest : List QueuedOrder) {seen queue : List QueuedOrder}
    (split : due = seen ++ rest) (keys : KeysSeen now seen later queue) :
    (∀ x ∈ rest.zipIdx seen.length, x.1.order.day = none → putBackBarred now due later x.1 x.2 = false →
        { key := nextKey now x.1.order, order := x.1.order } ∈ (requeue now rest queue).1)
      ∧ ((requeue now rest queue).2 = true ↔
        ∃ x ∈ rest.zipIdx seen.length, x.1.order.day = none ∧ putBackBarred now due later x.1 x.2 = true) := by
  induction rest generalizing seen queue with
  | nil => simp [requeue]
  | cons d ds ih =>
    have split' : due = (seen ++ [d]) ++ ds := by simp [split]
    have barred : putBackBarred now due later d seen.length = keyTaken (nextKey now d.order) queue := by
      rw [keys, putBackBarred, split, List.take_left]
    have length : seen.length + 1 = (seen ++ [d]).length := by simp
    simp only [List.zipIdx_cons, List.forall_mem_cons, List.exists_mem_cons_iff, barred, length]
    unfold requeue
    split
    · next day oneShot =>
      have seen' : KeysSeen now (seen ++ [d]) later queue := fun key => by simp [keys key, oneShot]
      obtain ⟨placed, dropped⟩ := ih split' seen'
      exact ⟨⟨fun daily => absurd (oneShot.symm.trans daily) (by simp), placed⟩, by simp [oneShot, dropped]⟩
    · next daily =>
      dsimp only [nextOccurrence_eq]
      split
      · next taken =>
        have held (key : Nat) : keyTaken key queue = (keyTaken key queue || nextKey now d.order == key) := by
          by_cases same : nextKey now d.order = key
          · simp [← same, taken]
          · simp [same]
        have seen' := keys.snoc daily held
        obtain ⟨placed, -⟩ := ih split' seen'
        exact ⟨⟨fun _ free => by simp [taken] at free, placed⟩, by simp [daily, taken]⟩
      · next free =>
        have seen' := keys.snoc daily fun key => keyTaken_enqueue key ⟨nextKey now d.order, d.order⟩ queue
        obtain ⟨placed, dropped⟩ := ih split' seen'
        refine ⟨⟨fun _ _ => mem_requeue_of_mem _ _ (mem_enqueue.2 (.inl rfl)), placed⟩, ?_⟩
        simp [free, dropped]

/-- The queue after an activation is that of R125. -/
theorem putBack_of {now : Nat} {due later : List QueuedOrder} {s t : State} (queue : t.slg.queue = (requeue now due later).1)
    (notice : t.holds .pd .orderDropped = (s.holds .pd .orderDropped || (requeue now due later).2)) (ascends : KeysAscend later) :
    PutBack now due later s t := by
  have start : KeysSeen now [] later later := fun key => by simp [keyTaken]
  obtain ⟨placed, dropped⟩ := requeue_places (due := due) due (List.nil_append due).symm start
  refine ⟨queue ▸ requeue_ascends now due ascends, fun q hq => queue ▸ mem_requeue_of_mem now due hq, queue ▸ placed,
    fun q hq => mem_requeue (queue ▸ hq), ?_⟩
  rw [notice, Bool.or_eq_true, dropped]
  rfl

/-! ## The wrap of the day count (R127) -/

/-- Where every key lies before the wrap none is brought back. -/
theorem rekey_of_below {queue : List QueuedOrder} (below : ∀ q ∈ queue, q.key < keyWrap) : rekey queue = queue := by
  have none : queue.filter (keyWrap ≤ ·.key) = [] := List.filter_eq_nil_iff.2 fun q hq => by simpa using below q hq
  have all : queue.filter (·.key < keyWrap) = queue := List.filter_eq_self.2 fun q hq => by simpa using below q hq
  simp [rekey, none, all]

/-- An order placed between those with lower and those with higher keys. -/
theorem enqueue_between {q : QueuedOrder} {front back : List QueuedOrder} (lower : ∀ x ∈ front, x.key < q.key)
    (higher : ∀ x ∈ back, q.key < x.key) : enqueue q (front ++ back) = front ++ q :: back := by
  induction front with
  | nil =>
    cases back with
    | nil => rfl
    | cons y ys => simp [enqueue, higher y List.mem_cons_self]
  | cons x xs ih =>
    have notBefore : ¬ q.key < x.key := Nat.not_lt.2 (lower x List.mem_cons_self).le
    simp [enqueue, notBefore, ih fun y hy => lower y (List.mem_cons_of_mem _ hy)]

/-- Ascending orders below all of a queue, placed one after the other, stand before it. -/
theorem foldl_enqueue {placed front back : List QueuedOrder} (ascends : KeysAscend (front ++ placed))
    (lower : ∀ q ∈ placed, ∀ x ∈ back, q.key < x.key) :
    placed.foldl (fun acc q => enqueue q acc) (front ++ back) = front ++ placed ++ back := by
  induction placed generalizing front with
  | nil => simp
  | cons q qs ih =>
    have before : ∀ x ∈ front, x.key < q.key := fun x hx => (List.pairwise_append.1 ascends).2.2 x hx q List.mem_cons_self
    rw [List.foldl_cons, enqueue_between before (lower q List.mem_cons_self)]
    have next := ih (front := front ++ [q]) (by simpa using ascends) fun x hx => lower x (List.mem_cons_of_mem _ hx)
    simpa using next

/-- Keys past the wrap lie on its first day and stand beside keys of the last day alone (R121, R127). -/
abbrev WrapLaw (queue : List QueuedOrder) : Prop :=
  KeysAscend queue ∧ (∀ q ∈ queue, q.key < keyWrap + 1440)
    ∧ ∀ q ∈ queue, keyWrap ≤ q.key → ∀ r ∈ queue, 65535 * 1440 ≤ r.key

theorem QueueLaw.wrapLaw {s : State} (law : QueueLaw s) : WrapLaw s.slg.queue := by
  obtain ⟨-, ascends, queued, -, -, wrap⟩ := law
  refine ⟨ascends, fun q hq => ?_, wrap⟩
  obtain ⟨-, -, key, -⟩ := queued q hq
  exact key

/-- The keys past the wrap, brought back. -/
def wrappedOrders (queue : List QueuedOrder) : List QueuedOrder :=
  (queue.filter fun q => 94371840 ≤ q.key).map fun q => { q with key := q.key - 94371840 }

theorem broughtBack_eq (queue : List QueuedOrder) :
    broughtBack queue = wrappedOrders queue ++ queue.filter fun q => q.key < 94371840 := rfl

theorem wrappedOrders_ascend {queue : List QueuedOrder} (ascends : KeysAscend queue) : KeysAscend (wrappedOrders queue) := by
  refine List.pairwise_map.2 ((ascends.filter _).imp_of_mem fun {a b} ha _ less => ?_)
  have past := (List.mem_filter.1 ha).2
  simp only [decide_eq_true_eq] at past
  dsimp only
  omega

/-- A key brought back lies on the first day, below every key that stayed. -/
theorem wrappedOrders_lower {queue : List QueuedOrder} (law : WrapLaw queue) :
    ∀ q ∈ wrappedOrders queue, ∀ x ∈ queue.filter (fun q => q.key < 94371840), q.key < x.key := by
  obtain ⟨-, firstDay, lastDay⟩ := law
  intro q hq x hx
  obtain ⟨r, hr, rfl⟩ := List.mem_map.1 hq
  obtain ⟨hr, past⟩ := List.mem_filter.1 hr
  simp only [decide_eq_true_eq] at past
  have below := firstDay r hr
  have beside := lastDay r hr past x (List.mem_of_mem_filter hx)
  simp only [keyWrap] at below
  dsimp only
  omega

/-- The keys are brought back to the front of the queue. -/
theorem rekey_eq_broughtBack {queue : List QueuedOrder} (law : WrapLaw queue) : rekey queue = broughtBack queue := by
  have placed := foldl_enqueue (front := []) (by simpa using wrappedOrders_ascend law.1) (wrappedOrders_lower law)
  rw [broughtBack_eq]
  exact placed

theorem broughtBack_ascends {queue : List QueuedOrder} (law : WrapLaw queue) : KeysAscend (broughtBack queue) :=
  List.pairwise_append.2 ⟨wrappedOrders_ascend law.1, law.1.filter _, wrappedOrders_lower law⟩

/-! ## The activation (R124 to R126, R133, R134) -/

/-- With no order due the activation check does nothing. -/
theorem State.runActivation_none {now : Nat} {s : State} (none : s.slg.queue.filter (·.key ≤ now) = []) : s.runActivation now = s := by
  simp [State.runActivation, none]

theorem State.runActivation_of_later {now : Nat} {s : State} (later : ∀ q ∈ s.slg.queue, now < q.key) : s.runActivation now = s :=
  State.runActivation_none (List.filter_eq_nil_iff.2 fun q hq => by simpa using later q hq)

/-- The state in which the last order due is activated: the queue put back, and ORDER_DROPPED where one was dropped (R125). -/
def State.requeued (now : Nat) (s : State) : State :=
  let r := requeue now (s.slg.queue.filter (·.key ≤ now)) (s.slg.queue.filter (now < ·.key))
  (s.setSlg { s.slg with queue := r.1 }).postIf r.2 .orderDropped .pd

/-- With an order due the last of them is activated. -/
theorem State.runActivation_some {now : Nat} {s : State} {last : QueuedOrder}
    (due : (s.slg.queue.filter (·.key ≤ now)).getLast? = some last) : s.runActivation now = (s.requeued now).activateOrder last.order := by
  simp [State.runActivation, due, State.requeued]

/-- The ledger after its request has been written. -/
theorem State.writeRequest_slg (s : State) :
    s.writeRequest.slg = { s.slg with request := boundedRequest s.pst.workingPlant s.slg } := by
  simp [State.writeRequest, State.plant]

/-- The envelope holds the request of the ledger. -/
theorem State.writeRequest_request (s : State) : s.writeRequest.feu.request = s.writeRequest.slg.request := by
  simp [State.writeRequest]

/-- The ledger after an activation. -/
theorem State.activateOrder_slg (o : Order) (s : State) :
    (s.activateOrder o).slg =
      let l := retargetLedger s.pst.workingPlant { s.slg with active := some o }
      reallocated s.pst.workingPlant { l with request := boundedRequest s.pst.workingPlant l } := by
  simp [State.activateOrder, State.reallocate_slg, State.writeRequest_slg, State.plant]

/-- The ledger after an activation under a PLANT copy: the targets and the request of the order, the steam served again. -/
theorem State.activateOrder_slg_plant (o : Order) {s : State} {pl : Plant} (plant : s.pst.workingPlant = some pl) :
    (s.activateOrder o).slg = reallocated (some pl) (s.slg.activeUnder pl o s.slg.stale) := by
  have power : powerTargetOf (some pl) { s.slg with active := some o } =
      if s.slg.turbine = .available then min o.power pl.snom else 0 := by
    cases h : s.slg.turbine <;> simp [powerTargetOf, h]
  have heat : heatTargetOf (some pl) { s.slg with active := some o } =
      if s.slg.extraction = .available then min o.heat pl.heatMax else 0 := by
    cases h : s.slg.extraction <;> simp [heatTargetOf, h]
  rw [State.activateOrder_slg, plant]
  simp only [retargetLedger, power, heat, boundedRequest, requestOf, Ledger.activeUnder]

/-- The request after an activation is that of the ledger. -/
theorem State.activateOrder_request (o : Order) (s : State) : (s.activateOrder o).feu.request = (s.activateOrder o).slg.request := by
  simp [State.activateOrder, State.reallocate_slg, State.writeRequest_request, reallocated]

/-- What an activation leaves, from a state with the same ledger but the queue before it. -/
theorem orderActivated_of {s u : State} {pl : Plant} {queue : List QueuedOrder} (o : Order)
    (uslg : u.slg = { s.slg with queue := queue }) (plant : u.pst.workingPlant = some pl) :
    OrderActivated pl o s (u.activateOrder o) := by
  refine ⟨?_, ?_, State.activateOrder_request o u, State.holds_post _ _ _⟩
  · rw [State.activateOrder_slg_plant o plant, uslg]
    rfl
  · refine reallocatedFrom_of (u := (u.setSlg (retargetLedger u.plant { u.slg with active := some o })).writeRequest) ?_ ?_ ?_ ?_
      ((PortsGrow.refl _).post _ _)
    · simp [State.writeRequest_slg, retargetLedger, uslg]
    · simp [State.writeRequest_slg, retargetLedger, uslg]
    · simp [State.activateOrder]
    · simp [State.activateOrder]

/-- An activation takes its order, and leaves the queue. -/
@[simp] theorem State.activateOrder_active (o : Order) (s : State) : (s.activateOrder o).slg.active = some o := by
  rw [State.activateOrder_slg]
  rfl

@[simp] theorem State.activateOrder_queue (o : Order) (s : State) : (s.activateOrder o).slg.queue = s.slg.queue := by
  rw [State.activateOrder_slg]
  rfl

/-- Without a PLANT copy the request is 0 (R133). -/
theorem State.activateOrder_no_plant (o : Order) {s : State} (none : s.pst.workingPlant = none) :
    (s.activateOrder o).slg.request = 0 := by
  rw [State.activateOrder_slg, none]
  simp [reallocated, boundedRequest, requestOf]

/-- A request reaches the envelope whatever the ledger holds. -/
theorem State.takeRequest_setSlg (value : Nat) (l : Ledger) (s : State) :
    ((s.setSlg l).takeRequest value).feu = (s.takeRequest value).feu ∧ ((s.setSlg l).takeRequest value).sta = (s.takeRequest value).sta := by
  have feu : ((s.setSlg l).takeRequest value).feu = (s.takeRequest value).feu := by
    rw [State.takeRequest_feu, State.takeRequest_feu]
    rfl
  exact ⟨feu, by rw [State.takeRequest_sta, State.takeRequest_sta, feu]; rfl⟩

/-- The envelope and the array after an activation are those after the request that it writes. -/
theorem State.activateOrder_feu (o : Order) (s : State) :
    (s.activateOrder o).feu = (s.takeRequest (s.activateOrder o).slg.request).feu
      ∧ (s.activateOrder o).sta = (s.takeRequest (s.activateOrder o).slg.request).sta := by
  rw [State.activateOrder_slg]
  simp only [State.activateOrder, State.post_frame, State.reallocate_frame, State.writeRequest, State.takeRequest_setSlg]
  exact ⟨rfl, rfl⟩

end Sys2Proof.Machine
end

section
/-! SUPPORT and CERTIFICATES. START_CLOCK and STOP_CLOCK: the period opened and the period closed, and the activation check on the queue
that waits. -/

namespace Sys2Proof.Machine

/-! ## The activation check from a state before its event -/

/-- The blocks that putting the queue back leaves. -/
@[simp] theorem State.requeued_frame (now : Nat) (s : State) :
    (s.requeued now).clock = s.clock ∧ (s.requeued now).mode = s.mode ∧ (s.requeued now).eau = s.eau
      ∧ (s.requeued now).feu = s.feu ∧ (s.requeued now).sta = s.sta ∧ (s.requeued now).fmu = s.fmu
      ∧ (s.requeued now).pst = s.pst := by
  simp [State.requeued]

/-- The queue after the check, and ORDER_DROPPED. -/
theorem State.requeued_slg (now : Nat) (s : State) :
    (s.requeued now).slg = { s.slg with
      queue := (requeue now (s.slg.queue.filter (·.key ≤ now)) (s.slg.queue.filter (now < ·.key))).1 } := by
  simp [State.requeued]

theorem State.holds_requeued (now : Nat) (s : State) :
    (s.requeued now).holds .pd .orderDropped = (s.holds .pd .orderDropped
      || (requeue now (s.slg.queue.filter (·.key ≤ now)) (s.slg.queue.filter (now < ·.key))).2) := by
  simp [State.requeued, State.holds_postIf]

section Activates

variable {s u : State} {now : Nat} {queue : List QueuedOrder} {last : QueuedOrder}

/-- The last order due becomes active with its targets and its request. -/
theorem runActivation_activates (uslg : u.slg = { s.slg with queue := queue })
    (due : (queue.filter fun q => q.key ≤ now).getLast? = some last) :
    (u.runActivation now).slg.active = some last.order ∧ (u.runActivation now).holds .pd .orderActive = true
      ∧ (∀ pl ∈ u.pst.workingPlant.toList, OrderActivated pl last.order s (u.runActivation now))
      ∧ (u.pst.workingPlant = none → (u.runActivation now).slg.request = 0 ∧ (u.runActivation now).feu.request = 0) := by
  rw [State.runActivation_some (by simpa [uslg] using due)]
  refine ⟨State.activateOrder_active _ _, State.holds_post _ _ _, fun pl plant => ?_, fun none => ?_⟩
  · exact orderActivated_of last.order (by rw [State.requeued_slg, uslg]) (by simpa using plant)
  · have zero := State.activateOrder_no_plant last.order (s := u.requeued now) (by simpa using none)
    exact ⟨zero, (State.activateOrder_request _ _).trans zero⟩

/-- The daily orders due are put back. -/
theorem runActivation_putsBack (uslg : u.slg = { s.slg with queue := queue })
    (due : (queue.filter fun q => q.key ≤ now).getLast? = some last) (ascends : KeysAscend queue)
    (notices : u.holds .pd .orderDropped = s.holds .pd .orderDropped) :
    PutBack now (queue.filter fun q => q.key ≤ now) (queue.filter fun q => now < q.key) s (u.runActivation now) := by
  rw [State.runActivation_some (by simpa [uslg] using due)]
  refine putBack_of ?_ ?_ (ascends.filter _)
  · rw [State.activateOrder_queue, State.requeued_slg, uslg]
  · rw [State.holds_activateOrder_orderDropped, State.holds_requeued, notices, uslg]

end Activates

/-- An activation forms no figure, no cap and no demand again. -/
@[simp] theorem State.runActivation_kept (now : Nat) (s : State) :
    (s.runActivation now).feu.figures = s.feu.figures ∧ (s.runActivation now).feu.computedCap = s.feu.computedCap
      ∧ (s.runActivation now).feu.capping = s.feu.capping ∧ (s.runActivation now).feu.demand = s.feu.demand
      ∧ (s.runActivation now).feu.effectiveCap = s.feu.effectiveCap := by
  rcases due : (s.slg.queue.filter (·.key ≤ now)).getLast? with _ | last
  · simp [State.runActivation_none (List.getLast?_eq_none_iff.1 due)]
  · simp [State.runActivation_some due, State.activateOrder_feu]

theorem FormedLaw.runActivation {s : State} (formed : FormedLaw s) (now : Nat) : FormedLaw (s.runActivation now) := by
  simpa [FormedLaw] using formed

/-- Outside FIRING, with no target and no grant, an activation gives neither and moves nothing at the array. -/
theorem State.runActivation_idle {now : Nat} {s : State} (mode : s.mode.mode ≠ .firing) (target : s.feu.target = 0)
    (grant : s.feu.grant = 0) :
    (s.runActivation now).feu.target = 0 ∧ (s.runActivation now).feu.grant = 0 ∧ (s.runActivation now).sta = s.sta := by
  rcases due : (s.slg.queue.filter (·.key ≤ now)).getLast? with _ | last
  · simp [State.runActivation_none (List.getLast?_eq_none_iff.1 due), target, grant]
  · rw [State.runActivation_some due, (State.activateOrder_feu _ _).1, (State.activateOrder_feu _ _).2]
    simpa using State.takeRequest_idle (s := s.requeued now) _ (by simpa using mode) (by simpa using target) (by simpa using grant)

/-- The array follows the grant that an activation leaves. -/
theorem runActivation_grantFollows {s u : State} {now : Nat} (feu : u.feu = s.feu) (sta : u.sta = s.sta) :
    GrantFollows s (u.runActivation now) := by
  rcases due : (u.slg.queue.filter (·.key ≤ now)).getLast? with _ | last
  · rw [State.runActivation_none (List.getLast?_eq_none_iff.1 due)]
    exact ⟨fun _ => sta, fun changed => absurd (by rw [feu]) changed⟩
  · rw [State.runActivation_some due]
    refine grantFollows_of rfl rfl ?_
    rw [(State.activateOrder_feu _ _).2, State.takeRequest_sta, (State.activateOrder_feu _ _).1]
    simp [feu, sta]

/-! ## From the blocks of a command to its take

A command is carried out on the state at the take of its frame, and its reply is placed on the state that it leaves: neither changes a block
or a notice set. -/

theorem OrderActivated.of_take {pl : Plant} {o : Order} {s t : State} {p : Port} (h : OrderActivated pl o (s.beginTake p) t) (r : Reply) :
    OrderActivated pl o s (t.answer p r) := by
  simpa [OrderActivated, ReallocatedFrom, ServedInOrder] using h

theorem PutBack.of_take {now : Nat} {due later : List QueuedOrder} {s t : State} {p : Port}
    (h : PutBack now due later (s.beginTake p) t) (r : Reply) : PutBack now due later s (t.answer p r) := by
  simpa only [PutBack, State.answer_frame, State.holds_answer, State.holds_beginTake] using h

theorem GrantFollows.of_take {s t : State} {p : Port} (h : GrantFollows (s.beginTake p) t) (r : Reply) :
    GrantFollows s (t.answer p r) := by
  simpa only [GrantFollows, State.answer_frame, State.beginTake_frame] using h

theorem FormedLaw.answer {t : State} (h : FormedLaw t) (p : Port) (r : Reply) : FormedLaw (t.answer p r) := by
  simpa only [FormedLaw, State.answer_frame] using h

/-! ## START_CLOCK -/

theorem exec_startClock_ready {p : Port} {s : State} (ready : Ready p s) :
    exec (.startClock p) s = .next (s.takeWrite p (State.doStartClock p)) := by
  rw [exec_startClock, State.arrive_ready ready, State.takeFrame]

/-- START_CLOCK accepted on its port. -/
theorem exec_startClock_accepted {s : State} (ready : Ready .pd s) (stopped : s.clock.run = .stopped)
    (unused : ∀ newest, s.eau.halfHours.getLast? = some newest → newest.period < s.clock.latched.period) :
    exec (.startClock .pd) s = .next ((s.beginTake .pd).startRunning.answer .pd (.plain .ok)) := by
  have free : (s.beginTake .pd).periodUsed = false := by
    unfold State.periodUsed
    simp only [State.beginTake_frame]
    split
    · next r newest => simpa using unused r newest
    · rfl
  rw [exec_startClock_ready ready, State.takeWrite_eq]
  simp [State.doStartClock, stopped, free]

/-- The queue as START_CLOCK finds it, with the keys past the wrap brought back on a day below the last (R10, R127). -/
def startQueue (s : State) : List QueuedOrder := if s.clock.time.day < 65535 then rekey s.slg.queue else s.slg.queue

/-- START_CLOCK before its activation check: the clock running, the period open, the queue brought back. -/
def State.started (s : State) : State :=
  ((s.setClock (latch { s.clock with run := .running, scaler := 0 })).openAtStart).setSlg { s.slg with queue := startQueue s }

theorem State.startRunning_eq (s : State) : s.startRunning = s.started.runActivation (minuteKeyOf s.clock.time) := by
  unfold State.startRunning State.startActivation State.started startQueue
  by_cases before : s.clock.time.day < 65535
  · simp [latch, latchedOf, before]
  · have same : (s.setClock (latch { s.clock with run := .running, scaler := 0 })).openAtStart.setSlg s.slg =
        (s.setClock (latch { s.clock with run := .running, scaler := 0 })).openAtStart :=
      State.eq_of_blocks rfl rfl rfl rfl rfl (by simp) rfl rfl (fun _ => rfl) rfl rfl rfl
    simp [latch, latchedOf, before] at same ⊢
    rw [same]

/-- The blocks that START_CLOCK leaves of the machine before its activation check. -/
@[simp] theorem State.started_frame (s : State) :
    s.started.clock = latch { s.clock with run := .running, scaler := 0 } ∧ s.started.mode = s.mode ∧ s.started.fmu = s.fmu
      ∧ s.started.pst = s.pst ∧ s.started.slg = { s.slg with queue := startQueue s } := by
  simp [State.started]

/-- The accounts that START_CLOCK opens (R54). -/
theorem State.started_eau (s : State) :
    s.started.eau = { s.eau with
      accounts := accountsZero
      period := some { number := periodOf s.clock.time, fired := false, isPart := true, copy := s.pst.workingLimits } } := by
  simp [State.started, State.openAtStart, State.openPeriod, latch, latchedOf, State.limits]

/-- The envelope and the array are those of a recomputation from the empty accounts. -/
theorem State.started_recomputed {s : State} (held : s.sta.grant = s.feu.grant) : RecomputedFrom s s.started :=
  recomputedFrom_of (u := (s.setClock (latch { s.clock with run := .running, scaler := 0 })).setEau s.started.eau) rfl rfl held
    (by simp [State.started, State.openAtStart, State.openPeriod]) (by simp [State.started, State.openAtStart, State.openPeriod])
    rfl (by simp) (by simp)

theorem State.started_formed (s : State) : FormedLaw s.started := by
  simp [FormedLaw, State.started, State.openAtStart, State.openPeriod, retargeted, recomputed, State.limits]

@[simp] theorem State.holds_started (s : State) : s.started.holds .pd .orderDropped = s.holds .pd .orderDropped := by
  simp [State.started, State.openAtStart]

/-- The blocks that START_CLOCK leaves as it opens the period. -/
@[simp] theorem State.startRunning_frame (s : State) :
    s.startRunning.clock = latch { s.clock with run := .running, scaler := 0 } ∧ s.startRunning.mode = s.mode
      ∧ s.startRunning.fmu = s.fmu ∧ s.startRunning.pst = s.pst ∧ s.startRunning.eau = s.started.eau := by
  simp [State.startRunning_eq]

/-- The envelope after START_CLOCK of a part in a mode that gives no grant. -/
theorem State.startRunning_envelope {s : State} (idle : s.mode.mode ≠ .firing) (law : GrantLaw s) :
    FormedLaw s.startRunning ∧ s.startRunning.feu.target = 0 ∧ s.startRunning.feu.grant = 0
      ∧ s.startRunning.feu.effectiveCap = min s.feu.effectiveCap s.startRunning.feu.computedCap ∧ s.startRunning.sta = s.sta := by
  obtain ⟨zero, -⟩ := grant_zero law idle
  obtain ⟨-, -, -, -, held⟩ := law
  obtain ⟨-, -, -, cap, target, -, grant, -, follows, -⟩ := State.started_recomputed held
  have mode : s.started.mode.mode ≠ .firing := by simpa using idle
  rw [targetOf_not_firing mode] at target
  have noGrant : s.started.feu.grant = 0 := by rw [grant, zero, Nat.zero_min]
  obtain ⟨target', grant', sta'⟩ := State.runActivation_idle (now := minuteKeyOf s.clock.time) mode target noGrant
  rw [State.startRunning_eq]
  exact ⟨s.started_formed.runActivation _, target', grant', by simpa using cap, sta'.trans (follows (noGrant.trans zero.symm))⟩

/-- With no order due the queue is the one that waits. -/
theorem State.startRunning_no_order {s : State} (none : (startQueue s).filter (fun q => q.key ≤ minuteKeyOf s.clock.time) = []) :
    s.startRunning.slg = { s.slg with queue := startQueue s } := by
  rw [State.startRunning_eq, State.runActivation_none (by simpa using none)]
  simp

/-- With orders due the last of them is activated. -/
theorem State.startRunning_activates {s : State} {last : QueuedOrder}
    (due : ((startQueue s).filter fun q => q.key ≤ minuteKeyOf s.clock.time).getLast? = some last) :
    s.startRunning.slg.active = some last.order ∧ s.startRunning.holds .pd .orderActive = true
      ∧ (∀ pl ∈ s.pst.workingPlant.toList, OrderActivated pl last.order s s.startRunning)
      ∧ (s.pst.workingPlant = none → s.startRunning.slg.request = 0 ∧ s.startRunning.feu.request = 0) := by
  rw [State.startRunning_eq]
  simpa using runActivation_activates (s := s) (u := s.started) (by simp) due

/-- Settles O17: the state that START_CLOCK leaves before its activation check, then the check on the queue that waits. -/
theorem startClockOpensAPeriod : Obligations.StartClockOpensAPeriod := by
  unfold Obligations.StartClockOpensAPeriod
  intro s ready
  refine ⟨fun running => ?_, fun newest stopped last used => ?_, fun stopped unused cold grantLaw below => ?_,
    fun stopped unused queueLaw => ?_⟩
  · rw [exec_startClock_ready ready, State.takeWrite_eq]
    simp [State.doStartClock, running]
  · have spent : (s.beginTake .pd).periodUsed = true := by simp [State.periodUsed, last, used]
    rw [exec_startClock_ready ready, State.takeWrite_eq]
    simp [State.doStartClock, stopped, spent]
  · have idle : s.mode.mode ≠ .firing := by simp [cold stopped]
    obtain ⟨formed, target, grant, cap, sta⟩ := State.startRunning_envelope (s := s.beginTake .pd) idle grantLaw
    have queue : startQueue (s.beginTake .pd) = s.slg.queue := by simp [startQueue, rekey_of_below below]
    refine ⟨_, exec_startClock_accepted ready stopped unused, State.answer_slot _ _ _, ?_, ?_, formed.answer _ _, ?_, ?_, ?_, ?_, ?_,
      ?_, ?_, fun later => ?_, fun last due => ?_⟩
    · simp
    · simp [State.started_eau]
    · simpa using target
    · simpa using grant
    · simpa using cap
    · simp
    · simpa using sta
    · simp
    · simp
    · have none : s.slg.queue.filter (fun q => q.key ≤ minuteKeyOf s.clock.time) = [] :=
        List.filter_eq_nil_iff.2 fun q hq => by simpa using later q hq
      simp [State.startRunning_no_order (s := s.beginTake .pd) (queue ▸ none), queue]
    · obtain ⟨active, notice, activated, -⟩ := State.startRunning_activates (s := s.beginTake .pd) (queue ▸ due)
      exact ⟨by simpa using active, by simpa using notice, fun pl plant => (activated pl plant).of_take _⟩
  · have law := QueueLaw.wrapLaw queueLaw
    intro now waiting due
    have queue : startQueue (s.beginTake .pd) = waiting := by simp [startQueue, waiting, rekey_eq_broughtBack law]
    have ascends : KeysAscend waiting := by
      simp only [waiting]
      split
      · exact broughtBack_ascends law
      · exact law.1
    refine ⟨_, exec_startClock_accepted ready stopped unused, State.answer_slot _ _ _, fun none => ?_, fun last last_due => ?_⟩
    · simp [State.startRunning_no_order (s := s.beginTake .pd) (queue ▸ none), queue]
    · obtain ⟨active, notice, activated, zero⟩ := State.startRunning_activates (s := s.beginTake .pd) (last := last)
        (by rw [queue]; exact last_due)
      have putBack := runActivation_putsBack (s := s.beginTake .pd) (u := (s.beginTake .pd).started) (queue := waiting)
        (by simp [queue]) last_due ascends (by simp)
      exact ⟨by simpa using active, by simpa using notice, State.startRunning_eq _ ▸ putBack.of_take _,
        fun pl plant => (activated pl plant).of_take _, by simpa using zero⟩

end Sys2Proof.Machine
end

section
/-! CERTIFICATE. STOP_CLOCK closes the open period. -/

namespace Sys2Proof.Machine

theorem exec_stopClock_ready {p : Port} {s : State} (ready : Ready p s) :
    exec (.stopClock p) s = .next (s.takeWrite p (State.doStopClock p)) := by
  rw [exec_stopClock, State.arrive_ready ready, State.takeFrame]

/-- The accounts that the close of a period at STOP_CLOCK leaves (R11, R62). -/
def stoppedAccounts (p : OpenPeriod) (e : Emission) : Emission :=
  { e with accounts := accountsZero, period := none, halfHours := pushRing 48 e.halfHours (halfHourRecord p e.accounts true) }

/-- The machine as STOP_CLOCK hands it to the envelope: the clock stopped, the period closed. -/
def State.periodTaken (p : OpenPeriod) (s : State) : State :=
  (s.setClock (latch { s.clock with run := .stopped, scaler := 0 })).setEau (stoppedAccounts p s.eau)

/-- STOP_CLOCK with a period open: the envelope formed again from the accounts left, the notices of the record. -/
theorem State.stopRunning_eq {s : State} {p : OpenPeriod} (isOpen : s.eau.period = some p) :
    s.stopRunning = (s.periodTaken p).recompute.postClose (halfHourRecord p s.eau.accounts true) := by
  simp [State.stopRunning, State.closeAtStop, isOpen, State.openPeriod, State.recordPeriod, State.periodTaken, stoppedAccounts]

theorem State.stopRunning_recomputed {s : State} {p : OpenPeriod} (isOpen : s.eau.period = some p)
    (held : s.sta.grant = s.feu.grant) : RecomputedFrom s s.stopRunning := by
  have stopped := State.stopRunning_eq isOpen
  exact recomputedFrom_of (u := s.periodTaken p) rfl rfl held (by simp [stopped]) (by simp [stopped]) (by simp [stopped])
    (by simp [stopped]) (by simp [stopped])

/-- A closed record goes to PG, and an exceedance to PG and PD (R64). -/
theorem State.postClose_notices (r : HalfHourRecord) (s : State) :
    (s.postClose r).holds .pg .periodClosed = true
      ∧ (r.anyExceeded = true → (s.postClose r).holds .pg .exceedance = true ∧ (s.postClose r).holds .pd .exceedance = true) := by
  refine ⟨?_, fun exceeded => ⟨?_, ?_⟩⟩
  · exact State.holds_postIf_of_held (State.holds_postIf_of_held (State.holds_post _ _ _) _ _ _) _ _ _
  · exact State.holds_postIf_of_held (by simp [State.holds_postIf, exceeded]) _ _ _
  · simp [State.postClose, State.holds_postIf, exceeded]

/-- A recomputation under no grant leaves the array as it is. -/
theorem RecomputedFrom.sta_of_idle {s t : State} (h : RecomputedFrom s t) (zero : s.feu.grant = 0) : t.sta = s.sta := by
  obtain ⟨-, -, -, -, -, -, grant, -, follows, -⟩ := h
  exact follows (by rw [grant, zero, Nat.zero_min])

theorem RecomputedFrom.of_take {s t : State} {p : Port} (h : RecomputedFrom (s.beginTake p) t) (r : Reply) :
    RecomputedFrom s (t.answer p r) := by
  simpa only [RecomputedFrom, FormedLaw, GrantFollows, State.answer_frame, State.beginTake_frame] using h

/-- Settles O18: the close of the period, from the state at the take of the frame. -/
theorem stopClockClosesThePeriod : Obligations.StopClockClosesThePeriod := by
  unfold Obligations.StopClockClosesThePeriod
  intro s ready
  rw [exec_stopClock_ready ready, State.takeWrite_eq]
  refine ⟨fun refused => ?_, fun p running cold isOpen law => ?_⟩
  · rcases hrun : s.clock.run with _ | _
    · simp [State.doStopClock, hrun]
    · have busy : s.mode.mode ≠ .cold := refused.resolve_left (by simp [hrun])
      simp [State.doStopClock, State.plantMode, hrun, busy]
  · obtain ⟨zero, -⟩ := grant_zero law (by simp [cold])
    obtain ⟨-, -, -, -, held⟩ := law
    have accepted : State.doStopClock .pd (s.beginTake .pd) = ((s.beginTake .pd).stopRunning, .plain .ok) := by
      simp [State.doStopClock, State.plantMode, running, cold]
    have isOpen' : (s.beginTake .pd).eau.period = some p := by simpa using isOpen
    have stopped := State.stopRunning_eq isOpen'
    have recomputed := State.stopRunning_recomputed isOpen' held
    obtain ⟨closed, exceeded⟩ := State.postClose_notices (halfHourRecord p s.eau.accounts true) ((s.beginTake .pd).periodTaken p).recompute
    refine ⟨_, rfl, ?_⟩
    rw [accepted]
    refine ⟨State.answer_slot _ _ _, ?_, ?_, recomputed.of_take _, ?_, fun any => ?_, ?_, ?_, ?_, ?_, ?_⟩
    · simp [stopped, State.periodTaken]
    · simp [stopped, State.periodTaken, stoppedAccounts]
    · simpa [stopped] using closed
    · simpa [stopped] using exceeded any
    · simp [stopped, State.periodTaken]
    · simpa using recomputed.sta_of_idle (by simpa using zero)
    · simp [stopped, State.periodTaken]
    · simp [stopped, State.periodTaken]
    · simp [stopped, State.periodTaken]

end Sys2Proof.Machine
end

section
/-! SUPPORT and CERTIFICATE. ADJUST_CLOCK: the time a step away in the same period, the leads that a forward step passes over, and the minute
it enters. -/

namespace Sys2Proof.Machine

/-! ## The time a step away (R12, R13) -/

section Step

variable {t : ClockTime} {shift : Int}

/-- A step inside the period moves the seconds counted from day 0 by the step, in the same hour. -/
theorem absoluteSecond_steppedTime (range : TimeInRange t)
    (inside : ((absoluteSecond t : Int) + shift) / 1800 = (absoluteSecond t / 1800 : Nat)) :
    absoluteSecond (steppedTime t shift) = ((absoluteSecond t : Int) + shift).toNat := by
  obtain ⟨-, hour, minute, second⟩ := range
  simp only [steppedTime, absoluteSecond, secondOfDay] at inside ⊢
  omega

/-- The minute and the second of a step inside the period, counted in the half-hour. -/
theorem steppedTime_inHalfHour (range : TimeInRange t)
    (inside : ((absoluteSecond t : Int) + shift) / 1800 = (absoluteSecond t / 1800 : Nat)) :
    ((steppedTime t shift).minute % 30 * 60 + (steppedTime t shift).second : Int) = t.minute % 30 * 60 + t.second + shift := by
  obtain ⟨-, hour, minute, second⟩ := range
  simp only [steppedTime, absoluteSecond, secondOfDay] at inside ⊢
  omega

/-- A forward step inside the period shortens what remains of it by the step. -/
theorem remainingOf_steppedTime (range : TimeInRange t) (forward : 0 < shift)
    (inside : ((absoluteSecond t : Int) + shift) / 1800 = (absoluteSecond t / 1800 : Nat)) :
    remainingOf (steppedTime t shift) = remainingOf t - shift.toNat := by
  have inHalf := steppedTime_inHalfHour range inside
  have bound : (steppedTime t shift).minute % 30 < 30 ∧ (steppedTime t shift).second < 60 :=
    ⟨Nat.mod_lt _ (by decide), Nat.mod_lt _ (by decide)⟩
  simp only [remainingOf]
  omega

/-- Some second of the period remains. -/
theorem remainingOf_pos (range : TimeInRange t) : 1 ≤ remainingOf t := by
  obtain ⟨-, -, -, second⟩ := range
  have : t.minute % 30 < 30 := Nat.mod_lt _ (by decide)
  simp only [remainingOf]
  omega

end Step

/-- The check of BOUNDARY as a proposition (R12). -/
theorem crossesPeriod_eq_false_iff (t : ClockTime) (shift : Int) :
    crossesPeriod t shift = false ↔ ((absoluteSecond t : Int) + shift) / 1800 = (absoluteSecond t / 1800 : Nat) := by
  simp [crossesPeriod]

/-! ## Leads (R14, R15) -/

/-- The clock after the leads in a range have been met: they are disarmed. -/
theorem State.meetLead_clock (lo hi : Nat) (p : Port) (s : State) :
    (s.meetLead lo hi p).clock = { s.clock with
      leads := s.clock.leads.set p
        (if 0 < s.clock.leads.get p ∧ lo ≤ s.clock.leads.get p ∧ s.clock.leads.get p ≤ hi then 0 else s.clock.leads.get p) } := by
  unfold State.meetLead
  split <;> simp

/-- A lead in the range, and armed, is met. -/
abbrev LeadMet (lo hi lead : Nat) : Prop := 0 < lead ∧ lo ≤ lead ∧ lead ≤ hi

theorem State.meetLeads_clock (lo hi : Nat) (s : State) :
    (s.meetLeads lo hi).clock = { s.clock with
      leads := s.clock.leads.map fun _ lead => if LeadMet lo hi lead then 0 else lead } := by
  simp only [State.meetLeads, State.meetLead_clock]
  rfl

/-- LEAD goes to the port whose lead is met (R15). -/
theorem State.holds_meetLead_of_met {lo hi : Nat} {p : Port} {s : State} (met : LeadMet lo hi (s.clock.leads.get p)) :
    (s.meetLead lo hi p).holds p .lead = true := by
  rw [State.meetLead, if_pos met]
  exact State.holds_post _ _ _

/-- Meeting one port's lead leaves the others'. -/
theorem State.meetLead_lead_of_ne (lo hi : Nat) {p q : Port} (h : q ≠ p) (s : State) :
    (s.meetLead lo hi p).clock.leads.get q = s.clock.leads.get q := by
  rw [State.meetLead_clock]
  exact PerPort.get_set_ne _ _ h

theorem State.holds_meetLeads_of_met {lo hi : Nat} {p : Port} {s : State} (met : LeadMet lo hi (s.clock.leads.get p)) :
    (s.meetLeads lo hi).holds p .lead = true := by
  cases p with
  | pf => exact (((PortsGrow.refl _).meetLead lo hi .pg).meetLead lo hi .pd).holds (State.holds_meetLead_of_met met)
  | pg =>
    refine ((PortsGrow.refl _).meetLead lo hi .pd).holds (State.holds_meetLead_of_met ?_)
    rwa [State.meetLead_lead_of_ne _ _ (by decide)]
  | pd =>
    refine State.holds_meetLead_of_met ?_
    rwa [State.meetLead_lead_of_ne _ _ (by decide), State.meetLead_lead_of_ne _ _ (by decide)]

/-- A port's lead after those in a range have been met, with its notice (R15). -/
theorem meetLeads_effect (lo hi : Nat) (p : Port) (s : State) :
    if LeadMet lo hi (s.clock.leads.get p) then
      (s.meetLeads lo hi).clock.leads.get p = 0 ∧ (s.meetLeads lo hi).holds p .lead = true
    else (s.meetLeads lo hi).clock.leads.get p = s.clock.leads.get p := by
  split
  · next met => exact ⟨by simp [State.meetLeads_clock, met], State.holds_meetLeads_of_met met⟩
  · next unmet => simp [State.meetLeads_clock, unmet]

/-! ## The step (R13) -/

/-- The machine with its clock a step away and no marker, before the leads and the minute of a forward step. -/
def State.stepped (shift : Int) (s : State) : State :=
  (s.setClock (latch { s.clock with time := steppedTime s.clock.latched.time shift })).setEau { s.eau with marker := none }

/-- A backward step moves the time and raises nothing. -/
theorem State.stepClock_backward {shift : Int} (s : State) (backward : ¬ 0 < shift) : s.stepClock shift = s.stepped shift := by
  simp [State.stepClock, State.stepped, backward]

/-- A forward step before the minute it may enter. -/
def State.steppedForward (shift : Int) (s : State) : State :=
  (s.stepped shift).meetLeads (s.clock.latched.remaining - shift.toNat) (s.clock.latched.remaining - 1)

theorem State.stepClock_forward {shift : Int} (s : State) (forward : 0 < shift) :
    s.stepClock shift = (s.steppedForward shift).passedMinute s.clock.latched.time := by
  simp [State.stepClock, State.stepped, State.steppedForward, forward]

/-- The blocks that a forward step leaves before its minute event. -/
@[simp] theorem State.steppedForward_frame (shift : Int) (s : State) :
    (s.steppedForward shift).mode = s.mode ∧ (s.steppedForward shift).eau = { s.eau with marker := none }
      ∧ (s.steppedForward shift).feu = s.feu ∧ (s.steppedForward shift).sta = s.sta ∧ (s.steppedForward shift).slg = s.slg
      ∧ (s.steppedForward shift).fmu = s.fmu ∧ (s.steppedForward shift).pst = s.pst := by
  simp [State.steppedForward, State.stepped]

@[simp] theorem State.holds_steppedForward (shift : Int) (s : State) :
    (s.steppedForward shift).holds .pd .orderDropped = s.holds .pd .orderDropped := by
  simp [State.steppedForward, State.stepped]

/-- The clock a step away, but for its leads. -/
theorem State.steppedForward_clock (shift : Int) (s : State) :
    (s.steppedForward shift).clock =
      { latch { s.clock with time := steppedTime s.clock.latched.time shift } with leads := (s.steppedForward shift).clock.leads } := by
  simp [State.steppedForward, State.stepped, State.meetLeads_clock]

@[simp] theorem State.passedMinute_frame (old : ClockTime) (s : State) :
    (s.passedMinute old).clock = s.clock ∧ (s.passedMinute old).mode = s.mode ∧ (s.passedMinute old).eau = s.eau
      ∧ (s.passedMinute old).fmu = s.fmu ∧ (s.passedMinute old).pst = s.pst := by
  unfold State.passedMinute
  split <;> simp

theorem PortsGrow.passedMinute (old : ClockTime) (s : State) : PortsGrow s (s.passedMinute old) := by
  unfold State.passedMinute
  split <;> simp

/-- A step that enters no minute, or one in which no order is due, reaches no other block. -/
theorem State.passedMinute_of_none {old : ClockTime} {s : State} (latched : s.clock.latched = latchedOf s.clock)
    (none : minuteKeyOf s.clock.time = minuteKeyOf old ∨ ∀ q ∈ s.slg.queue, minuteKeyOf s.clock.time < q.key) :
    s.passedMinute old = s := by
  have key : s.clock.latched.minuteKey = minuteKeyOf s.clock.time := by rw [latched]; rfl
  rw [State.passedMinute, key]
  rcases none with same | later
  · rw [if_neg (by omega)]
  · rw [State.runActivation_of_later later, ite_self]

/-- A step that enters a minute raises it (R13). -/
theorem State.passedMinute_of_entered {old : ClockTime} {s : State} (latched : s.clock.latched = latchedOf s.clock)
    (entered : minuteKeyOf old < minuteKeyOf s.clock.time) :
    s.passedMinute old = s.runActivation (minuteKeyOf s.clock.time) := by
  have key : s.clock.latched.minuteKey = minuteKeyOf s.clock.time := by rw [latched]; rfl
  rw [State.passedMinute, key, if_pos entered]

/-- The latched copy of a stepped clock is its own: the leads are no part of it (R5). -/
theorem State.steppedForward_latched (shift : Int) (s : State) :
    (s.steppedForward shift).clock.latched = latchedOf (s.steppedForward shift).clock := by
  rw [State.steppedForward_clock]
  rfl

/-- A forward step meets the leads that it passes over, down to what now remains (R15). -/
theorem State.steppedForward_leads {shift : Int} {s : State} (law : ClockLaw s.clock) (forward : 0 < shift)
    (inside : ((absoluteSecond s.clock.time : Int) + shift) / 1800 = (absoluteSecond s.clock.time / 1800 : Nat)) (q : Port) :
    if 0 < s.clock.leads.get q ∧ remainingOf (s.steppedForward shift).clock.time ≤ s.clock.leads.get q
        ∧ s.clock.leads.get q < remainingOf s.clock.time then
      (s.steppedForward shift).clock.leads.get q = 0 ∧ (s.steppedForward shift).holds q .lead = true
    else (s.steppedForward shift).clock.leads.get q = s.clock.leads.get q := by
  obtain ⟨range, -, -, -, -, -, -, -, -, latched⟩ := law
  have time : (s.steppedForward shift).clock.time = steppedTime s.clock.time shift := by
    rw [State.steppedForward_clock, latched]
    rfl
  have remaining : s.clock.latched.remaining = remainingOf s.clock.time := by rw [latched]; rfl
  have some := remainingOf_pos range
  have met : LeadMet (s.clock.latched.remaining - shift.toNat) (s.clock.latched.remaining - 1) (s.clock.leads.get q) ↔
      0 < s.clock.leads.get q ∧ remainingOf (s.steppedForward shift).clock.time ≤ s.clock.leads.get q
        ∧ s.clock.leads.get q < remainingOf s.clock.time := by
    rw [time, remainingOf_steppedTime range forward inside, remaining, LeadMet]
    omega
  rw [← if_congr met rfl rfl]
  exact meetLeads_effect _ _ q (s.stepped shift)

/-! ## The statement -/

theorem exec_adjustClock_ready {p : Port} {s : State} (shift : BitVec 8) (ready : Ready p s) :
    exec (.adjustClock p shift) s = .next (s.takeWrite p (State.doAdjustClock p shift)) := by
  rw [exec_adjustClock, State.arrive_ready ready, State.takeFrame]

/-- ADJUST_CLOCK that passes its checks with a step other than 0. -/
theorem exec_adjustClock_accepted {s : State} {shift : BitVec 8} (ready : Ready .pd s)
    (time : s.clock.latched.time = s.clock.time) (running : s.clock.run = .running) (low : -30 ≤ shift.toInt)
    (high : shift.toInt ≤ 30) (moves : shift.toInt ≠ 0)
    (inside : ((absoluteSecond s.clock.time : Int) + shift.toInt) / 1800 = (absoluteSecond s.clock.time / 1800 : Nat)) :
    exec (.adjustClock .pd shift) s = .next (((s.beginTake .pd).stepClock shift.toInt).answer .pd (.plain .ok)) := by
  have range : ¬ (shift.toInt < -30 ∨ 30 < shift.toInt) := by omega
  have stays := (crossesPeriod_eq_false_iff _ _).2 inside
  rw [exec_adjustClock_ready shift ready, State.takeWrite_eq]
  simp [State.doAdjustClock, running, range, time, stays, moves]

/-- Settles O19: the checks in their order, then the backward and the forward step. -/
theorem adjustClockStaysInThePeriod : Obligations.AdjustClockStaysInThePeriod := by
  unfold Obligations.AdjustClockStaysInThePeriod
  intro shift s ready law old inside
  have law' := law
  obtain ⟨range, -, -, -, -, -, -, -, -, latched⟩ := law'
  have time : s.clock.latched.time = s.clock.time := by rw [latched]; rfl
  refine ⟨fun stopped => ?_, fun running outside => ?_, fun running low high crosses => ?_, fun running zero => ?_,
    fun running low backward isInside => ?_, fun running forward high isInside => ?_⟩
  · rw [exec_adjustClock_ready shift ready, State.takeWrite_eq]
    simp [State.doAdjustClock, stopped]
  · rw [exec_adjustClock_ready shift ready, State.takeWrite_eq]
    simp [State.doAdjustClock, running, outside]
  · rw [exec_adjustClock_ready shift ready, State.takeWrite_eq]
    have range : ¬ (shift.toInt < -30 ∨ 30 < shift.toInt) := by omega
    have crossed : crossesPeriod s.clock.time shift.toInt = true := by
      simpa using mt (crossesPeriod_eq_false_iff _ _).1 crosses
    simp [State.doAdjustClock, running, range, time, crossed]
  · rw [exec_adjustClock_ready shift ready, State.takeWrite_eq]
    have stays : crossesPeriod s.clock.time 0 = false := (crossesPeriod_eq_false_iff _ _).2 (by omega)
    simp [State.doAdjustClock, running, time, zero, stays]
  · refine ⟨steppedTime s.clock.time shift.toInt, absoluteSecond_steppedTime range isInside, rfl, rfl, ?_⟩
    rw [exec_adjustClock_accepted ready time running low (by omega) (by omega) isInside,
      State.stepClock_backward _ (by omega)]
    simp [State.stepped, time]
  · have clock := State.steppedForward_clock shift.toInt (s.beginTake .pd)
    have stepLatched := State.steppedForward_latched shift.toInt (s.beginTake .pd)
    have leads := State.steppedForward_leads (s := s.beginTake .pd) law forward isInside
    have moved : ((s.beginTake .pd).steppedForward shift.toInt).clock.time = steppedTime s.clock.time shift.toInt := by
      rw [clock, ← time]
      rfl
    refine ⟨_, exec_adjustClock_accepted ready time running (by omega) high (by omega) isInside, State.answer_slot _ _ _, ?_⟩
    rw [State.stepClock_forward _ forward]
    simp only [State.answer_frame, State.passedMinute_frame, State.beginTake_frame, State.steppedForward_frame, moved]
    refine ⟨absoluteSecond_steppedTime range isInside, rfl, rfl, ?_, ?_, ?_, ?_, stepLatched, fun q => ?_, trivial, trivial, trivial,
      trivial, fun none => ?_, fun last entered due => ?_⟩
    · rw [clock]
      exact running
    · rw [clock]
      rfl
    · rw [clock]
      rfl
    · rw [clock]
      rfl
    · have effect := leads q
      simp only [State.beginTake_frame, moved] at effect
      split
      · next met =>
        rw [if_pos met] at effect
        exact ⟨effect.1, (State.holds_answer _ _ _ _ _).trans ((PortsGrow.passedMinute _ _).holds effect.2)⟩
      · next unmet => rwa [if_neg unmet] at effect
    · rw [State.passedMinute_of_none stepLatched (by simpa [moved, time] using none)]
      simp
    · have enters : minuteKeyOf s.clock.time < minuteKeyOf ((s.beginTake .pd).steppedForward shift.toInt).clock.time := by
        rwa [moved]
      rw [time, State.passedMinute_of_entered stepLatched enters, moved]
      have slg : ((s.beginTake .pd).steppedForward shift.toInt).slg = { (s.beginTake .pd).slg with queue := s.slg.queue } := by simp
      obtain ⟨active, notice, activated, -⟩ := runActivation_activates slg due
      refine ⟨active, by simpa using notice, fun pl plant => (activated pl (by simpa using plant)).of_take _,
        (runActivation_grantFollows (by simp) (by simp)).of_take _, fun queueLaw => ?_⟩
      have putBack := runActivation_putsBack slg due (QueueLaw.wrapLaw queueLaw).1 (by simp)
      exact putBack.of_take _

end Sys2Proof.Machine
end

section
/-! SUPPORT and CERTIFICATE. The second event in every order of the blocks: what each part of it leaves alone, the ledger's own second before
or after the rest, and the ages. -/

namespace Sys2Proof.Machine

/-! ## The time one second on (R2) -/

/-- One second on, within the ranges, counted from day 0. -/
theorem advance_spec {t : ClockTime} (range : TimeInRange t) :
    TimeInRange (advance t) ∧ absoluteSecond (advance t) = (absoluteSecond t + 1) % (65536 * 86400) := by
  obtain ⟨day, hour, minute, second⟩ := range
  unfold advance TimeInRange
  simp only [absoluteSecond, secondOfDay]
  split
  · dsimp only
    omega
  split
  · dsimp only
    omega
  split
  · dsimp only
    omega
  · dsimp only
    split <;> omega

/-- Below second 59 the event is no minute event (R3). -/
theorem isMinute_advance_eq_false {t : ClockTime} (h : t.second < 59) : isMinute (advance t) = false := by
  have carry : t.second + 1 < 60 := by omega
  simp [isMinute, advance, carry]

/-- A minute event that comes later in the count of minutes is none at which the day count wraps. -/
theorem not_wrapped_of_later {t : ClockTime} (range : TimeInRange t) (later : minuteKeyOf t < minuteKeyOf (advance t)) :
    (decide (t.day = 65535) && (advance t).day == 0) = false := by
  obtain ⟨-, hour, minute, -⟩ := (advance_spec range).1
  simp only [minuteKeyOf] at later
  simp only [Bool.and_eq_false_iff, decide_eq_false_iff_not, beq_eq_false_iff_ne]
  omega

/-! ## The emission unit -/

/-- Beginning the stale-in-FIRING condition moves its flag alone at the unit (R48). -/
@[simp] theorem State.beginStale_eau (s : State) : s.beginStale.eau = { s.eau with staleInFiring := true } := by
  simp [State.beginStale]

@[simp] theorem State.endStale_eau (s : State) : s.endStale.eau = { s.eau with staleInFiring := false } := by
  simp [State.endStale]

/-- A change of mode leaves the sample age. -/
@[simp] theorem State.emissionMode_sampleAge (old : Mode) (s : State) : (s.emissionMode old).eau.sampleAge = s.eau.sampleAge := by
  unfold State.emissionMode
  (repeat' split) <;> simp

@[simp] theorem State.closeHalfHour_sampleAge (dayBoundary : Bool) (s : State) :
    (s.closeHalfHour dayBoundary).eau.sampleAge = s.eau.sampleAge := by
  unfold State.closeHalfHour
  (repeat' split) <;> simp [State.openPeriod, State.recordPeriod, State.closeDay]

/-- The unit's second event makes the samples one second older (R47). -/
theorem State.emissionSecond_sampleAge (halfHour dayBoundary : Bool) (s : State) :
    (s.emissionSecond halfHour dayBoundary).eau.sampleAge = satAdd 65535 1 s.eau.sampleAge := by
  have age : s.emissionAge.eau.sampleAge = satAdd 65535 1 s.eau.sampleAge := by
    dsimp only [State.emissionAge]
    split <;> simp
  unfold State.emissionSecond
  split <;> simp [age]

/-! ## The mode controller -/

/-- Outside BURNOUT and TRIPPED a held PLANT copy stays held (R159). -/
theorem State.releaseHeldPlant_of_feeding {s : State} (burnout : s.plantMode ≠ .burnout) (tripped : s.plantMode ≠ .tripped) :
    s.releaseHeldPlant = s := by
  unfold State.releaseHeldPlant
  split <;> simp [burnout, tripped]

/-- What a change of mode other than to BURNOUT or TRIPPED leaves: the temperature record of the
controller's new items, the sample age, the ledger and the store. -/
theorem State.changeMode_kept {m : ModeCtl} (burnout : m.mode ≠ .burnout) (tripped : m.mode ≠ .tripped) (s : State) :
    (s.changeMode m).mode.temp = m.temp ∧ (s.changeMode m).mode.tempAge = m.tempAge
      ∧ (s.changeMode m).eau.sampleAge = s.eau.sampleAge ∧ (s.changeMode m).slg = s.slg ∧ (s.changeMode m).pst = s.pst := by
  have held : ((s.setMode m).postAll .mode).releaseHeldPlant = (s.setMode m).postAll .mode :=
    State.releaseHeldPlant_of_feeding (by simpa [State.plantMode] using burnout) (by simpa [State.plantMode] using tripped)
  simp [State.changeMode, State.deliverMode, held]

/-- The qualification timer is no part of the temperature record (R23). -/
@[simp] theorem qualify_temp (lim : Option Limits) (m : ModeCtl) :
    (qualify lim m).temp = m.temp ∧ (qualify lim m).tempAge = m.tempAge := by
  unfold qualify
  (repeat' split) <;> simp

/-- An entry into HOLD leaves the temperature record, the sample age, the ledger and the store (R27). -/
theorem State.goHold_kept (c : HoldCauses) (s : State) :
    (s.goHold c).mode.temp = s.mode.temp ∧ (s.goHold c).mode.tempAge = s.mode.tempAge
      ∧ (s.goHold c).eau.sampleAge = s.eau.sampleAge ∧ (s.goHold c).slg = s.slg ∧ (s.goHold c).pst = s.pst :=
  State.changeMode_kept (m := { enterMode .hold s.mode with causes := c }) nofun nofun s

/-- The firing entry check leaves the temperature record, the sample age, the ledger and the store. -/
theorem State.entryCheckWith_kept (lim : Option Limits) (s : State) :
    (s.entryCheckWith lim).mode.temp = s.mode.temp ∧ (s.entryCheckWith lim).mode.tempAge = s.mode.tempAge
      ∧ (s.entryCheckWith lim).eau.sampleAge = s.eau.sampleAge ∧ (s.entryCheckWith lim).slg = s.slg
      ∧ (s.entryCheckWith lim).pst = s.pst := by
  unfold State.entryCheckWith
  split
  · exact State.changeMode_kept (m := enterMode .firing s.mode) nofun nofun s
  · simp

/-- The controller's second event makes the temperature one second older, and leaves the sample age, the ledger and the store (R21). -/
theorem State.modeSecond_kept (lim : Option Limits) (s : State) :
    (s.modeSecond lim).mode.temp = s.mode.temp ∧ (s.modeSecond lim).mode.tempAge = satAdd 65535 1 s.mode.tempAge
      ∧ (s.modeSecond lim).eau.sampleAge = s.eau.sampleAge ∧ (s.modeSecond lim).slg = s.slg
      ∧ (s.modeSecond lim).pst = s.pst := by
  dsimp only [State.modeSecond]
  split
  · split
    · simp [State.goHold_kept]
    · simp
  · simp [State.entryCheckWith_kept]
  · simp [State.entryCheckWith_kept]
  · simp

/-! ## The ledger -/

/-- An activation leaves the age and the stale flag of the steam. -/
@[simp] theorem State.runActivation_steam (now : Nat) (s : State) :
    (s.runActivation now).slg.age = s.slg.age ∧ (s.runActivation now).slg.stale = s.slg.stale := by
  rcases due : (s.slg.queue.filter (·.key ≤ now)).getLast? with _ | last
  · simp [State.runActivation_none (List.getLast?_eq_none_iff.1 due)]
  · simp [State.runActivation_some due, State.activateOrder_slg, reallocated, retargetLedger, State.requeued_slg]

@[simp] theorem State.ledgerMinute_steam (wrapped : Bool) (s : State) :
    (s.ledgerMinute wrapped).slg.age = s.slg.age ∧ (s.ledgerMinute wrapped).slg.stale = s.slg.stale := by
  unfold State.ledgerMinute
  split <;> simp

/-! ## One part of a second event -/

/-- What one part of a second event does to the ages and leaves of the rest. -/
structure PartKept (e : SubEvent) (s t : State) : Prop where
  sampleAge : t.eau.sampleAge = if e = .emission then satAdd 65535 1 s.eau.sampleAge else s.eau.sampleAge
  tempAge   : t.mode.tempAge = if e = .mode then satAdd 65535 1 s.mode.tempAge else s.mode.tempAge
  temp      : t.mode.temp = s.mode.temp
  steamAge  : t.slg.age = s.slg.age
  stale     : t.slg.stale = s.slg.stale
  store     : t.pst = { s.pst with
    workingLimits := t.pst.workingLimits, workingTariff := t.pst.workingTariff
    pendingLimits := t.pst.pendingLimits, pendingTariff := t.pst.pendingTariff }

theorem State.installPending_store (s : State) :
    s.installPending.pst = { s.pst with
      workingLimits := s.installPending.pst.workingLimits, workingTariff := s.installPending.pst.workingTariff
      pendingLimits := s.installPending.pst.pendingLimits, pendingTariff := s.installPending.pst.pendingTariff } := by
  dsimp only [State.installPending]
  (repeat' split) <;> simp

theorem State.subEvent_kept (k : EventKind) (old : Bool) (e : SubEvent) (s : State) : PartKept e s (s.subEvent k old e) := by
  cases e with
  | emission => constructor <;> simp [State.subEvent, State.emissionSecond_sampleAge]
  | envelope => constructor <;> simp [State.subEvent]
  | install =>
    simp only [State.subEvent]
    split
    · constructor <;> simp [← State.installPending_store]
    · constructor <;> simp
  | activation =>
    simp only [State.subEvent]
    split <;> constructor <;> simp
  | mode => constructor <;> simp [State.subEvent, State.modeSecond_kept]

/-! ## The parts of a second event in an order -/

/-- What the parts of a second event in an order leave: each age is one older for each time its unit stands in the order. -/
structure PartsKept (order : List SubEvent) (s t : State) : Prop where
  sampleAge : t.eau.sampleAge = (satAdd 65535 1)^[order.count .emission] s.eau.sampleAge
  tempAge   : t.mode.tempAge = (satAdd 65535 1)^[order.count .mode] s.mode.tempAge
  temp      : t.mode.temp = s.mode.temp
  steamAge  : t.slg.age = s.slg.age
  stale     : t.slg.stale = s.slg.stale
  store     : t.pst = { s.pst with
    workingLimits := t.pst.workingLimits, workingTariff := t.pst.workingTariff
    pendingLimits := t.pst.pendingLimits, pendingTariff := t.pst.pendingTariff }

/-- An age after one part of an order and then the rest. -/
theorem age_of_cons {e unit : SubEvent} {es : List SubEvent} {old new : Nat} (f : Nat → Nat) (h : new = if e = unit then f old else old) :
    f^[es.count unit] new = f^[(e :: es).count unit] old := by
  by_cases same : e = unit
  · rw [h, if_pos same, same, List.count_cons_self, Function.iterate_succ_apply]
  · rw [h, if_neg same, List.count_cons_of_ne same]

theorem State.subEvents_kept (k : EventKind) (old : Bool) (order : List SubEvent) (s : State) :
    PartsKept order s (s.subEvents k old order) := by
  induction order generalizing s with
  | nil => exact ⟨rfl, rfl, rfl, rfl, rfl, rfl⟩
  | cons e es ih =>
    have first := s.subEvent_kept k old e
    have rest := ih (s.subEvent k old e)
    exact ⟨rest.sampleAge.trans (age_of_cons _ first.sampleAge), rest.tempAge.trans (age_of_cons _ first.tempAge),
      rest.temp.trans first.temp, rest.steamAge.trans first.steamAge, rest.stale.trans first.stale,
      rest.store.trans (by rw [first.store]; rfl)⟩

/-- In every order drawn the emission unit and the mode controller take the event once. -/
theorem eventOrder_once (free : Nat) :
    (eventOrder free).order.count .emission = 1 ∧ (eventOrder free).order.count .mode = 1 := by
  have once : ∀ base < 7, ∀ pos < 5, (insertActivation pos (orderBases.getD base [])).count .emission = 1
      ∧ (insertActivation pos (orderBases.getD base [])).count .mode = 1 := by decide
  exact once _ (Nat.mod_lt _ (by decide)) _ (Nat.mod_lt _ (by decide))

/-- No order falls due at the event. -/
abbrev NoOrderDue (k : EventKind) (s : State) : Prop :=
  isMinute k.time = true → k.wrapped = false ∧ ∀ q ∈ s.slg.queue, s.clock.latched.minuteKey < q.key

/-- Where no order falls due no part of the event but the ledger's own second touches the ledger. -/
theorem State.subEvent_slg {k : EventKind} {s : State} (quiet : NoOrderDue k s) (old : Bool) (e : SubEvent) :
    (s.subEvent k old e).slg = s.slg := by
  cases e with
  | emission => simp [State.subEvent]
  | envelope => simp [State.subEvent]
  | install =>
    simp only [State.subEvent]
    split <;> simp
  | activation =>
    simp only [State.subEvent]
    split
    · next minute =>
      obtain ⟨sameDays, later⟩ := quiet minute
      simp [State.ledgerMinute, sameDays, State.runActivation_of_later later]
    · rfl
  | mode => simp [State.subEvent, State.modeSecond_kept]

theorem State.subEvents_slg {k : EventKind} {s : State} (quiet : NoOrderDue k s) (old : Bool) (order : List SubEvent) :
    (s.subEvents k old order).slg = s.slg := by
  induction order generalizing s with
  | nil => rfl
  | cons e es ih =>
    have kept := State.subEvent_slg quiet old e
    have quiet' : NoOrderDue k (s.subEvent k old e) := by simpa [NoOrderDue, kept] using quiet
    exact (ih quiet').trans kept

/-! ## The ledger's own second (R117, R129) -/

/-- The steam one second older (R117). -/
theorem State.steamSecond_slg (s : State) :
    s.steamSecond.slg = { s.slg with
      age := satAdd 65535 1 s.slg.age, stale := s.slg.stale || steamTooOld s.pst.workingPlant (satAdd 65535 1 s.slg.age) } := by
  simp [State.steamSecond, State.plant]

/-- STEAM_STALE goes to PF and PD where the flag rises (R117). -/
theorem State.holds_steamSecond {s : State} (clear : s.slg.stale = false)
    (old : steamTooOld s.pst.workingPlant (satAdd 65535 1 s.slg.age) = true) :
    s.steamSecond.holds .pf .steamStale = true ∧ s.steamSecond.holds .pd .steamStale = true := by
  refine ⟨State.holds_postIf_of_held ?_ _ _ _, ?_⟩
  · simp [State.holds_postIf, State.plant, old, clear]
  · simp [State.steamSecond, State.holds_postIf, State.plant, old, clear]

/-- The ledger whose setpoints have moved, before the steam is served again (R129). -/
def movedSetpoints (l : Ledger) : Ledger :=
  { l with
    powerSetpoint := stepToward l.powerTarget (rampOf l) l.powerSetpoint
    heatSetpoint := stepToward l.heatTarget (rampOf l) l.heatSetpoint }

theorem movedSetpoints_still {l : Ledger} (power : (movedSetpoints l).powerSetpoint = l.powerSetpoint)
    (heat : (movedSetpoints l).heatSetpoint = l.heatSetpoint) : movedSetpoints l = l := by
  simp only [movedSetpoints] at power heat ⊢
  rw [power, heat]

/-- Where no setpoint moves the ledger stays. -/
theorem State.rampSetpoints_still {s : State} (power : (movedSetpoints s.slg).powerSetpoint = s.slg.powerSetpoint)
    (heat : (movedSetpoints s.slg).heatSetpoint = s.slg.heatSetpoint) : s.rampSetpoints = s := by
  simp only [movedSetpoints] at power heat
  simp [State.rampSetpoints, power, heat]

/-- Where one moves the steam is served again. -/
theorem State.rampSetpoints_moved {s : State} (moved : ¬ ((movedSetpoints s.slg).powerSetpoint = s.slg.powerSetpoint
    ∧ (movedSetpoints s.slg).heatSetpoint = s.slg.heatSetpoint)) :
    s.rampSetpoints = (s.setSlg (movedSetpoints s.slg)).reallocate := by
  simp only [movedSetpoints] at moved
  simp only [State.rampSetpoints, if_neg moved, movedSetpoints]

/-- The age and the stale flag after the ledger's second. -/
theorem State.ledgerSecond_steam (s : State) :
    s.ledgerSecond.slg.age = satAdd 65535 1 s.slg.age
      ∧ s.ledgerSecond.slg.stale = (s.slg.stale || steamTooOld s.pst.workingPlant (satAdd 65535 1 s.slg.age)) := by
  unfold State.ledgerSecond State.rampSetpoints
  dsimp only
  split <;> simp [State.reallocate_slg, reallocated, State.steamSecond_slg]

/-- The ledger's second leaves the queue. -/
theorem State.ledgerSecond_queue (s : State) : s.ledgerSecond.slg.queue = s.slg.queue := by
  unfold State.ledgerSecond State.rampSetpoints
  dsimp only
  split <;> simp [State.reallocate_slg, reallocated, State.steamSecond_slg]

/-- The steam is too old where its age has reached the staleness value, and without a PLANT copy (R117). -/
theorem steamTooOld_iff (pl : Option Plant) (age : Nat) : steamTooOld pl age = true ↔ ∀ p ∈ pl.toList, p.steamStale ≤ age := by
  cases pl <;> simp [steamTooOld]

/-- The steam one second older with the setpoints moved (R117, R129). -/
def secondSetpoints (pl : Option Plant) (l : Ledger) : Ledger :=
  movedSetpoints { l with age := satAdd 65535 1 l.age, stale := l.stale || steamTooOld pl (satAdd 65535 1 l.age) }

theorem secondSetpoints_eq (s : State) : secondSetpoints s.pst.workingPlant s.slg = movedSetpoints s.steamSecond.slg := by
  rw [State.steamSecond_slg]
  rfl

/-- The ledger after its second: where no setpoint moves the allocation stays, where one does the steam is served again. -/
theorem State.ledgerSecond_cases (s : State) :
    let l := secondSetpoints s.pst.workingPlant s.slg
    (l.powerSetpoint = s.slg.powerSetpoint ∧ l.heatSetpoint = s.slg.heatSetpoint ∧ s.ledgerSecond.slg = l)
      ∨ (¬ (l.powerSetpoint = s.slg.powerSetpoint ∧ l.heatSetpoint = s.slg.heatSetpoint)
        ∧ s.ledgerSecond = (s.steamSecond.setSlg l).reallocate) := by
  have power : s.steamSecond.slg.powerSetpoint = s.slg.powerSetpoint := by rw [State.steamSecond_slg]
  have heat : s.steamSecond.slg.heatSetpoint = s.slg.heatSetpoint := by rw [State.steamSecond_slg]
  simp only [secondSetpoints_eq, ← power, ← heat]
  by_cases still : (movedSetpoints s.steamSecond.slg).powerSetpoint = s.steamSecond.slg.powerSetpoint
      ∧ (movedSetpoints s.steamSecond.slg).heatSetpoint = s.steamSecond.slg.heatSetpoint
  · obtain ⟨power, heat⟩ := still
    exact .inl ⟨power, heat, by rw [movedSetpoints_still power heat, State.ledgerSecond, State.rampSetpoints_still power heat]⟩
  · exact .inr ⟨still, State.rampSetpoints_moved still⟩

/-- The ledger that a second of its own leaves, from the state before the event: the setpoints moved by at most the ramp rate, the
allocation as it was where none moved, the steam served again where one did (R129). -/
theorem secondLedger_of {s v t : State} (vslg : v.slg = s.slg) (vplant : v.pst.workingPlant = s.pst.workingPlant)
    (tslg : t.slg = v.ledgerSecond.slg) (tplant : t.pst.workingPlant = v.pst.workingPlant) (grow : PortsGrow v.ledgerSecond t) :
    let l := secondSetpoints s.pst.workingPlant s.slg
    t.slg = { s.slg with
        age := satAdd 65535 1 s.slg.age, stale := t.slg.stale, powerSetpoint := l.powerSetpoint, heatSetpoint := l.heatSetpoint
        alloc := t.slg.alloc, shortfall := t.slg.shortfall, dumpOver := t.slg.dumpOver }
      ∧ (l.powerSetpoint = s.slg.powerSetpoint → l.heatSetpoint = s.slg.heatSetpoint →
        t.slg.alloc = s.slg.alloc ∧ t.slg.shortfall = s.slg.shortfall ∧ t.slg.dumpOver = s.slg.dumpOver)
      ∧ (¬ (l.powerSetpoint = s.slg.powerSetpoint ∧ l.heatSetpoint = s.slg.heatSetpoint) → ReallocatedFrom s t) := by
  have cases := v.ledgerSecond_cases
  simp only [vplant, vslg] at cases
  rcases cases with ⟨power, heat, still⟩ | ⟨moves, served⟩
  · rw [still] at tslg
    refine ⟨?_, fun _ _ => ?_, fun moves => absurd ⟨power, heat⟩ moves⟩
    · rw [tslg]
      rfl
    · rw [tslg]
      exact ⟨rfl, rfl, rfl⟩
  · rw [served] at tslg grow
    refine ⟨?_, fun power heat => absurd ⟨power, heat⟩ moves, fun _ => ?_⟩
    · rw [tslg, State.reallocate_slg]
      rfl
    · exact reallocatedFrom_of (u := v.steamSecond.setSlg (secondSetpoints s.pst.workingPlant s.slg)) rfl rfl tslg
        (by simpa using tplant) grow

/-! ## The ledger at a second event, in either order -/

/-- The ledger's own second is taken on a ledger with the age and the flag of the event's start, and with the whole of it where no order
falls due; what the other parts do after it leaves its age and its flag, and the whole of it likewise. -/
theorem State.blocksSecond_ledger (k : EventKind) (o : EventOrder) (s : State) :
    ∃ v : State, v.slg.age = s.slg.age ∧ v.slg.stale = s.slg.stale ∧ v.pst.workingPlant = s.pst.workingPlant
      ∧ (s.blocksSecond k o).slg.age = v.ledgerSecond.slg.age ∧ (s.blocksSecond k o).slg.stale = v.ledgerSecond.slg.stale
      ∧ (s.blocksSecond k o).pst.workingPlant = v.pst.workingPlant ∧ PortsGrow v.ledgerSecond (s.blocksSecond k o)
      ∧ (NoOrderDue k s → v.slg = s.slg ∧ (s.blocksSecond k o).slg = v.ledgerSecond.slg) := by
  unfold State.blocksSecond
  split
  · have kept := s.ledgerSecond.subEvents_kept k o.modeSeesOld o.order
    refine ⟨s, rfl, rfl, rfl, kept.steamAge, kept.stale, ?_, (PortsGrow.refl _).subEvents _ _ _, fun quiet => ⟨rfl, ?_⟩⟩
    · simpa using congrArg PermitStore.workingPlant kept.store
    · exact State.subEvents_slg (by simpa [NoOrderDue, State.ledgerSecond_queue] using quiet) _ _
  · have kept := s.subEvents_kept k o.modeSeesOld o.order
    refine ⟨s.subEvents k o.modeSeesOld o.order, kept.steamAge, kept.stale, ?_, rfl, rfl, ?_, PortsGrow.refl _,
      fun quiet => ⟨State.subEvents_slg quiet _ _, rfl⟩⟩
    · rw [kept.store]
    · simp

/-- The ages, the temperature and the store after the blocks have taken a second event, in every order drawn. -/
theorem State.blocksSecond_kept (k : EventKind) (free : Nat) (s : State) :
    (s.blocksSecond k (eventOrder free)).eau.sampleAge = satAdd 65535 1 s.eau.sampleAge
      ∧ (s.blocksSecond k (eventOrder free)).mode.tempAge = satAdd 65535 1 s.mode.tempAge
      ∧ (s.blocksSecond k (eventOrder free)).mode.temp = s.mode.temp
      ∧ ∃ p : PermitStore, (s.blocksSecond k (eventOrder free)).pst = { s.pst with
          workingLimits := p.workingLimits, workingTariff := p.workingTariff
          pendingLimits := p.pendingLimits, pendingTariff := p.pendingTariff } := by
  obtain ⟨emission, mode⟩ := eventOrder_once free
  unfold State.blocksSecond
  split
  · have kept := s.ledgerSecond.subEvents_kept k (eventOrder free).modeSeesOld (eventOrder free).order
    refine ⟨?_, ?_, ?_, (s.ledgerSecond.subEvents k (eventOrder free).modeSeesOld (eventOrder free).order).pst, ?_⟩
    · simpa [emission] using kept.sampleAge
    · simpa [mode] using kept.tempAge
    · simpa using kept.temp
    · simpa using kept.store
  · have kept := s.subEvents_kept k (eventOrder free).modeSeesOld (eventOrder free).order
    refine ⟨?_, ?_, ?_, (s.subEvents k (eventOrder free).modeSeesOld (eventOrder free).order).pst, ?_⟩
    · simpa [emission] using kept.sampleAge
    · simpa [mode] using kept.tempAge
    · simpa using kept.temp
    · simpa using kept.store

/-! ## The statement -/

/-- The machine as the blocks take the second event: the clock ticked, the leads met, the free value drawn. -/
def State.secondTicked (s : State) : State :=
  ((s.setClock (tickClock s.clock)).meetLeads (tickClock s.clock).latched.remaining (tickClock s.clock).latched.remaining).draw.2

/-- The second event is the blocks' work on it, in an order drawn. -/
theorem State.secondEvent_eq (s : State) :
    ∃ k free, k.time = advance s.clock.time
      ∧ k.wrapped = (decide (s.clock.time.day = 65535) && (advance s.clock.time).day == 0)
      ∧ s.secondEvent = s.secondTicked.blocksSecond k (eventOrder free) :=
  ⟨_, _, rfl, rfl, rfl⟩

/-- The blocks before they take the second event. -/
@[simp] theorem State.secondTicked_frame (s : State) :
    s.secondTicked.mode = s.mode ∧ s.secondTicked.eau = s.eau ∧ s.secondTicked.slg = s.slg ∧ s.secondTicked.fmu = s.fmu
      ∧ s.secondTicked.pst = s.pst ∧ s.secondTicked.freeIndex = s.freeIndex + 1 := by
  simp [State.secondTicked]

/-- The clock one second on, but for its leads. -/
theorem State.secondTicked_clock (s : State) :
    s.secondTicked.clock = { tickClock s.clock with leads := s.secondTicked.clock.leads } := by
  simp [State.secondTicked, State.meetLeads_clock]

/-- A lead equal to what now remains is met (R15). -/
theorem State.secondTicked_leads (p : Port) (s : State) :
    if 0 < s.clock.leads.get p ∧ s.clock.leads.get p = remainingOf s.secondTicked.clock.time then
      s.secondTicked.clock.leads.get p = 0 ∧ s.secondTicked.holds p .lead = true
    else s.secondTicked.clock.leads.get p = s.clock.leads.get p := by
  have remaining : (tickClock s.clock).latched.remaining = remainingOf s.secondTicked.clock.time := by
    rw [State.secondTicked_clock]
    rfl
  have met : LeadMet (tickClock s.clock).latched.remaining (tickClock s.clock).latched.remaining (s.clock.leads.get p) ↔
      0 < s.clock.leads.get p ∧ s.clock.leads.get p = remainingOf s.secondTicked.clock.time := by
    rw [LeadMet, remaining]
    omega
  rw [← if_congr met rfl rfl]
  exact meetLeads_effect _ _ p (s.setClock (tickClock s.clock))

/-- Settles O21: the clock's own work, then the blocks in whatever order was drawn. -/
theorem secondEventAdvancesTheClock : Obligations.SecondEventAdvancesTheClock := by
  unfold Obligations.SecondEventAdvancesTheClock
  intro s
  refine ⟨exec_secondEvent_stopped, fun running range => ?_⟩
  obtain ⟨k, free, ktime, kwrapped, second⟩ := s.secondEvent_eq
  have clock := s.secondTicked_clock
  have slg : s.secondTicked.slg = s.slg := by simp
  have pst : s.secondTicked.pst = s.pst := by simp
  have time : s.secondTicked.clock.time = advance s.clock.time := by rw [clock]; rfl
  obtain ⟨inRange, advanced⟩ := advance_spec range
  obtain ⟨sampleAge, tempAge, temp, p, store⟩ := s.secondTicked.blocksSecond_kept k free
  obtain ⟨v, vage, vstale, vplant, age, stale, plant, grow, quietly⟩ := s.secondTicked.blocksSecond_ledger k (eventOrder free)
  obtain ⟨ledgerAge, ledgerStale⟩ := v.ledgerSecond_steam
  refine ⟨_, exec_secondEvent_running running, ?_⟩
  rw [second]
  simp only [State.blocksSecond_frame, time, store, State.secondTicked_frame]
  refine ⟨inRange, advanced, ?_, ?_, ?_, ?_, ?_, fun q => ?_, by simpa [satAdd] using sampleAge,
    by simpa [satAdd] using tempAge, ?_, by simpa using temp,
    trivial, trivial, trivial, trivial, trivial, trivial, trivial, trivial, ?_, ?_⟩
  · rw [clock]
    exact running
  · rw [clock]
    rfl
  · rw [clock]
    rfl
  · rw [clock]
    rfl
  · rw [clock]
    rfl
  · have effect := s.secondTicked_leads q
    rw [time] at effect
    split
    · next met =>
      rw [if_pos met] at effect
      exact ⟨effect.1, ((PortsGrow.refl _).blocksSecond _ _).holds effect.2⟩
    · next unmet => rwa [if_neg unmet] at effect
  · rw [age, ledgerAge, vage, slg]
    rfl
  · have old : steamTooOld v.pst.workingPlant (satAdd 65535 1 v.slg.age) = true ↔
        ∀ pl ∈ s.pst.workingPlant.toList, pl.steamStale ≤ min 65535 (s.slg.age + 1) := by
      rw [vplant, vage, pst, slg, steamTooOld_iff]
      rfl
    refine ⟨?_, fun clear tooOld => ?_⟩
    · rw [stale, ledgerStale, Bool.or_eq_true, old, vstale, slg]
    · obtain ⟨pf, pd⟩ := State.holds_steamSecond (by rw [vstale, slg, clear]) (old.2 tooOld)
      have grown := ((PortsGrow.refl v.steamSecond).rampSetpoints).trans grow
      exact ⟨grown.holds pf, grown.holds pd⟩
  · intro quiet
    have noOrder : NoOrderDue k s.secondTicked := fun minute => by
      have key : s.secondTicked.clock.latched.minuteKey = minuteKeyOf (advance s.clock.time) := by rw [clock]; rfl
      rw [slg, key, kwrapped]
      rcases quiet with inside | ⟨later, queue⟩
      · rw [ktime, isMinute_advance_eq_false inside] at minute
        cases minute
      · exact ⟨not_wrapped_of_later range later, queue⟩
    obtain ⟨vslg, tslg⟩ := quietly noOrder
    exact secondLedger_of (vslg.trans slg) (by rw [vplant, pst]) tslg plant grow

end Sys2Proof.Machine
end

section
/-! SUPPORT and CERTIFICATE. Every step keeps the clock's law, and COLD while the clock is STOPPED (R1, R4, R5, R7, R14): the operations that a
STOPPED plant in COLD can meet leave it COLD, the clock's own rows keep its law, and every other row leaves the clock. -/

namespace Sys2Proof.Machine

/-! ## What a step keeps -/

/-- A change of state keeps the clock's law and the law of R7. -/
structure ClockKept (s t : State) : Prop where
  law  : ClockLaw s.clock → ClockLaw t.clock
  cold : StoppedIsCold s → StoppedIsCold t

theorem ClockKept.refl (s : State) : ClockKept s s := ⟨id, id⟩

theorem ClockKept.trans {s t u : State} (h : ClockKept s t) (k : ClockKept t u) : ClockKept s u :=
  ⟨k.law ∘ h.law, k.cold ∘ h.cold⟩

/-- A change that leaves the clock, and COLD, keeps both laws. -/
theorem ClockKept.of_cold {s t : State} (clock : t.clock = s.clock) (mode : s.mode.mode = .cold → t.mode.mode = .cold) :
    ClockKept s t :=
  ⟨fun law => clock ▸ law, fun cold stopped => mode (cold (clock ▸ stopped))⟩

/-- A change that leaves the clock and the mode controller keeps both laws. -/
theorem ClockKept.of_mode {s t : State} (clock : t.clock = s.clock) (mode : t.mode = s.mode) : ClockKept s t :=
  .of_cold clock fun cold => mode ▸ cold

/-- A change that can only be met while the clock runs keeps both laws where it leaves the clock. -/
theorem ClockKept.of_running {s t : State} (running : s.clock.run ≠ .stopped) (clock : t.clock = s.clock) : ClockKept s t :=
  ⟨fun law => clock ▸ law, fun _ stopped => absurd (clock ▸ stopped) running⟩

/-! ## COLD under the events of the other blocks (R18) -/

section Cold

variable {s : State} (cold : s.mode.mode = .cold)
include cold

theorem State.entryCheckWith_cold (lim : Option Limits) : s.entryCheckWith lim = s := by
  simp [State.entryCheckWith, State.plantMode, cold]

theorem State.holdArises_cold (alone : HoldCauses) (add : HoldCauses → HoldCauses) : s.holdArises alone add = s := by
  simp [State.holdArises, State.plantMode, cold]

theorem State.holdClears_cold (remove : HoldCauses → HoldCauses) : s.holdClears remove = s := by
  simp [State.holdClears, State.plantMode, cold]

theorem State.grateJamTrip_cold : s.grateJamTrip = s := by
  simp [State.grateJamTrip, State.plantMode, cold]

end Cold

/-- In COLD the controller takes a change at the rams and stays. -/
theorem State.handRams_cold (before : Nat) {s : State} (cold : s.mode.mode = .cold) : (s.handRams before).mode.mode = .cold := by
  have cold' : (s.setMode { s.mode with rams := s.sta.rams }).mode.mode = .cold := cold
  unfold State.handRams
  split
  · exact cold
  · dsimp only
    split
    · rw [State.holdArises_cold cold', State.entryCheck, State.entryCheckWith_cold cold']
      exact cold
    · rw [State.holdClears_cold cold', State.entryCheck, State.entryCheckWith_cold cold']
      exact cold

theorem State.putChannel_cold (ch : StrokeChannel) (r : StrokeRecord) {s : State} (cold : s.mode.mode = .cold) :
    (s.putChannel ch r).mode.mode = .cold :=
  State.handRams_cold _ (s := s.setSta (setRecord ch r s.sta)) cold

/-- In COLD the controller takes a change of cleaning and stays. -/
theorem State.takeCleaning_cold (a : Availability) {s : State} (cold : s.mode.mode = .cold) :
    (s.takeCleaning a).mode.mode = .cold := by
  have cold' : (s.setMode { s.mode with cleaning := a }).mode.mode = .cold := cold
  cases a with
  | unavailable =>
    simp only [State.takeCleaning, State.holdArises_cold cold', State.entryCheck, State.entryCheckWith_cold cold']
    exact cold
  | available =>
    simp only [State.takeCleaning, State.holdClears_cold cold', State.entryCheck, State.entryCheckWith_cold cold']
    exact cold

/-- In COLD a temperature is taken and compared with nothing (R20). -/
theorem State.takeTemperature_cold (t : Nat) {s : State} (cold : s.mode.mode = .cold) : (s.takeTemperature t).mode.mode = .cold := by
  have cold' : (s.setMode { s.mode with temp := some t, tempAge := 0 }).mode.mode = .cold := cold
  have compared (l : Limits) : (s.setMode { s.mode with temp := some t, tempAge := 0 }).compareTemperature l t =
      s.setMode { s.mode with temp := some t, tempAge := 0 } := by
    simp [State.compareTemperature, State.plantMode, cold]
  unfold State.takeTemperature
  cases s.limits <;> simp only [compared, State.entryCheck, State.entryCheckWith_cold cold'] <;> exact cold

/-- In COLD the expiries at the stroke channels leave the mode. -/
theorem State.expireLimit_cold (ch : StrokeChannel) {s : State} (cold : s.mode.mode = .cold) : (s.expireLimit ch).mode.mode = .cold := by
  unfold State.expireLimit
  split
  · split
    · exact State.putChannel_cold _ _ (by simpa using cold)
    · dsimp only [State.jamGrate]
      split
      · simpa using cold
      · rw [State.grateJamTrip_cold (by simpa using cold)]
        simpa using cold
  · exact cold

theorem State.expire_cold (ch : StrokeChannel) {s : State} (cold : s.mode.mode = .cold) : (s.expire ch).mode.mode = .cold :=
  State.expireLimit_cold ch (by simpa using cold)

/-! ## The rows that are no command of the clock -/

theorem expire_clockKept (s : State) (ch : StrokeChannel) : ClockKept s (s.expire ch) :=
  .of_cold (by simp) (State.expire_cold ch)

theorem foldl_expire_clockKept (chs : List StrokeChannel) (s : State) : ClockKept s (chs.foldl State.expire s) := by
  induction chs generalizing s with
  | nil => exact .refl s
  | cons ch chs ih => exact (expire_clockKept s ch).trans (ih _)

theorem strokeUnit_clockKept (s : State) : ClockKept s s.strokeUnit := by
  have all : ClockKept s s.expireAll := by
    unfold State.expireAll
    split
    · exact foldl_expire_clockKept _ s
    · exact .trans (.of_mode (by simp) (by simp)) (foldl_expire_clockKept _ s.draw.2)
  exact all.trans (.of_mode rfl rfl)

/-- START from a port (R25): refused while the clock is STOPPED. -/
theorem doStart_clockKept (p : Port) (s : State) : ClockKept s (s.doStart p).1 := by
  unfold State.doStart
  split
  · exact .refl s
  split
  · exact .refl s
  split
  · exact .refl s
  · next running =>
    split
    · exact .refl s
    · exact .of_running running (by simp)

theorem doFeed_clockKept (p : Port) (s : State) : ClockKept s (s.doFeed p).1 := by
  unfold State.doFeed
  split
  · exact .refl s
  split
  · exact .refl s
  · next warming => exact .of_cold (by simp) fun cold => absurd (by simp [State.plantMode, cold]) warming

theorem doStop_clockKept (s : State) : ClockKept s s.doStop.1 := by
  rcases hm : s.mode.mode with _ | _ | _ | _ | _ | _ <;> simp only [State.doStop, State.plantMode, hm]
  case cold => exact .refl s
  case burnout => exact .refl s
  case tripped => exact .refl s
  all_goals exact .of_cold (by simp) fun cold => absurd (cold.symm.trans hm) nofun

/-- TRIP from a port (R31): refused while the clock is STOPPED. -/
theorem doTrip_clockKept (p : Port) (cause : BitVec 8) (s : State) : ClockKept s (s.doTrip p cause).1 := by
  unfold State.doTrip
  split
  · exact .refl s
  split
  · exact .refl s
  · next running => exact .of_running running (by simp)

theorem doClearTrip_clockKept (p : Port) (s : State) : ClockKept s (s.doClearTrip p).1 := by
  unfold State.doClearTrip
  split
  · exact .refl s
  split
  · exact .refl s
  · next tripped =>
    split
    · exact .refl s
    · exact .of_cold (by simp) fun cold => absurd (by simp [State.plantMode, cold]) tripped

theorem doPostTemperature_clockKept (p : Port) (value : BitVec 16) (s : State) : ClockKept s (s.doPostTemperature p value).1 := by
  unfold State.doPostTemperature
  split
  · exact .refl s
  · exact .of_cold (by simp) (State.takeTemperature_cold _)

theorem doSetCleaning_clockKept (p : Port) (a : BitVec 8) (s : State) : ClockKept s (s.doSetCleaning p a).1 := by
  unfold State.doSetCleaning
  split
  · exact .refl s
  split
  · exact .refl s
  split
  · exact .refl s
  · exact .of_cold (by simp) fun cold => State.takeCleaning_cold _ (by simpa using cold)

theorem doSetChannel_clockKept (p : Port) (number enabled source : BitVec 8) (fixedPeriod : BitVec 16) (s : State) :
    ClockKept s (s.doSetChannel p number enabled source fixedPeriod).1 := by
  unfold State.doSetChannel
  split
  · exact .refl s
  split
  · exact .of_cold (by simp) (State.putChannel_cold _ _)
  · exact .refl s

theorem doClearJam_clockKept (p : Port) (number : BitVec 8) (s : State) : ClockKept s (s.doClearJam p number).1 := by
  unfold State.doClearJam
  split
  · exact .refl s
  split
  · exact .refl s
  split
  · exact .of_cold (by simp) (State.putChannel_cold _ _)
  · exact .refl s

end Sys2Proof.Machine
end

section
/-! SUPPORT and CERTIFICATE. The commands and the events of the links under the clock's law, the clock's own rows, and the statement that every
step keeps it. -/

namespace Sys2Proof.Machine

/-! ## Commands that leave the clock and the mode controller -/

theorem doPostSamples_frame (p : Port) (o2 : BitVec 16) (o2Status : BitVec 8) (entries : List SampleEntry) (s : State) :
    (s.doPostSamples p o2 o2Status entries).1.clock = s.clock ∧ (s.doPostSamples p o2 o2Status entries).1.mode = s.mode := by
  have set (x : SampleSet) : (s.doSampleSet x).1.clock = s.clock ∧ (s.doSampleSet x).1.mode = s.mode := by
    unfold State.doSampleSet
    (repeat' split) <;> simp
  unfold State.doPostSamples
  (repeat' split) <;> simp [set]

theorem doSetReagents_frame (p : Port) (a b c : ReagentArgs) (s : State) :
    (s.doSetReagents p a b c).1.clock = s.clock ∧ (s.doSetReagents p a b c).1.mode = s.mode := by
  unfold State.doSetReagents
  (repeat' split) <;> simp

theorem doClearHistory_frame (p : Port) (s : State) :
    (s.doClearHistory p).1.clock = s.clock ∧ (s.doClearHistory p).1.mode = s.mode := by
  unfold State.doClearHistory
  (repeat' split) <;> simp

theorem doSetBoilerLimit_frame (p : Port) (limit : BitVec 16) (s : State) :
    (s.doSetBoilerLimit p limit).1.clock = s.clock ∧ (s.doSetBoilerLimit p limit).1.mode = s.mode := by
  unfold State.doSetBoilerLimit
  split <;> simp

theorem doSetLanes_frame (p : Port) (split massA massB : BitVec 16) (s : State) :
    (s.doSetLanes p split massA massB).1.clock = s.clock ∧ (s.doSetLanes p split massA massB).1.mode = s.mode := by
  unfold State.doSetLanes
  split <;> simp

theorem doPostSteam_frame (p : Port) (flow : BitVec 16) (s : State) :
    (s.doPostSteam p flow).1.clock = s.clock ∧ (s.doPostSteam p flow).1.mode = s.mode := by
  unfold State.doPostSteam
  split <;> simp

theorem doSetAuxDemand_frame (p : Port) (demand : BitVec 16) (s : State) :
    (s.doSetAuxDemand p demand).1.clock = s.clock ∧ (s.doSetAuxDemand p demand).1.mode = s.mode := by
  unfold State.doSetAuxDemand
  split <;> simp

theorem doSetConsumers_frame (p : Port) (turbine extraction : BitVec 8) (s : State) :
    (s.doSetConsumers p turbine extraction).1.clock = s.clock ∧ (s.doSetConsumers p turbine extraction).1.mode = s.mode := by
  unfold State.doSetConsumers
  (repeat' split) <;> simp

theorem doPostOrder_frame (p : Port) (args : OrderArgs) (s : State) :
    (s.doPostOrder p args).1.clock = s.clock ∧ (s.doPostOrder p args).1.mode = s.mode := by
  have placed (o : Order) (c : Bool) : (s.placeOrder o c).1.clock = s.clock ∧ (s.placeOrder o c).1.mode = s.mode := by
    dsimp only [State.placeOrder]
    (repeat' split) <;> simp
  unfold State.doPostOrder
  (repeat' split) <;> simp [placed]

theorem doCancelOrders_frame (p : Port) (tag : BitVec 16) (s : State) :
    (s.doCancelOrders p tag).1.clock = s.clock ∧ (s.doCancelOrders p tag).1.mode = s.mode := by
  unfold State.doCancelOrders
  split <;> simp

theorem doPostEnergy_frame (p : Port) (exported heat : BitVec 32) (s : State) :
    (s.doPostEnergy p exported heat).1.clock = s.clock ∧ (s.doPostEnergy p exported heat).1.mode = s.mode := by
  unfold State.doPostEnergy
  split <;> simp

theorem doRestoreMeters_frame (p : Port) (totals : MeterArgs) (s : State) :
    (s.doRestoreMeters p totals).1.clock = s.clock ∧ (s.doRestoreMeters p totals).1.mode = s.mode := by
  unfold State.doRestoreMeters
  (repeat' split) <;> simp

theorem doFreshMeters_frame (p : Port) (s : State) :
    (s.doFreshMeters p).1.clock = s.clock ∧ (s.doFreshMeters p).1.mode = s.mode := by
  unfold State.doFreshMeters
  (repeat' split) <;> simp

theorem refuseStore_frame (p : Port) (status : Status) (s : State) :
    (s.refuseStore p status).1.clock = s.clock ∧ (s.refuseStore p status).1.mode = s.mode := by
  simp [State.refuseStore]

theorem doProgramSection_frame (p : Port) (number : BitVec 8) (image : List Byte) (s : State) :
    (s.doProgramSection p number image).1.clock = s.clock ∧ (s.doProgramSection p number image).1.mode = s.mode := by
  have programmed (sec : PermitSection) :
      (s.programSection p sec image).1.clock = s.clock ∧ (s.programSection p sec image).1.mode = s.mode := by
    unfold State.programSection
    (repeat' split) <;> simp [refuseStore_frame]
  unfold State.doProgramSection
  split <;> simp [refuseStore_frame, programmed]

theorem doLockSection_frame (p : Port) (number : BitVec 8) (s : State) :
    (s.doLockSection p number).1.clock = s.clock ∧ (s.doLockSection p number).1.mode = s.mode := by
  have locked (sec : PermitSection) : (s.lockSection p sec).1.clock = s.clock ∧ (s.lockSection p sec).1.mode = s.mode := by
    unfold State.lockSection
    (repeat' split) <;> simp [refuseStore_frame]
  unfold State.doLockSection
  split <;> simp [refuseStore_frame, locked]

theorem runRead_frame (p : Port) (cmd : ReadCmd) (s : State) :
    (s.runRead p cmd).1.clock = s.clock ∧ (s.runRead p cmd).1.mode = s.mode := by
  cases cmd with
  | notices clear =>
    simp only [State.runRead, State.readNotices]
    (repeat' split) <;> simp
  | _ => exact ⟨rfl, rfl⟩

/-! ## The commands of the clock -/

/-- The clock law in terms of its parts, for a clock just latched. -/
theorem clockLaw_latch {c : Clock} (time : TimeInRange c.time) (low : 1 ≤ c.divisor) (high : c.divisor ≤ 65536) (offset : c.offset ≤ 6)
    (scaler : c.scaler = 0) (pf : c.leads.pf ≤ 1800) (pg : c.leads.pg ≤ 1800) (pd : c.leads.pd ≤ 1800) : ClockLaw (latch c) :=
  ⟨time, low, high, offset, by simp only [latch]; omega, fun _ => scaler, pf, pg, pd, rfl⟩

theorem doSetTime_clockKept (p : Port) (day : BitVec 16) (hour minute second : BitVec 8) (divisor : BitVec 24) (offset : BitVec 8)
    (s : State) : ClockKept s (s.doSetTime p day hour minute second divisor offset).1 := by
  unfold State.doSetTime
  split
  · exact .refl s
  split
  · exact .refl s
  split
  · next inRange =>
    obtain ⟨hour, minute, second, low, high, offset⟩ := (timeInRange_iff _ _ _ _ _).1 inRange
    refine ⟨fun law => ?_, fun cold => cold⟩
    obtain ⟨-, -, -, -, -, -, pf, pg, pd, -⟩ := law
    exact clockLaw_latch ⟨Nat.le_of_lt_succ day.isLt, hour, minute, second⟩ low high offset rfl pf pg pd
  · exact .refl s

theorem doSetLead_clockKept (p : Port) (lead : BitVec 16) (s : State) : ClockKept s (s.doSetLead p lead).1 := by
  unfold State.doSetLead
  split
  · exact .refl s
  · next inRange =>
    refine ⟨fun law => ?_, fun cold => cold⟩
    obtain ⟨time, low, high, offset, scaler, stopped, pf, pg, pd, latched⟩ := law
    have le := Nat.not_lt.1 inRange
    cases p with
    | pf => exact ⟨time, low, high, offset, scaler, stopped, le, pg, pd, latched⟩
    | pg => exact ⟨time, low, high, offset, scaler, stopped, pf, le, pd, latched⟩
    | pd => exact ⟨time, low, high, offset, scaler, stopped, pf, pg, le, latched⟩

theorem doStartClock_clockKept (p : Port) (s : State) : ClockKept s (s.doStartClock p).1 := by
  unfold State.doStartClock
  split
  · exact .refl s
  split
  · exact .refl s
  split
  · exact .refl s
  · refine ⟨fun law => ?_, fun _ stopped => ?_⟩
    · obtain ⟨time, low, high, offset, -, -, pf, pg, pd, -⟩ := law
      rw [s.startRunning_frame.1]
      exact clockLaw_latch time low high offset rfl pf pg pd
    · simp [latch] at stopped

/-- STOP_CLOCK leaves the mode, which is COLD where it is accepted (R11). -/
theorem doStopClock_clockKept (p : Port) (s : State) : ClockKept s (s.doStopClock p).1 := by
  unfold State.doStopClock
  split
  · exact .refl s
  split
  · exact .refl s
  split
  · exact .refl s
  · next cold =>
    have clock : s.stopRunning.clock = latch { s.clock with run := .stopped, scaler := 0 } := by simp [State.stopRunning]
    refine ⟨fun law => ?_, fun _ _ => ?_⟩
    · obtain ⟨time, low, high, offset, -, -, pf, pg, pd, -⟩ := law
      rw [clock]
      exact clockLaw_latch time low high offset rfl pf pg pd
    · simpa [State.stopRunning, State.plantMode] using cold

/-- Leads met are disarmed, which the clock's law allows (R14, R15). -/
theorem ClockLaw.meetLeads {s : State} (law : ClockLaw s.clock) (lo hi : Nat) : ClockLaw (s.meetLeads lo hi).clock := by
  obtain ⟨time, low, high, offset, scaler, stopped, pf, pg, pd, latched⟩ := law
  have le {lead : Nat} (h : lead ≤ 1800) : (if LeadMet lo hi lead then 0 else lead) ≤ 1800 := by
    split
    · exact Nat.zero_le _
    · exact h
  rw [State.meetLeads_clock]
  exact ⟨time, low, high, offset, scaler, stopped, le pf, le pg, le pd, latched⟩

/-- A step keeps the counters in their ranges: the day and the hour stay. -/
theorem steppedTime_inRange {t : ClockTime} (range : TimeInRange t) (shift : Int) : TimeInRange (steppedTime t shift) := by
  obtain ⟨day, hour, -, -⟩ := range
  exact ⟨day, hour, Nat.le_of_lt_succ (Nat.mod_lt _ (by decide)), Nat.le_of_lt_succ (Nat.mod_lt _ (by decide))⟩

theorem State.stepped_law {s : State} (law : ClockLaw s.clock) (shift : Int) : ClockLaw (s.stepped shift).clock := by
  obtain ⟨time, low, high, offset, scaler, stopped, pf, pg, pd, latched⟩ := law
  have copied : s.clock.latched.time = s.clock.time := by rw [latched]; rfl
  have stepped : TimeInRange (steppedTime s.clock.latched.time shift) := steppedTime_inRange (by rwa [copied]) shift
  exact ⟨stepped, low, high, offset, scaler, stopped, pf, pg, pd, rfl⟩

theorem doAdjustClock_clockKept (p : Port) (shift : BitVec 8) (s : State) : ClockKept s (s.doAdjustClock p shift).1 := by
  unfold State.doAdjustClock
  split
  · exact .refl s
  split
  · exact .refl s
  split
  · exact .refl s
  split
  · exact .refl s
  split
  · exact .refl s
  · next running _ _ _ =>
    by_cases forward : 0 < shift.toInt
    · have clock : (s.stepClock shift.toInt).clock = (s.steppedForward shift.toInt).clock := by
        rw [State.stepClock_forward s forward]
        simp
      refine ⟨fun law => clock ▸ (State.stepped_law law _).meetLeads _ _, fun _ stopped => absurd ?_ running⟩
      rwa [clock, State.steppedForward_clock] at stopped
    · rw [State.stepClock_backward s forward]
      exact ⟨fun law => State.stepped_law law _, fun _ stopped => absurd stopped running⟩

/-! ## The edges of REFCK -/

/-- A second event of a running clock (R2). -/
theorem secondEvent_clockKept {s : State} (running : s.clock.run = .running) : ClockKept s s.secondEvent := by
  have clock : s.secondEvent.clock = s.secondTicked.clock := by
    obtain ⟨k, free, -, -, second⟩ := s.secondEvent_eq
    simp [second]
  refine ⟨fun law => ?_, fun _ stopped => ?_⟩
  · obtain ⟨time, low, high, offset, -, -, pf, pg, pd, -⟩ := law
    have ticked : ClockLaw (s.setClock (tickClock s.clock)).clock :=
      clockLaw_latch (advance_spec time).1 low high offset rfl pf pg pd
    exact clock ▸ ticked.meetLeads _ _
  · rw [clock, State.secondTicked_clock] at stopped
    exact absurd (running.symm.trans stopped) nofun

/-- An edge counted, or the second event that it raises (R1). -/
theorem refckEdge_clockKept (s : State) : ClockKept s s.refckEdge := by
  unfold State.refckEdge
  split
  · exact .refl s
  · next running =>
    split
    · next below =>
      refine ⟨fun law => ?_, fun cold => cold⟩
      obtain ⟨time, low, high, offset, -, -, rest⟩ := law
      exact ⟨time, low, high, offset, below, fun stopped => absurd (running.symm.trans stopped) nofun, rest⟩
    · exact secondEvent_clockKept running

/-! ## The takes of a frame -/

theorem setPort_clockKept (p : Port) (c : PortCtl) (s : State) : ClockKept s (s.setPort p c) := .of_mode rfl rfl

theorem takeWrite_clockKept {p : Port} {run : State → State × Reply} (kept : ∀ u, ClockKept u (run u).1) (s : State) :
    ClockKept s (s.takeWrite p run) :=
  ((setPort_clockKept _ _ s).trans (kept (s.beginTake p))).trans (.of_mode rfl rfl)

theorem takeRead_clockKept (p : Port) (rep : Bool) (cmd : ReadCmd) (s : State) : ClockKept s (s.takeRead p rep cmd) := by
  obtain ⟨clock, mode⟩ := runRead_frame p cmd (s.beginTake p)
  dsimp only [State.takeRead]
  split
  · exact .of_mode clock mode
  · exact .of_mode clock mode

theorem takeFetch_clockKept (p : Port) (s : State) : ClockKept s (s.takeFetch p) := by
  unfold State.takeFetch
  dsimp only
  split
  · exact .of_mode rfl rfl
  · next cmd _ _ =>
    obtain ⟨clock, mode⟩ := runRead_frame p cmd (s.setPort p { taken (s.port p) with link := .active })
    exact .of_mode clock mode
  · exact .of_mode rfl rfl

/-- A frame handed to its command. -/
theorem takeFrame_clockKept (i : Instr) (s : State) : ClockKept s (s.takeFrame i) := by
  cases i with
  | setTime => exact takeWrite_clockKept (doSetTime_clockKept _ _ _ _ _ _ _) s
  | startClock => exact takeWrite_clockKept (doStartClock_clockKept _) s
  | stopClock => exact takeWrite_clockKept (doStopClock_clockKept _) s
  | adjustClock => exact takeWrite_clockKept (doAdjustClock_clockKept _ _) s
  | setLead => exact takeWrite_clockKept (doSetLead_clockKept _ _) s
  | start => exact takeWrite_clockKept (doStart_clockKept _) s
  | feed => exact takeWrite_clockKept (doFeed_clockKept _) s
  | stop => exact takeWrite_clockKept doStop_clockKept s
  | trip => exact takeWrite_clockKept (doTrip_clockKept _ _) s
  | clearTrip => exact takeWrite_clockKept (doClearTrip_clockKept _) s
  | postTemperature => exact takeWrite_clockKept (doPostTemperature_clockKept _ _) s
  | setCleaning => exact takeWrite_clockKept (doSetCleaning_clockKept _ _) s
  | setChannel => exact takeWrite_clockKept (doSetChannel_clockKept _ _ _ _ _) s
  | clearJam => exact takeWrite_clockKept (doClearJam_clockKept _ _) s
  | postSamples p o2 o2Status entries => exact takeWrite_clockKept (fun u => (doPostSamples_frame p o2 o2Status entries u).elim .of_mode) s
  | setReagents p a b c => exact takeWrite_clockKept (fun u => (doSetReagents_frame p a b c u).elim .of_mode) s
  | clearHistory p => exact takeWrite_clockKept (fun u => (doClearHistory_frame p u).elim .of_mode) s
  | setBoilerLimit p limit => exact takeWrite_clockKept (fun u => (doSetBoilerLimit_frame p limit u).elim .of_mode) s
  | setLanes p split massA massB => exact takeWrite_clockKept (fun u => (doSetLanes_frame p split massA massB u).elim .of_mode) s
  | postSteam p flow => exact takeWrite_clockKept (fun u => (doPostSteam_frame p flow u).elim .of_mode) s
  | setAuxDemand p demand => exact takeWrite_clockKept (fun u => (doSetAuxDemand_frame p demand u).elim .of_mode) s
  | setConsumers p turbine extraction =>
    exact takeWrite_clockKept (fun u => (doSetConsumers_frame p turbine extraction u).elim .of_mode) s
  | postOrder p order => exact takeWrite_clockKept (fun u => (doPostOrder_frame p order u).elim .of_mode) s
  | cancelOrders p tag => exact takeWrite_clockKept (fun u => (doCancelOrders_frame p tag u).elim .of_mode) s
  | postEnergy p exported heat => exact takeWrite_clockKept (fun u => (doPostEnergy_frame p exported heat u).elim .of_mode) s
  | restoreMeters p totals => exact takeWrite_clockKept (fun u => (doRestoreMeters_frame p totals u).elim .of_mode) s
  | freshMeters p => exact takeWrite_clockKept (fun u => (doFreshMeters_frame p u).elim .of_mode) s
  | enableWrite p => exact takeWrite_clockKept (fun u => .of_mode rfl rfl) s
  | programSection p number image => exact takeWrite_clockKept (fun u => (doProgramSection_frame p number image u).elim .of_mode) s
  | lockSection p number => exact takeWrite_clockKept (fun u => (doLockSection_frame p number u).elim .of_mode) s
  | readClock p rep => exact takeRead_clockKept p rep _ s
  | readMode p rep => exact takeRead_clockKept p rep _ s
  | readAccumulators p rep => exact takeRead_clockKept p rep _ s
  | readHistory p rep period count => exact takeRead_clockKept p rep _ s
  | readDays p rep day count => exact takeRead_clockKept p rep _ s
  | readEnvelope p rep => exact takeRead_clockKept p rep _ s
  | readDemand p rep => exact takeRead_clockKept p rep _ s
  | readChannels p rep => exact takeRead_clockKept p rep _ s
  | readLedger p rep => exact takeRead_clockKept p rep _ s
  | readOrders p rep => exact takeRead_clockKept p rep _ s
  | readMeters p rep => exact takeRead_clockKept p rep _ s
  | storeStatus p rep => exact takeRead_clockKept p rep _ s
  | readSection p rep number selector => exact takeRead_clockKept p rep _ s
  | readNotices p rep clear => exact takeRead_clockKept p rep _ s
  | fetch p => exact takeFetch_clockKept p s
  | setQuiet p mask => exact .of_mode rfl rfl
  | portReset p => exact .of_mode rfl rfl
  | _ => exact .refl s

/-- A transaction of whole bytes, whatever frame they make. -/
theorem transaction_clockKept (p : Port) (bytes : List Byte) (cut : Bool) (s : State) : ClockKept s (s.transaction p bytes cut) := by
  have frame (f : List Byte) : ClockKept s (s.takeBytes p f) := by
    unfold State.takeBytes
    split
    · exact .of_mode rfl rfl
    · exact .of_mode rfl rfl
    · exact .of_mode rfl rfl
    · exact takeFrame_clockKept _ s
  unfold State.transaction
  split
  · exact setPort_clockKept _ _ s
  split
  · exact .of_mode rfl rfl
  · unfold State.receive
    split
    · exact setPort_clockKept _ _ s
    · exact setPort_clockKept _ _ s
    · exact .of_mode rfl rfl
    · exact frame _

/-- The arrival of a command row. -/
theorem arrive_clockKept (p : Port) (i : Instr) (s : State) : ClockKept s (s.arrive p i) := by
  unfold State.arrive
  split
  · exact setPort_clockKept _ _ s
  split
  · exact takeFrame_clockKept i s
  split
  · exact .of_mode rfl rfl
  · exact transaction_clockKept _ _ _ s

/-! ## The statement -/

/-- A row that is a command on a port is the arrival of its frame. -/
theorem exec_command {i : Instr} {p : Port} (h : i.port? = some p) (s : State) : exec i s = .next (s.arrive p i) := by
  cases i <;> cases h <;> rfl

/-- Power-on takes the clock to STOPPED and the mode to COLD (R16, R36). -/
theorem powerOn_clockKept (s : State) : ClockKept s s.powerOn := by
  have lawful : ClockLaw Clock.reset := by decide
  exact ⟨fun _ => lawful, fun _ _ => rfl⟩

/-- The fall of RSTN leaves the clock but its leads, and COLD (R17, R37). -/
theorem pinReset_clockKept (s : State) : ClockKept s s.pinReset := by
  unfold State.pinReset
  split
  · exact .refl s
  · have clock : s.loadStore.pinResetBlocks.clock = { s.clock with leads := ⟨0, 0, 0⟩ } := by simp [State.pinResetBlocks]
    refine ⟨fun law => ?_, fun cold stopped => ?_⟩
    · obtain ⟨time, low, high, offset, scaler, stopped, -, -, -, latched⟩ := law
      rw [clock]
      exact ⟨time, low, high, offset, scaler, stopped, Nat.zero_le _, Nat.zero_le _, Nat.zero_le _, latched⟩
    · rw [clock] at stopped
      simp [State.pinResetBlocks, resetMode, cold stopped]

theorem releaseReset_clockKept (s : State) : ClockKept s s.releaseReset := by
  unfold State.releaseReset
  split
  · exact .of_mode rfl rfl
  · exact .refl s

/-- Every row keeps both laws. -/
theorem exec_clockKept {i : Instr} {s t : State} (h : exec i s = .next t) : ClockKept s t := by
  rcases command : i.port? with _ | p
  · cases i with
    | powerOn => cases h; exact powerOn_clockKept s
    | pinReset => cases h; exact pinReset_clockKept s
    | pinResetRelease => cases h; exact releaseReset_clockKept s
    | refckEdge => cases h; exact refckEdge_clockKept s
    | secondEvent =>
      rcases hrun : s.clock.run with _ | _
      · cases (exec_secondEvent_stopped hrun).symm.trans h
        exact .refl s
      · cases (exec_secondEvent_running hrun).symm.trans h
        exact secondEvent_clockKept hrun
    | strokeUnitTick => cases h; exact strokeUnit_clockKept s
    | periodExpiry ch => cases h; exact .of_mode (by simp) (by simp)
    | strokeLimitExpiry ch => cases h; exact .of_cold (by simp) (State.expireLimit_cold ch)
    | eosArrival ch => cases h; exact .of_mode (by simp) (by simp)
    | programmingCompletion => cases h; exact .of_mode (by simp) (by simp)
    | lockCompletion => cases h; exact .of_mode (by simp) (by simp)
    | badFrame p bytes => cases h; exact transaction_clockKept p bytes false s
    | frameSuspend p bytes => cases h; exact transaction_clockKept p bytes false s
    | frameResume p => cases h; exact setPort_clockKept _ _ s
    | frameTimeout p =>
      cases h
      unfold State.timeoutFrame
      split
      · exact setPort_clockKept _ _ s
      · exact .refl s
    | linkError p bytes => cases h; exact transaction_clockKept p bytes true s
    | _ => cases command
  · cases (exec_command command s).symm.trans h
    exact arrive_clockKept p i s

/-- Settles O25: the row at the front of the queue keeps both laws, and an empty queue idles. -/
theorem clockLawsKept : Obligations.ClockLawsKept := by
  unfold Obligations.ClockLawsKept
  intro s t h
  have kept : ClockKept s t := by
    unfold step at h
    split at h
    · cases h
      exact .refl s
    · next c rest _ => exact .trans (.of_mode (t := { s with pending := rest }) rfl rfl) (exec_clockKept h)
  exact ⟨kept.law, kept.cold⟩

end Sys2Proof.Machine
end

section
/-! SUPPORT. The stroke timer array under the grants and the PLANT copies that reach it: what either can do to one channel, and one lemma for
each operation that reaches the array through the grant alone (R106, R109 to R111). -/

namespace Sys2Proof.Machine

/-! ## One channel -/

/-- What grants and PLANT copies can do to a channel: nothing; to one in DWELL or STROKE another preload; to one in WAIT its release under
a new period and limit (R109 to R111). -/
inductive Readied (r : StrokeRecord) : StrokeRecord → Prop
  | same : Readied r r
  | preloaded (p : Option Nat) (cycles : r.state = .dwell ∨ r.state = .stroke) : Readied r { r with preload := p }
  | released (p : Option Nat) (period limit : Nat) (waits : r.state = .wait) :
      Readied r { r with state := .dwell, counter := 0, preload := p, period := period, limit := limit }

theorem Readied.trans {r x y : StrokeRecord} (first : Readied r x) (second : Readied x y) : Readied r y := by
  cases first with
  | same => exact second
  | preloaded p cycles =>
    cases second with
    | same => exact .preloaded p cycles
    | preloaded q _ => exact .preloaded q cycles
    | released q period limit waits => exact absurd waits (by rcases cycles with h | h <;> simp [h])
  | released p period limit waits =>
    cases second with
    | same => exact .released p period limit waits
    | preloaded q _ => exact .released q period limit waits
    | released q _ _ dwells => cases dwells

/-- The settings of a channel stay, and it is JAMMED or OFF where it was. -/
theorem Readied.kept {r x : StrokeRecord} (h : Readied r x) :
    x.enabled = r.enabled ∧ x.source = r.source ∧ x.fixedPeriod = r.fixedPeriod ∧ (x.state = .jammed ↔ r.state = .jammed)
      ∧ (x.state = .off ↔ r.state = .off) := by
  cases h with
  | same => simp
  | preloaded p cycles => simp
  | released p period limit waits => simp [waits]

/-- A channel that is JAMMED or OFF stays as it is. -/
theorem Readied.eq_of_still {r x : StrokeRecord} (h : Readied r x) (still : r.state = .jammed ∨ r.state = .off) : x = r := by
  cases h with
  | same => rfl
  | preloaded p cycles => rcases still with h | h <;> simp [h] at cycles
  | released p period limit waits => rcases still with h | h <;> simp [h] at waits

/-- A channel in DWELL or STROKE has another preload at most. -/
theorem Readied.eq_of_cycling {r x : StrokeRecord} (h : Readied r x) (cycles : r.state = .dwell ∨ r.state = .stroke) :
    x = { r with preload := x.preload } := by
  cases h with
  | same => rfl
  | preloaded p _ => rfl
  | released p period limit waits => rcases cycles with h | h <;> simp [h] at waits

theorem cycling_iff (r : StrokeRecord) : cycling r = true ↔ r.state = .dwell ∨ r.state = .stroke := by simp [cycling]

theorem writePreload_readied (mode : Mode) (pl : Option Plant) (a : StrokeArray) (ch : StrokeChannel) (r : StrokeRecord) :
    Readied r (writePreload mode pl a ch r) := by
  unfold writePreload
  split
  · next cycles =>
    split
    · exact .preloaded _ ((cycling_iff r).1 cycles)
    · exact .same
  · exact .same

theorem releaseWait_readied (mode : Mode) (pl : Option Plant) (a : StrokeArray) (ch : StrokeChannel) (r : StrokeRecord) :
    Readied r (releaseWait mode pl a ch r) := by
  unfold releaseWait
  split
  · next waits => exact .released _ _ _ waits.1
  · exact .same

/-! ## The array -/

/-- What the hand-over of grants can do to the array: the grant and the lanes, and its AUTO channels readied. -/
structure GrantsHanded (a b : StrokeArray) : Prop where
  items   : b = { a with grant := b.grant, laneA := b.laneA, laneB := b.laneB, channels := b.channels }
  lanes   : (b.grant = a.grant ∧ b.laneA = a.laneA ∧ b.laneB = a.laneB) ∨ LaneLaw b
  channel : ∀ ch, Readied (a.channels.get ch) (b.channels.get ch)
  fixed   : ∀ ch, (a.channels.get ch).source = .fixed → b.channels.get ch = a.channels.get ch

@[simp] theorem GrantsHanded.refl (a : StrokeArray) : GrantsHanded a a := ⟨rfl, .inl ⟨rfl, rfl, rfl⟩, fun _ => .same, fun _ _ => rfl⟩

theorem GrantsHanded.trans {a b c : StrokeArray} (first : GrantsHanded a b) (second : GrantsHanded b c) : GrantsHanded a c := by
  refine ⟨?_, ?_, fun ch => (first.channel ch).trans (second.channel ch), fun ch fixed => ?_⟩
  · rw [second.items, first.items]
  · rcases second.lanes with ⟨grant, laneA, laneB⟩ | law
    · have split : c.split = b.split := by rw [second.items]
      rcases first.lanes with ⟨grant', laneA', laneB'⟩ | law
      · exact .inl ⟨grant.trans grant', laneA.trans laneA', laneB.trans laneB'⟩
      · exact .inr (by simpa only [LaneLaw, grant, laneA, laneB, split] using law)
    · exact .inr law
  · have same := first.fixed ch fixed
    exact (second.fixed ch (by rw [same, fixed])).trans same

/-- A channel after the lanes have been formed again: AUTO, its preload written or its wait ended; FIXED, as it was. -/
theorem relane_channel (mode : Mode) (pl : Option Plant) (a : StrokeArray) (ch : StrokeChannel) :
    (relane mode pl a).channels.get ch =
      if (a.channels.get ch).source = .auto then
        releaseWait mode pl (withLanes a) ch (writePreload mode pl (withLanes a) ch (a.channels.get ch))
      else a.channels.get ch := by
  simp only [relane, PerStroke.get_map]
  rfl

theorem relane_readied (mode : Mode) (pl : Option Plant) (a : StrokeArray) (ch : StrokeChannel) :
    Readied (a.channels.get ch) ((relane mode pl a).channels.get ch) := by
  rw [relane_channel]
  split
  · exact (writePreload_readied _ _ _ _ _).trans (releaseWait_readied _ _ _ _ _)
  · exact .same

theorem takeGrant_handed (mode : Mode) (pl : Option Plant) (grant : Nat) (a : StrokeArray) :
    GrantsHanded a (takeGrant mode pl grant a) := by
  refine ⟨rfl, .inr (relane_lanes _ _ _), fun ch => relane_readied mode pl { a with grant := grant } ch, fun ch fixed => ?_⟩
  rw [takeGrant, relane_channel, if_neg (by simp [fixed])]

/-! ## The operations that reach the array through the grant -/

section Handed

variable {a : StrokeArray} {s : State}

theorem GrantsHanded.handGrant (h : GrantsHanded a s.sta) (before : Nat) : GrantsHanded a (s.handGrant before).sta := by
  rw [State.handGrant_sta]
  split
  · exact h
  · exact h.trans (takeGrant_handed _ _ _ _)

theorem GrantsHanded.retarget (h : GrantsHanded a s.sta) : GrantsHanded a s.retarget.sta := by
  rw [State.retarget_sta]
  split
  · exact h
  · exact h.trans (takeGrant_handed _ _ _ _)

theorem GrantsHanded.recompute (h : GrantsHanded a s.sta) : GrantsHanded a s.recompute.sta :=
  GrantsHanded.retarget (s := s.setFeu _) h

theorem GrantsHanded.takeRequest (h : GrantsHanded a s.sta) (value : Nat) : GrantsHanded a (s.takeRequest value).sta := by
  unfold State.takeRequest
  split
  · exact h
  · exact GrantsHanded.retarget (s := s.setFeu _) h

theorem GrantsHanded.installLimits (h : GrantsHanded a s.sta) : GrantsHanded a s.installLimits.sta := by
  unfold State.installLimits
  split
  · exact GrantsHanded.recompute (s := s.setFeu _) h
  · exact h.recompute

theorem GrantsHanded.envelopeSecond (h : GrantsHanded a s.sta) : GrantsHanded a s.envelopeSecond.sta := by
  unfold State.envelopeSecond
  refine GrantsHanded.handGrant ?_ _
  exact GrantsHanded.retarget (s := s.setFeu _) h

theorem GrantsHanded.writeRequest (h : GrantsHanded a s.sta) : GrantsHanded a s.writeRequest.sta := by
  unfold State.writeRequest
  refine GrantsHanded.takeRequest ?_ _
  exact h

theorem GrantsHanded.ledgerTakePlant (h : GrantsHanded a s.sta) : GrantsHanded a s.ledgerTakePlant.sta := by
  simp only [State.ledgerTakePlant, State.reallocate_frame]
  exact GrantsHanded.writeRequest (s := s.setSlg _) h

theorem GrantsHanded.runActivation (h : GrantsHanded a s.sta) (now : Nat) : GrantsHanded a (s.runActivation now).sta := by
  rcases due : (s.slg.queue.filter (·.key ≤ now)).getLast? with _ | last
  · rwa [State.runActivation_none (List.getLast?_eq_none_iff.1 due)]
  · rw [State.runActivation_some due, (State.activateOrder_feu _ _).2]
    exact GrantsHanded.takeRequest (by simpa using h) _

theorem GrantsHanded.beginStale (h : GrantsHanded a s.sta) : GrantsHanded a s.beginStale.sta :=
  GrantsHanded.recompute (s := s.setEau _) h

theorem GrantsHanded.endStale (h : GrantsHanded a s.sta) : GrantsHanded a s.endStale.sta :=
  GrantsHanded.recompute (s := s.setEau _) h

theorem GrantsHanded.emissionAge (h : GrantsHanded a s.sta) : GrantsHanded a s.emissionAge.sta := by
  dsimp only [State.emissionAge]
  split
  · exact GrantsHanded.beginStale (s := s.setEau _) h
  · exact h

theorem GrantsHanded.emissionMode (h : GrantsHanded a s.sta) (old : Mode) : GrantsHanded a (s.emissionMode old).sta := by
  unfold State.emissionMode
  split
  · exact h.endStale
  split
  · exact h.beginStale
  · exact h

theorem GrantsHanded.openPeriod (h : GrantsHanded a s.sta) (p : Option OpenPeriod) : GrantsHanded a (s.openPeriod p).sta :=
  GrantsHanded.recompute (s := s.setEau _) h

theorem GrantsHanded.closeHalfHour (h : GrantsHanded a s.sta) (dayBoundary : Bool) :
    GrantsHanded a (s.closeHalfHour dayBoundary).sta := by
  unfold State.closeHalfHour
  split
  · exact h.openPeriod _
  · simp only [State.postClose_frame]
    refine GrantsHanded.openPeriod ?_ _
    split
    · simpa using h
    · simpa using h

theorem GrantsHanded.emissionSecond (h : GrantsHanded a s.sta) (halfHour dayBoundary : Bool) :
    GrantsHanded a (s.emissionSecond halfHour dayBoundary).sta := by
  unfold State.emissionSecond
  split
  · exact h.emissionAge.closeHalfHour _
  · exact h.emissionAge

theorem GrantsHanded.closeAtStop (h : GrantsHanded a s.sta) : GrantsHanded a s.closeAtStop.sta := by
  unfold State.closeAtStop
  split
  · exact h.openPeriod _
  · simp only [State.postClose_frame]
    exact GrantsHanded.openPeriod (by simpa using h) _

theorem GrantsHanded.installPending (h : GrantsHanded a s.sta) : GrantsHanded a s.installPending.sta := by
  dsimp only [State.installPending]
  split
  · exact GrantsHanded.installLimits (s := State.setPst _ _) (by split <;> exact h)
  · split <;> exact h

theorem GrantsHanded.ledgerMinute (h : GrantsHanded a s.sta) (wrapped : Bool) : GrantsHanded a (s.ledgerMinute wrapped).sta := by
  unfold State.ledgerMinute
  exact GrantsHanded.runActivation (by split <;> exact h) _

end Handed

end Sys2Proof.Machine
end

section
/-! SUPPORT. The mode controller's law and the feed interlock (R18, R19, R23, R24, R33, R105) under the operations of the blocks: most leave the
controller, cleaning and the rams' feed capability; a change of mode leaves the last two; and the controller's own events keep both laws. -/

namespace Sys2Proof.Machine

/-! ## Feed capability (R105) -/

/-- A channel as able to feed as it was: its enable kept, JAMMED where it was. -/
abbrev FeedAlike (r x : StrokeRecord) : Prop := x.enabled = r.enabled ∧ (x.state = .jammed ↔ r.state = .jammed)

theorem FeedAlike.feedCapable_eq {r x : StrokeRecord} (h : FeedAlike r x) : feedCapable x = feedCapable r := by
  obtain ⟨enabled, jammed⟩ := h
  by_cases j : r.state = .jammed
  · simp [feedCapable, j, jammed.2 j]
  · have free : x.state ≠ .jammed := mt jammed.1 j
    simp [feedCapable, enabled, bne_iff_ne.2 j, bne_iff_ne.2 free]

/-- The number of feed-capable rams stays, as the array holds it and as its channels stand. -/
abbrev RamsKept (a b : StrokeArray) : Prop := b.rams = a.rams ∧ countRams b = countRams a

theorem RamsKept.trans {a b c : StrokeArray} (h : RamsKept a b) (k : RamsKept b c) : RamsKept a c := ⟨k.1.trans h.1, k.2.trans h.2⟩

theorem ramsKept_of {a b : StrokeArray} (rams : b.rams = a.rams)
    (alike : ∀ ch, FeedAlike (a.channels.get ch) (b.channels.get ch)) : RamsKept a b := by
  have ramA := (alike .ramA).feedCapable_eq
  have ramB := (alike .ramB).feedCapable_eq
  simp only [PerStroke.get] at ramA ramB
  exact ⟨rams, by rw [countRams, countRams, ramA, ramB]⟩

theorem Readied.feedAlike {r x : StrokeRecord} (h : Readied r x) : FeedAlike r x := by
  obtain ⟨enabled, -, -, jammed, -⟩ := h.kept
  exact ⟨enabled, jammed⟩

theorem GrantsHanded.ramsKept {a b : StrokeArray} (h : GrantsHanded a b) : RamsKept a b :=
  ramsKept_of (by rw [h.items]) fun ch => (h.channel ch).feedAlike

theorem relane_ramsKept (mode : Mode) (pl : Option Plant) (a : StrokeArray) : RamsKept a (relane mode pl a) :=
  ramsKept_of rfl fun ch => (relane_readied mode pl a ch).feedAlike

theorem takePlant_ramsKept (mode : Mode) (pl : Option Plant) (a : StrokeArray) : RamsKept a (takePlant mode pl a) :=
  ramsKept_of rfl fun ch => by simpa [takePlant] using (writePreload_readied mode pl a ch _).feedAlike

/-- A channel that starts is neither OFF nor JAMMED. -/
theorem activate_state (mode : Mode) (pl : Option Plant) (a : StrokeArray) (ch : StrokeChannel) (r : StrokeRecord) :
    (activate mode pl a ch r).state = if mustWait a ch r then .wait else .dwell := by
  unfold activate
  split <;> rfl

@[simp] theorem activate_enabled (mode : Mode) (pl : Option Plant) (a : StrokeArray) (ch : StrokeChannel) (r : StrokeRecord) :
    (activate mode pl a ch r).enabled = r.enabled := by
  unfold activate
  split <;> rfl

theorem gateChannel_feedAlike (mode : Mode) (pl : Option Plant) (a : StrokeArray) (ch : StrokeChannel) (r : StrokeRecord) :
    FeedAlike r (gateChannel mode pl a ch r) := by
  unfold gateChannel
  split
  · exact ⟨rfl, Iff.rfl⟩
  · next free =>
    split
    · split
      · refine ⟨activate_enabled _ _ _ _ _, ?_⟩
        rw [activate_state]
        split <;> simp [free]
      · split
        · exact (writePreload_readied _ _ _ _ _).feedAlike
        · exact ⟨rfl, Iff.rfl⟩
    · split
      · exact ⟨rfl, Iff.rfl⟩
      · exact ⟨rfl, by simp [deactivate, free]⟩

theorem takeMode_ramsKept (mode : Mode) (pl : Option Plant) (a : StrokeArray) : RamsKept a (takeMode mode pl a) :=
  ramsKept_of rfl fun ch => by simpa [takeMode] using gateChannel_feedAlike mode pl a ch _

/-- One channel replaced by one as able to feed. -/
theorem putRecord_ramsKept {ch : StrokeChannel} {x : StrokeRecord} {s : State} (alike : FeedAlike (s.sta.channels.get ch) x) :
    RamsKept s.sta (s.putRecord ch x).sta := by
  refine ramsKept_of rfl fun c => ?_
  by_cases same : c = ch
  · simpa [State.putRecord, same] using alike
  · rw [State.putRecord, State.setSta_sta, PerStroke.get_set_ne _ _ same]
    exact ⟨rfl, Iff.rfl⟩

/-! ## What an event leaves of the controller and of the facts that it holds -/

/-- The controller, cleaning and the rams' feed capability stay. -/
structure FactsKept (s t : State) : Prop where
  mode     : t.mode = s.mode
  cleaning : t.eau.cleaning = s.eau.cleaning
  rams     : RamsKept s.sta t.sta

theorem FactsKept.trans {s t u : State} (h : FactsKept s t) (k : FactsKept t u) : FactsKept s u :=
  ⟨k.mode.trans h.mode, k.cleaning.trans h.cleaning, h.rams.trans k.rams⟩

theorem FactsKept.of_sta {s t : State} (mode : t.mode = s.mode) (cleaning : t.eau.cleaning = s.eau.cleaning) (sta : t.sta = s.sta) :
    FactsKept s t :=
  ⟨mode, cleaning, by rw [sta]; exact ⟨rfl, rfl⟩⟩

/-- Grants handed over leave the rams. -/
theorem FactsKept.of_handed {s t : State} (mode : t.mode = s.mode) (cleaning : t.eau.cleaning = s.eau.cleaning)
    (handed : GrantsHanded s.sta t.sta) : FactsKept s t :=
  ⟨mode, cleaning, handed.ramsKept⟩

@[simp] theorem State.emissionAge_cleaning (s : State) : s.emissionAge.eau.cleaning = s.eau.cleaning := by
  dsimp only [State.emissionAge]
  split <;> simp

@[simp] theorem State.emissionMode_cleaning (old : Mode) (s : State) : (s.emissionMode old).eau.cleaning = s.eau.cleaning := by
  unfold State.emissionMode
  (repeat' split) <;> simp

@[simp] theorem State.openPeriod_cleaning (p : Option OpenPeriod) (s : State) : (s.openPeriod p).eau.cleaning = s.eau.cleaning := by
  simp [State.openPeriod]

@[simp] theorem State.closeHalfHour_cleaning (dayBoundary : Bool) (s : State) :
    (s.closeHalfHour dayBoundary).eau.cleaning = s.eau.cleaning := by
  unfold State.closeHalfHour
  (repeat' split) <;> simp [State.closeDay, State.recordPeriod]

@[simp] theorem State.emissionSecond_cleaning (halfHour dayBoundary : Bool) (s : State) :
    (s.emissionSecond halfHour dayBoundary).eau.cleaning = s.eau.cleaning := by
  unfold State.emissionSecond
  split <;> simp

@[simp] theorem State.closeAtStop_cleaning (s : State) : s.closeAtStop.eau.cleaning = s.eau.cleaning := by
  unfold State.closeAtStop
  split <;> simp [State.recordPeriod]

/-- A PLANT copy put in force leaves the rams. -/
theorem plantInForce_factsKept (pl : Plant) (s : State) : FactsKept s (s.plantInForce pl) := by
  have taken := takePlant_ramsKept s.plantMode (some pl) s.sta
  have handed : GrantsHanded (takePlant s.plantMode (some pl) s.sta) (s.plantInForce pl).sta := by
    unfold State.plantInForce
    exact GrantsHanded.ledgerTakePlant (.refl _)
  exact ⟨by simp, by simp, taken.trans handed.ramsKept⟩

theorem releaseHeldPlant_factsKept (s : State) : FactsKept s s.releaseHeldPlant := by
  unfold State.releaseHeldPlant
  split
  · next pl _ =>
    split
    · have emptied : FactsKept s (s.setPst { s.pst with heldPlant := none }) := .of_sta rfl rfl rfl
      exact emptied.trans (plantInForce_factsKept pl _)
    · exact .of_sta rfl rfl rfl
  · exact .of_sta rfl rfl rfl

/-- A change of mode: the controller's new items, the rest of the facts as they were. -/
theorem State.changeMode_facts (m : ModeCtl) (s : State) : FactsKept (s.setMode m) (s.changeMode m) := by
  have released := releaseHeldPlant_factsKept ((s.setMode m).postAll .mode)
  refine ⟨by simp [State.changeMode], ?_, ?_⟩
  · simp [State.changeMode, State.deliverMode]
  · have handed : GrantsHanded ((s.setMode m).postAll .mode).releaseHeldPlant.sta
        ((((s.setMode m).postAll .mode).releaseHeldPlant.emissionMode s.mode.mode).retarget).sta :=
      ((GrantsHanded.refl _).emissionMode _).retarget
    exact (released.rams.trans handed.ramsKept).trans (takeMode_ramsKept _ _ _)

@[simp] theorem State.changeMode_mode (m : ModeCtl) (s : State) : (s.changeMode m).mode = m := (s.changeMode_facts m).mode

/-! ## The two laws -/

/-- The part of the interlock that is about the controller alone (R24, R26 to R28). -/
abbrev Guarded (m : ModeCtl) : Prop :=
  (m.mode = .firing → m.cleaning = .available ∧ 1 ≤ m.rams)
    ∧ (m.mode = .hold → (m.cleaning = .unavailable → m.causes.cleaning = true) ∧ (m.rams = 0 → m.causes.noFeed = true))

/-- The controller's facts are those of the blocks that own them (R24, R105). -/
abbrev FactsHeld (s : State) : Prop :=
  s.mode.cleaning = s.eau.cleaning ∧ (s.mode.rams = 0 ↔ s.sta.rams = 0) ∧ s.sta.rams = countRams s.sta

theorem interlockLaw_iff (s : State) : InterlockLaw s ↔ FactsHeld s ∧ Guarded s.mode := by
  simp only [InterlockLaw, FactsHeld, Guarded, and_assoc]

theorem InterlockLaw.in_firing {s : State} (lock : InterlockLaw s) (firing : s.mode.mode = .firing) :
    s.mode.cleaning = .available ∧ 1 ≤ s.mode.rams := by
  obtain ⟨-, -, -, guard, -⟩ := lock
  exact guard firing

theorem InterlockLaw.in_hold {s : State} (lock : InterlockLaw s) (hold : s.mode.mode = .hold) :
    (s.mode.cleaning = .unavailable → s.mode.causes.cleaning = true) ∧ (s.mode.rams = 0 → s.mode.causes.noFeed = true) := by
  obtain ⟨-, -, -, -, guard⟩ := lock
  exact guard hold

/-- A change of state keeps the controller's law and the interlock. -/
structure PlantKept (s t : State) : Prop where
  law  : ModeLaw s.mode → ModeLaw t.mode
  lock : InterlockLaw s → InterlockLaw t

theorem PlantKept.refl (s : State) : PlantKept s s := ⟨id, id⟩

theorem PlantKept.trans {s t u : State} (h : PlantKept s t) (k : PlantKept t u) : PlantKept s u := ⟨k.law ∘ h.law, k.lock ∘ h.lock⟩

/-- From new items of the controller on, an event that leaves the facts keeps both laws where those items do. -/
theorem FactsKept.plantKept_of {s t : State} {m : ModeCtl} (h : FactsKept (s.setMode m) t) (cleaning : m.cleaning = s.mode.cleaning)
    (rams : m.rams = s.mode.rams) (law : ModeLaw s.mode → ModeLaw m) (guard : Guarded s.mode → Guarded m) : PlantKept s t := by
  obtain ⟨mode, eau, held, count⟩ := h
  simp only [State.setMode_mode, State.setMode_eau, State.setMode_sta] at mode eau held count
  refine ⟨fun l => mode ▸ law l, fun lock => ?_⟩
  rw [interlockLaw_iff] at lock ⊢
  obtain ⟨⟨same, zero, counted⟩, guarded⟩ := lock
  refine ⟨⟨?_, ?_, ?_⟩, mode ▸ guard guarded⟩
  · rw [mode, eau, cleaning, same]
  · rw [mode, held, rams, zero]
  · rw [held, count, counted]

/-- An event that leaves the controller and the facts keeps both laws. -/
theorem FactsKept.plantKept {s t : State} (h : FactsKept s t) : PlantKept s t :=
  FactsKept.plantKept_of (m := s.mode) h rfl rfl id id

/-- New items of the controller under the facts as they stand. -/
theorem setMode_plantKept {s : State} {m : ModeCtl} (cleaning : m.cleaning = s.mode.cleaning) (rams : m.rams = s.mode.rams)
    (law : ModeLaw s.mode → ModeLaw m) (guard : Guarded s.mode → Guarded m) : PlantKept s (s.setMode m) :=
  FactsKept.plantKept_of (.of_sta rfl rfl rfl) cleaning rams law guard

/-- A change of mode keeps both laws where the controller's new items do. -/
theorem changeMode_plantKept {s : State} {m : ModeCtl} (cleaning : m.cleaning = s.mode.cleaning) (rams : m.rams = s.mode.rams)
    (law : ModeLaw s.mode → ModeLaw m) (guard : Guarded s.mode → Guarded m) : PlantKept s (s.changeMode m) :=
  (s.changeMode_facts m).plantKept_of cleaning rams law guard

/-! ## Transitions (R18) -/

/-- The items at the entry into a mode keep the controller's law: the feed stays armed into FIRING and HOLD, causes stand in HOLD alone, a
trip record in TRIPPED alone. -/
theorem ModeLaw.entered {m : ModeCtl} {new : Mode} {causes : HoldCauses} {trip : Option TripRecord} (law : ModeLaw m)
    (armed : new = .firing ∨ new = .hold → m.feedArmed = true) (held : causes ≠ .none → new = .hold)
    (tripped : trip.isSome = true ↔ new = .tripped) : ModeLaw { enterMode new m with causes := causes, trip := trip } := by
  obtain ⟨-, -, -, -, -, -, -, age, temp⟩ := law
  refine ⟨rfl, Nat.zero_le _, fun timer => absurd rfl timer, held, fun feed => ?_, fun feeding => ?_, tripped, age, temp⟩
  · simp only [enterMode, Bool.and_eq_true, Bool.or_eq_true, beq_iff_eq] at feed
    exact .inr feed.2
  · simpa [enterMode, armed feeding] using feeding

/-- Outside FIRING and HOLD the interlock asks nothing of the controller. -/
theorem guarded_of_idle {m : ModeCtl} (firing : m.mode ≠ .firing) (hold : m.mode ≠ .hold) : Guarded m :=
  ⟨fun h => absurd h firing, fun h => absurd h hold⟩

/-- An entry into a mode that does not feed keeps both laws. -/
theorem goTo_plantKept {new : Mode} (firing : new ≠ .firing) (hold : new ≠ .hold) (tripped : new ≠ .tripped) (s : State) :
    PlantKept s (s.goTo new) :=
  changeMode_plantKept rfl rfl (fun law => law.entered (fun h => (h.elim firing hold).elim) (fun h => absurd rfl h) (by simp [tripped]))
    fun _ => guarded_of_idle firing hold

/-- An entry into TRIPPED makes its record (R31 to R33). -/
theorem goTripped_plantKept (c : TripCause) (s : State) : PlantKept s (s.goTripped c) :=
  changeMode_plantKept rfl rfl (fun law => law.entered (by simp) (fun h => absurd rfl h) (by simp)) fun _ => guarded_of_idle nofun nofun

/-- A plant that fires is held for a cause of its own (R27): the interlock was met, so nothing else stands in the set. -/
theorem goHold_plantKept (c : HoldCauses) {s : State} (firing : s.mode.mode = .firing) : PlantKept s (s.goHold c) := by
  refine changeMode_plantKept rfl rfl (fun law => ?_) fun guard => ⟨nofun, fun _ => ?_⟩
  · have armed : s.mode.feedArmed = true := by
      obtain ⟨-, -, -, -, -, armed, -⟩ := law
      exact armed (.inl firing)
    exact law.entered (fun _ => armed) (fun _ => rfl) (by simp [enterMode])
  · obtain ⟨available, rams⟩ := guard.1 firing
    simp only [enterMode, available, reduceCtorEq, false_implies, true_and]
    omega

theorem HoldCauses.isEmpty_iff (c : HoldCauses) : c.isEmpty = true ↔ c = .none := by
  obtain ⟨low, stale, cleaning, feed⟩ := c
  simp [HoldCauses.isEmpty, HoldCauses.none]
  tauto

/-- The firing entry check keeps both laws: in WARMING it tests the interlock, in HOLD the causes in which what is missing stands (R26, R28). -/
theorem entryCheckWith_plantKept (lim : Option Limits) (s : State) : PlantKept s (s.entryCheckWith lim) := by
  unfold State.entryCheckWith
  split
  · next met =>
    refine changeMode_plantKept rfl rfl (fun law => ?_) fun guard => ⟨fun _ => ?_, nofun⟩
    · have armed : s.mode.feedArmed = true := by
        rcases met with ⟨-, met⟩ | ⟨hold, -⟩
        · simp only [interlockMet, Bool.and_eq_true] at met
          obtain ⟨⟨⟨armed, -⟩, -⟩, -⟩ := met
          exact armed
        · obtain ⟨-, -, -, -, -, armed, -⟩ := law
          exact armed (.inr hold)
      exact law.entered (fun _ => armed) (fun h => absurd rfl h) (by simp)
    · rcases met with ⟨-, met⟩ | ⟨hold, isOver⟩
      · simp only [interlockMet, Bool.and_eq_true, beq_iff_eq, decide_eq_true_eq] at met
        exact ⟨met.1.2, met.2⟩
      · simp only [holdOver, Bool.and_eq_true, HoldCauses.isEmpty_iff] at isOver
        obtain ⟨cleaning, feed⟩ := guard.2 hold
        simp only [isOver.1, HoldCauses.none, Bool.false_eq_true] at cleaning feed
        refine ⟨?_, Nat.pos_of_ne_zero feed⟩
        cases h : s.mode.cleaning
        · exact (cleaning h).elim
        · exact h
  · exact .refl s

end Sys2Proof.Machine
end

section
/-! SUPPORT. What every step keeps, row by row: a relation between the blocks before and after, once it holds of the blocks' own work at each
row, holds of every step. The ports only carry a row to the blocks. -/

namespace Sys2Proof.Machine

/-- The work of the blocks at a row: that of a command's own rule, or of an event; nothing for a row of the link alone. -/
def rowWork : Instr → State → State
  | .powerOn, s => s.powerOn
  | .pinReset, s => s.pinReset
  | .pinResetRelease, s => s.releaseReset
  | .refckEdge, s => s.refckEdge
  | .secondEvent, s => if s.clock.run = .running then s.secondEvent else s
  | .strokeUnitTick, s => s.strokeUnit
  | .periodExpiry ch, s => s.expirePeriod ch
  | .strokeLimitExpiry ch, s => s.expireLimit ch
  | .eosArrival ch, s => s.arriveEos ch
  | .programmingCompletion, s => s.completeProgramming
  | .lockCompletion, s => s.completeLock
  | .setTime p day hour minute second divisor offset, s => (s.doSetTime p day hour minute second divisor offset).1
  | .startClock p, s => (s.doStartClock p).1
  | .stopClock p, s => (s.doStopClock p).1
  | .adjustClock p shift, s => (s.doAdjustClock p shift).1
  | .setLead p lead, s => (s.doSetLead p lead).1
  | .start p, s => (s.doStart p).1
  | .feed p, s => (s.doFeed p).1
  | .stop _, s => s.doStop.1
  | .trip p cause, s => (s.doTrip p cause).1
  | .clearTrip p, s => (s.doClearTrip p).1
  | .postTemperature p value, s => (s.doPostTemperature p value).1
  | .postSamples p o2 o2Status entries, s => (s.doPostSamples p o2 o2Status entries).1
  | .setCleaning p availability, s => (s.doSetCleaning p availability).1
  | .setReagents p sorbent carbon reductant, s => (s.doSetReagents p sorbent carbon reductant).1
  | .clearHistory p, s => (s.doClearHistory p).1
  | .setBoilerLimit p limit, s => (s.doSetBoilerLimit p limit).1
  | .setChannel p number enabled source fixedPeriod, s => (s.doSetChannel p number enabled source fixedPeriod).1
  | .setLanes p split massA massB, s => (s.doSetLanes p split massA massB).1
  | .clearJam p number, s => (s.doClearJam p number).1
  | .postSteam p flow, s => (s.doPostSteam p flow).1
  | .setAuxDemand p demand, s => (s.doSetAuxDemand p demand).1
  | .setConsumers p turbine extraction, s => (s.doSetConsumers p turbine extraction).1
  | .postOrder p order, s => (s.doPostOrder p order).1
  | .cancelOrders p tag, s => (s.doCancelOrders p tag).1
  | .postEnergy p exported heat, s => (s.doPostEnergy p exported heat).1
  | .restoreMeters p totals, s => (s.doRestoreMeters p totals).1
  | .freshMeters p, s => (s.doFreshMeters p).1
  | .enableWrite p, s => (s.doEnableWrite p).1
  | .programSection p number image, s => (s.doProgramSection p number image).1
  | .lockSection p number, s => (s.doLockSection p number).1
  | .portReset p, s => s.setLatch p false
  | _, s => s

/-- A relation between two states that the ports and the queue do not matter to, and that holds of the blocks' work at every row. -/
structure KeptByRows (R : State → State → Prop) : Prop where
  refl  : ∀ s, R s s
  trans : ∀ {s t u}, R s t → R t u → R s u
  ports : ∀ s ports, R s (s.setPorts ports)
  queue : ∀ (s : State) (rest : List Instr), R s { s with pending := rest }
  work  : ∀ i s, R s (rowWork i s)

namespace KeptByRows

variable {R : State → State → Prop} (k : KeptByRows R)
include k

theorem setPort (p : Port) (c : PortCtl) (s : State) : R s (s.setPort p c) := k.ports s _

theorem takeWrite {run : State → State × Reply} (kept : ∀ u, R u (run u).1) (p : Port) (s : State) : R s (s.takeWrite p run) :=
  k.trans (k.trans (k.setPort _ _ s) (kept _)) (k.setPort _ _ _)

/-- A read leaves the blocks. -/
theorem runRead (p : Port) (cmd : ReadCmd) (s : State) : R s (s.runRead p cmd).1 := by
  cases cmd with
  | notices clear =>
    simp only [State.runRead, State.readNotices]
    split
    · dsimp only
      split
      · exact k.setPort _ _ s
      · exact k.refl s
    · exact k.refl s
  | _ => exact k.refl s

theorem takeRead (p : Port) (rep : Bool) (cmd : ReadCmd) (s : State) : R s (s.takeRead p rep cmd) := by
  have read : R s (((s.beginTake p).runRead p cmd).1.answer p ((s.beginTake p).runRead p cmd).2) :=
    k.trans (k.trans (k.setPort _ _ s) (k.runRead p cmd (s.beginTake p))) (k.setPort p _ _)
  dsimp only [State.takeRead]
  split
  · exact k.trans read (k.setPort _ _ _)
  · exact read

theorem takeFetch (p : Port) (s : State) : R s (s.takeFetch p) := by
  have begun := k.setPort p { taken (s.port p) with link := .active } s
  dsimp only [State.takeFetch]
  split
  · exact k.trans begun (k.setPort _ _ _)
  · exact k.trans (k.trans begun (k.runRead _ _ _)) (k.setPort _ _ _)
  · exact k.trans begun (k.setPort _ _ _)

theorem takePortReset (p : Port) (s : State) : R s (s.takePortReset p) := k.trans (k.setPort _ _ s) (k.work (.portReset p) _)

/-- A frame handed to its command: the command's work on the blocks, a read, or the port's own command. -/
theorem takeFrame (i : Instr) (s : State) : R s (s.takeFrame i) := by
  cases i with
  | setTime => exact k.takeWrite (k.work (.setTime ..)) _ s
  | startClock => exact k.takeWrite (k.work (.startClock ..)) _ s
  | stopClock => exact k.takeWrite (k.work (.stopClock ..)) _ s
  | adjustClock => exact k.takeWrite (k.work (.adjustClock ..)) _ s
  | setLead => exact k.takeWrite (k.work (.setLead ..)) _ s
  | start => exact k.takeWrite (k.work (.start ..)) _ s
  | feed => exact k.takeWrite (k.work (.feed ..)) _ s
  | stop p => exact k.takeWrite (k.work (.stop p)) p s
  | trip => exact k.takeWrite (k.work (.trip ..)) _ s
  | clearTrip => exact k.takeWrite (k.work (.clearTrip ..)) _ s
  | postTemperature => exact k.takeWrite (k.work (.postTemperature ..)) _ s
  | postSamples => exact k.takeWrite (k.work (.postSamples ..)) _ s
  | setCleaning => exact k.takeWrite (k.work (.setCleaning ..)) _ s
  | setReagents => exact k.takeWrite (k.work (.setReagents ..)) _ s
  | clearHistory => exact k.takeWrite (k.work (.clearHistory ..)) _ s
  | setBoilerLimit => exact k.takeWrite (k.work (.setBoilerLimit ..)) _ s
  | setChannel => exact k.takeWrite (k.work (.setChannel ..)) _ s
  | setLanes => exact k.takeWrite (k.work (.setLanes ..)) _ s
  | clearJam => exact k.takeWrite (k.work (.clearJam ..)) _ s
  | postSteam => exact k.takeWrite (k.work (.postSteam ..)) _ s
  | setAuxDemand => exact k.takeWrite (k.work (.setAuxDemand ..)) _ s
  | setConsumers => exact k.takeWrite (k.work (.setConsumers ..)) _ s
  | postOrder => exact k.takeWrite (k.work (.postOrder ..)) _ s
  | cancelOrders => exact k.takeWrite (k.work (.cancelOrders ..)) _ s
  | postEnergy => exact k.takeWrite (k.work (.postEnergy ..)) _ s
  | restoreMeters => exact k.takeWrite (k.work (.restoreMeters ..)) _ s
  | freshMeters => exact k.takeWrite (k.work (.freshMeters ..)) _ s
  | enableWrite => exact k.takeWrite (k.work (.enableWrite ..)) _ s
  | programSection => exact k.takeWrite (k.work (.programSection ..)) _ s
  | lockSection => exact k.takeWrite (k.work (.lockSection ..)) _ s
  | readClock p rep => exact k.takeRead p rep _ s
  | readMode p rep => exact k.takeRead p rep _ s
  | readAccumulators p rep => exact k.takeRead p rep _ s
  | readHistory p rep => exact k.takeRead p rep _ s
  | readDays p rep => exact k.takeRead p rep _ s
  | readEnvelope p rep => exact k.takeRead p rep _ s
  | readDemand p rep => exact k.takeRead p rep _ s
  | readChannels p rep => exact k.takeRead p rep _ s
  | readLedger p rep => exact k.takeRead p rep _ s
  | readOrders p rep => exact k.takeRead p rep _ s
  | readMeters p rep => exact k.takeRead p rep _ s
  | storeStatus p rep => exact k.takeRead p rep _ s
  | readSection p rep => exact k.takeRead p rep _ s
  | readNotices p rep => exact k.takeRead p rep _ s
  | fetch p => exact k.takeFetch p s
  | setQuiet p => exact k.setPort _ _ s
  | portReset p => exact k.takePortReset p s
  | _ => exact k.refl s

/-- A transaction of whole bytes, whatever frame they make (R168 to R170). -/
theorem transaction (p : Port) (bytes : List Byte) (cut : Bool) (s : State) : R s (s.transaction p bytes cut) := by
  have bad (status : Status) : R s (s.takeBad p status) := k.trans (k.setPort _ _ s) (k.setPort _ _ _)
  have frame (f : List Byte) : R s (s.takeBytes p f) := by
    unfold State.takeBytes
    split
    · exact bad _
    · exact bad _
    · exact bad _
    · exact k.takeFrame _ s
  unfold State.transaction
  split
  · exact k.setPort _ _ s
  split
  · exact k.takePortReset p s
  · unfold State.receive
    split
    · exact k.setPort _ _ s
    · exact k.setPort _ _ s
    · exact bad _
    · exact frame _

/-- The arrival of a command row. -/
theorem arrive (p : Port) (i : Instr) (s : State) : R s (s.arrive p i) := by
  unfold State.arrive
  split
  · exact k.setPort _ _ s
  split
  · exact k.takeFrame i s
  split
  · exact k.takePortReset p s
  · exact k.transaction _ _ _ s

/-- Every row: a command by its arrival, an event by its work, a row of the link by the port's own change. -/
theorem exec {i : Instr} {s t : State} (h : exec i s = .next t) : R s t := by
  rcases command : i.port? with _ | p
  · cases i with
    | powerOn => cases h; exact k.work .powerOn s
    | pinReset => cases h; exact k.work .pinReset s
    | pinResetRelease => cases h; exact k.work .pinResetRelease s
    | refckEdge => cases h; exact k.work .refckEdge s
    | secondEvent =>
      have second := k.work .secondEvent s
      rcases hrun : s.clock.run with _ | _
      · cases (exec_secondEvent_stopped hrun).symm.trans h
        exact k.refl s
      · cases (exec_secondEvent_running hrun).symm.trans h
        simpa [rowWork, hrun] using second
    | strokeUnitTick => cases h; exact k.work .strokeUnitTick s
    | periodExpiry ch => cases h; exact k.work (.periodExpiry ch) s
    | strokeLimitExpiry ch => cases h; exact k.work (.strokeLimitExpiry ch) s
    | eosArrival ch => cases h; exact k.work (.eosArrival ch) s
    | programmingCompletion => cases h; exact k.work .programmingCompletion s
    | lockCompletion => cases h; exact k.work .lockCompletion s
    | badFrame p bytes => cases h; exact k.transaction p bytes false s
    | frameSuspend p bytes => cases h; exact k.transaction p bytes false s
    | frameResume p => cases h; exact k.setPort _ _ s
    | frameTimeout p =>
      cases h
      unfold State.timeoutFrame
      split
      · exact k.setPort _ _ s
      · exact k.refl s
    | linkError p bytes => cases h; exact k.transaction p bytes true s
    | _ => cases command
  · cases (exec_command command s).symm.trans h
    exact k.arrive p i s

/-- Every step: the row at the front of the queue, and an empty queue idles. -/
theorem step {s t : State} (h : step s = .next t) : R s t := by
  unfold Machine.step at h
  split at h
  · cases h
    exact k.refl s
  · next c rest _ => exact k.trans (k.queue s rest) (k.exec h)

end KeptByRows

/-! ## Events made of many parts -/

section Parts

variable {R : State → State → Prop} (refl : ∀ s, R s s) (trans : ∀ {s t u}, R s t → R t u → R s u)
include refl trans

/-- A relation that each part of a second event keeps is kept by the parts in every order, with the ledger's own second. -/
theorem State.blocksSecond_related (part : ∀ k old e s, R s (s.subEvent k old e)) (ledger : ∀ s, R s s.ledgerSecond) (k : EventKind)
    (o : EventOrder) (s : State) : R s (s.blocksSecond k o) := by
  have parts (order : List SubEvent) (u : State) : R u (u.subEvents k o.modeSeesOld order) := by
    induction order generalizing u with
    | nil => exact refl u
    | cons e es ih => exact trans (part k o.modeSeesOld e u) (ih _)
  unfold State.blocksSecond
  split
  · exact trans (ledger s) (parts _ _)
  · exact trans (parts _ s) (ledger _)

/-- A relation that every expiry keeps is kept by those of a stroke unit, in every order drawn. -/
theorem State.expireAll_related (draw : ∀ s : State, R s s.draw.2) (expire : ∀ s ch, R s (s.expire ch)) (s : State) : R s s.expireAll := by
  have all (chs : List StrokeChannel) (u : State) : R u (chs.foldl State.expire u) := by
    induction chs generalizing u with
    | nil => exact refl u
    | cons ch chs ih => exact trans (expire u ch) (ih _)
  unfold State.expireAll
  split
  · exact all _ s
  · exact trans (draw s) (all _ _)

end Parts

end Sys2Proof.Machine
end

section
/-! SUPPORT. The mode controller's own events, and those of the stroke channels that reach it, under the two laws of the plant mode (R20 to R28,
R101, R102, R105). -/

namespace Sys2Proof.Machine

/-! ## Conditions from the other blocks (R24, R27, R28) -/

theorem State.holdArises_firing {s : State} (h : s.mode.mode = .firing) (alone : HoldCauses) (add : HoldCauses → HoldCauses) :
    s.holdArises alone add = s.goHold alone := by simp [State.holdArises, State.plantMode, h]

theorem State.holdArises_hold {s : State} (h : s.mode.mode = .hold) (alone : HoldCauses) (add : HoldCauses → HoldCauses) :
    s.holdArises alone add = s.setMode { s.mode with causes := add s.mode.causes } := by simp [State.holdArises, State.plantMode, h]

theorem State.holdArises_idle {s : State} (firing : s.mode.mode ≠ .firing) (hold : s.mode.mode ≠ .hold) (alone : HoldCauses)
    (add : HoldCauses → HoldCauses) : s.holdArises alone add = s := by
  rcases h : s.mode.mode with _ | _ | _ | _ | _ | _ <;> simp_all [State.holdArises, State.plantMode]

theorem State.holdClears_hold {s : State} (h : s.mode.mode = .hold) (remove : HoldCauses → HoldCauses) :
    s.holdClears remove = s.setMode { s.mode with causes := remove s.mode.causes } := by simp [State.holdClears, State.plantMode, h]

theorem State.holdClears_idle {s : State} (hold : s.mode.mode ≠ .hold) (remove : HoldCauses → HoldCauses) : s.holdClears remove = s := by
  simp [State.holdClears, State.plantMode, hold]

/-- A set of causes holds what the interlock misses (R24). -/
abbrev CausesCover (c : HoldCauses) (m : ModeCtl) : Prop :=
  (m.cleaning = .unavailable → c.cleaning = true) ∧ (m.rams = 0 → c.noFeed = true)

/-- Another set of causes in HOLD keeps the controller's law. -/
theorem ModeLaw.with_causes {m : ModeCtl} (law : ModeLaw m) (hold : m.mode = .hold) (causes : HoldCauses) :
    ModeLaw { m with causes := causes } := by
  obtain ⟨burner, timer, counts, -, rest⟩ := law
  exact ⟨burner, timer, counts, fun _ => hold, rest⟩

/-- New items that leave cleaning and the rams leave the facts in step. -/
theorem FactsHeld.of_kept {s t : State} {m : ModeCtl} (held : FactsHeld s) (cleaning : m.cleaning = s.mode.cleaning)
    (rams : m.rams = s.mode.rams) (kept : FactsKept (s.setMode m) t) : FactsHeld t := by
  obtain ⟨mode, eau, sta, count⟩ := kept
  simp only [State.setMode_mode, State.setMode_eau, State.setMode_sta] at mode eau sta count
  obtain ⟨same, zero, counted⟩ := held
  exact ⟨by rw [mode, eau, cleaning, same], by rw [mode, sta, rams, zero], by rw [sta, count, counted]⟩

theorem holdArises_law {s : State} (alone : HoldCauses) (add : HoldCauses → HoldCauses) (law : ModeLaw s.mode) :
    ModeLaw (s.holdArises alone add).mode := by
  by_cases firing : s.mode.mode = .firing
  · rw [State.holdArises_firing firing]
    exact (goHold_plantKept alone firing).law law
  by_cases hold : s.mode.mode = .hold
  · rw [State.holdArises_hold hold]
    exact law.with_causes hold _
  · rwa [State.holdArises_idle firing hold]

theorem holdArises_held {s : State} (alone : HoldCauses) (add : HoldCauses → HoldCauses) (held : FactsHeld s) :
    FactsHeld (s.holdArises alone add) := by
  by_cases firing : s.mode.mode = .firing
  · rw [State.holdArises_firing firing]
    exact FactsHeld.of_kept (m := { enterMode .hold s.mode with causes := alone }) held rfl rfl (State.changeMode_facts _ s)
  by_cases hold : s.mode.mode = .hold
  · rwa [State.holdArises_hold hold]
  · rwa [State.holdArises_idle firing hold]

/-- A condition that arises leaves the interlock where the sets it makes hold what is missing. -/
theorem holdArises_guarded {s : State} {alone : HoldCauses} {add : HoldCauses → HoldCauses}
    (firing : s.mode.mode = .firing → CausesCover alone s.mode) (hold : s.mode.mode = .hold → CausesCover (add s.mode.causes) s.mode) :
    Guarded (s.holdArises alone add).mode := by
  by_cases fires : s.mode.mode = .firing
  · rw [State.holdArises_firing fires, State.goHold, State.changeMode_mode]
    exact ⟨nofun, fun _ => firing fires⟩
  by_cases holds : s.mode.mode = .hold
  · rw [State.holdArises_hold holds]
    exact ⟨fun h => absurd h fires, fun _ => hold holds⟩
  · rw [State.holdArises_idle fires holds]
    exact guarded_of_idle fires holds

theorem holdClears_law {s : State} (remove : HoldCauses → HoldCauses) (law : ModeLaw s.mode) : ModeLaw (s.holdClears remove).mode := by
  by_cases hold : s.mode.mode = .hold
  · rw [State.holdClears_hold hold]
    exact law.with_causes hold _
  · rwa [State.holdClears_idle hold]

theorem holdClears_held {s : State} (remove : HoldCauses → HoldCauses) (held : FactsHeld s) : FactsHeld (s.holdClears remove) := by
  by_cases hold : s.mode.mode = .hold
  · rwa [State.holdClears_hold hold]
  · rwa [State.holdClears_idle hold]

/-- A condition that clears leaves the interlock where nothing is missing that the set then left does not hold. -/
theorem holdClears_guarded {s : State} {remove : HoldCauses → HoldCauses}
    (firing : s.mode.mode = .firing → s.mode.cleaning = .available ∧ 1 ≤ s.mode.rams)
    (hold : s.mode.mode = .hold → CausesCover (remove s.mode.causes) s.mode) : Guarded (s.holdClears remove).mode := by
  by_cases holds : s.mode.mode = .hold
  · rw [State.holdClears_hold holds]
    exact ⟨fun h => absurd (holds.symm.trans h) nofun, fun _ => hold holds⟩
  · rw [State.holdClears_idle holds]
    exact ⟨firing, fun h => absurd h holds⟩

/-- From a state whose facts an event brings back in step, the firing entry check keeps both laws. -/
theorem entryCheck_plantKept_of {s u : State} (law : ModeLaw s.mode → ModeLaw u.mode) (held : FactsHeld s → FactsHeld u)
    (guard : InterlockLaw s → Guarded u.mode) : PlantKept s u.entryCheck :=
  PlantKept.trans ⟨law, fun lock => (interlockLaw_iff u).2 ⟨held ((interlockLaw_iff s).1 lock).1, guard lock⟩⟩
    (entryCheckWith_plantKept _ u)

/-- A change of cleaning at the emission unit, handed to the controller (R24). -/
theorem takeCleaning_plantKept (a : Availability) (s : State) :
    PlantKept s ((s.setEau { s.eau with cleaning := a }).takeCleaning a) := by
  have told (held : FactsHeld s) : FactsHeld ((s.setEau { s.eau with cleaning := a }).setMode { s.mode with cleaning := a }) :=
    ⟨rfl, held.2⟩
  cases a with
  | unavailable =>
    refine entryCheck_plantKept_of (fun law => holdArises_law _ _ law) (fun held => holdArises_held _ _ (told held)) fun lock =>
      holdArises_guarded (fun firing => ⟨fun _ => rfl, fun none => ?_⟩) fun hold => ⟨fun _ => rfl, ?_⟩
    · obtain ⟨-, rams⟩ := lock.in_firing firing
      exact absurd rams (by simpa using none)
    · exact (lock.in_hold hold).2
  | available =>
    refine entryCheck_plantKept_of (fun law => holdClears_law _ law) (fun held => holdClears_held _ (told held)) fun lock =>
      holdClears_guarded (fun firing => ⟨rfl, ?_⟩) fun hold => ⟨nofun, ?_⟩
    · exact (lock.in_firing firing).2
    · exact (lock.in_hold hold).2

/-- A stroke channel replaced, and a change between no and some feed-capable ram handed to the controller (R24, R105). -/
theorem putChannel_plantKept (ch : StrokeChannel) (r : StrokeRecord) (s : State) : PlantKept s (s.putChannel ch r) := by
  have counted : (setRecord ch r s.sta).rams = countRams (setRecord ch r s.sta) := rfl
  unfold State.putChannel State.handRams
  split
  · next same =>
    refine ⟨id, fun lock => ?_⟩
    rw [interlockLaw_iff] at lock ⊢
    obtain ⟨⟨cleaning, zero, -⟩, guard⟩ := lock
    exact ⟨⟨cleaning, zero.trans same, counted⟩, guard⟩
  · have told (held : FactsHeld s) : FactsHeld ((s.setSta (setRecord ch r s.sta)).setMode { s.mode with rams := (setRecord ch r s.sta).rams }) :=
      ⟨held.1, Iff.rfl, counted⟩
    dsimp only
    split
    · next none =>
      refine entryCheck_plantKept_of (fun law => holdArises_law _ _ law) (fun held => holdArises_held _ _ (told held)) fun lock =>
        holdArises_guarded (fun firing => ⟨fun missing => ?_, fun _ => rfl⟩) fun hold => ⟨?_, fun _ => rfl⟩
      · obtain ⟨available, -⟩ := lock.in_firing firing
        exact absurd (available.symm.trans missing) nofun
      · exact (lock.in_hold hold).1
    · next some =>
      refine entryCheck_plantKept_of (fun law => holdClears_law _ law) (fun held => holdClears_held _ (told held)) fun lock =>
        holdClears_guarded (fun firing => ⟨?_, Nat.pos_of_ne_zero some⟩) fun hold => ⟨?_, fun none => absurd none some⟩
      · exact (lock.in_firing firing).1
      · exact (lock.in_hold hold).1

/-! ## Temperature (R20 to R23) -/

/-- What the interlock asks of the controller depends on its mode, its causes and the two facts alone. -/
theorem Guarded.of_same {m n : ModeCtl} (guard : Guarded m) (mode : n.mode = m.mode) (cleaning : n.cleaning = m.cleaning)
    (rams : n.rams = m.rams) (kept : n.causes.cleaning = m.causes.cleaning) (feed : n.causes.noFeed = m.causes.noFeed) : Guarded n := by
  simpa only [Guarded, mode, cleaning, rams, kept, feed] using guard

/-- Another temperature record keeps the controller's law. -/
theorem ModeLaw.with_temp {m : ModeCtl} (law : ModeLaw m) {temp : Option Nat} {age : Nat} (aged : age ≤ 65535) (top : temp.getD 0 ≤ 1999) :
    ModeLaw { m with temp := temp, tempAge := age } := by
  obtain ⟨burner, timer, counts, causes, feed, armed, trip, -, -⟩ := law
  exact ⟨burner, timer, counts, causes, feed, armed, trip, aged, top⟩

/-- Another count of the qualification timer in WARMING or HOLD keeps the controller's law. -/
theorem ModeLaw.with_timer {m : ModeCtl} (law : ModeLaw m) {timer : Nat} (top : timer ≤ 60)
    (counts : timer ≠ 0 → m.mode = .warming ∨ m.mode = .hold) : ModeLaw { m with timer := timer } := by
  obtain ⟨burner, -, -, rest⟩ := law
  exact ⟨burner, top, counts, rest⟩

theorem countTrip_law {m : ModeCtl} (law : ModeLaw m) : ModeLaw (countTrip m) := by
  obtain ⟨burner, timer, counts, causes, feed, armed, trip, rest⟩ := law
  exact ⟨burner, timer, counts, causes, feed, armed, by simpa [countTrip] using trip, rest⟩

theorem countTrip_plantKept (s : State) : PlantKept s (s.setMode (countTrip s.mode)) :=
  setMode_plantKept rfl rfl countTrip_law id

theorem compareTmin_plantKept (l : Limits) (t : Nat) (s : State) : PlantKept s (s.compareTmin l t) := by
  have zero (law : ModeLaw s.mode) : ModeLaw { s.mode with timer := 0 } := law.with_timer (Nat.zero_le _) fun h => absurd rfl h
  unfold State.compareTmin
  split
  · split
    · exact setMode_plantKept rfl rfl zero id
    · exact .refl s
  · next firing =>
    split
    · exact goHold_plantKept _ firing
    · exact .refl s
  · next hold =>
    split
    · exact setMode_plantKept rfl rfl (fun law => (zero law).with_causes hold _) fun guard => guard.of_same rfl rfl rfl rfl rfl
    · exact setMode_plantKept rfl rfl (fun law => law.with_causes hold _) fun guard => guard.of_same rfl rfl rfl rfl rfl
  · exact .refl s

theorem compareTemperature_plantKept (l : Limits) (t : Nat) (s : State) : PlantKept s (s.compareTemperature l t) := by
  unfold State.compareTemperature
  split
  · exact .refl s
  · split
    · exact countTrip_plantKept s
    · exact .refl s
  · split
    · exact goTripped_plantKept _ s
    split
    · exact goTo_plantKept (new := .cold) nofun nofun nofun s
    · exact .refl s
  · split
    · exact goTripped_plantKept _ s
    · exact compareTmin_plantKept l t s

/-- A temperature in its range keeps both laws, whatever it brings about (R20). -/
theorem takeTemperature_plantKept {t : Nat} (top : t ≤ 1999) (s : State) : PlantKept s (s.takeTemperature t) := by
  have recorded : PlantKept s (s.setMode { s.mode with temp := some t, tempAge := 0 }) :=
    setMode_plantKept rfl rfl (fun law => law.with_temp (Nat.zero_le _) top) id
  unfold State.takeTemperature
  refine .trans ?_ (entryCheckWith_plantKept _ _)
  split
  · exact recorded.trans (compareTemperature_plantKept _ _ _)
  · exact recorded

/-- The qualification timer counts in its range, and leaves the rest of the controller (R23). -/
theorem qualify_eq (lim : Option Limits) (m : ModeCtl) :
    ∃ timer, qualify lim m = { m with timer := timer } ∧ (timer = m.timer ∨ timer = 0 ∨ timer = satAdd 60 1 m.timer) := by
  unfold qualify
  split
  · exact ⟨0, rfl, .inr (.inl rfl)⟩
  split
  · split
    · exact ⟨_, rfl, .inr (.inr rfl)⟩
    · exact ⟨m.timer, rfl, .inl rfl⟩
  · exact ⟨m.timer, rfl, .inl rfl⟩

theorem qualify_law {lim : Option Limits} {m : ModeCtl} (law : ModeLaw m) (counts : m.mode = .warming ∨ m.mode = .hold) :
    ModeLaw (qualify lim m) := by
  obtain ⟨timer, same, value⟩ := qualify_eq lim m
  have ⟨_, top, _⟩ := law
  rw [same]
  refine law.with_timer ?_ fun _ => counts
  rcases value with rfl | rfl | rfl
  · exact top
  · exact Nat.zero_le _
  · exact Nat.min_le_left _ _

theorem qualify_guarded {lim : Option Limits} {m : ModeCtl} (guard : Guarded m) : Guarded (qualify lim m) := by
  obtain ⟨timer, same, -⟩ := qualify_eq lim m
  rw [same]
  exact guard

/-- The timer counted in WARMING or HOLD, and the firing entry check after it (R23, R26, R28). -/
theorem qualified_plantKept (lim : Option Limits) {s : State} {m : ModeCtl} (cleaning : m.cleaning = s.mode.cleaning)
    (rams : m.rams = s.mode.rams) (law : ModeLaw s.mode → ModeLaw m) (guard : Guarded s.mode → Guarded m)
    (counts : m.mode = .warming ∨ m.mode = .hold) : PlantKept s ((s.setMode (qualify lim m)).entryCheckWith lim) := by
  obtain ⟨timer, same, -⟩ := qualify_eq lim m
  have counted : PlantKept s (s.setMode (qualify lim m)) :=
    setMode_plantKept (by rw [same]; exact cleaning) (by rw [same]; exact rams) (fun held => qualify_law (law held) counts)
      fun held => qualify_guarded (guard held)
  exact counted.trans (entryCheckWith_plantKept lim _)

/-- The controller's second event (R21, R23, R26). -/
theorem modeSecond_plantKept (lim : Option Limits) (s : State) : PlantKept s (s.modeSecond lim) := by
  have older (law : ModeLaw s.mode) : ModeLaw { s.mode with tempAge := satAdd 65535 1 s.mode.tempAge } := by
    have ⟨_, _, _, _, _, _, _, _, temp⟩ := law
    exact law.with_temp (Nat.min_le_left _ _) temp
  have aged : PlantKept s (s.setMode { s.mode with tempAge := satAdd 65535 1 s.mode.tempAge }) := setMode_plantKept rfl rfl older id
  dsimp only [State.modeSecond]
  split
  · next firing =>
    split
    · exact aged.trans (goHold_plantKept _ firing)
    · exact aged
  · next warming => exact qualified_plantKept lim rfl rfl older id (.inl warming)
  · next hold =>
    exact qualified_plantKept lim rfl rfl (fun law => (older law).with_causes hold _)
      (fun guard => guard.of_same rfl rfl rfl rfl rfl) (.inr hold)
  · exact aged

/-! ## The stroke channels (R98 to R102) -/

theorem grateJamTrip_plantKept (s : State) : PlantKept s s.grateJamTrip := by
  unfold State.grateJamTrip
  split
  · exact goTripped_plantKept _ s
  · exact goTripped_plantKept _ s
  · exact goTripped_plantKept _ s
  · exact .refl s

/-- A grate channel is no ram. -/
theorem putGrate_ramsKept {ch : StrokeChannel} (grate : isRam ch = false) (x : StrokeRecord) (s : State) :
    RamsKept s.sta (s.putRecord ch x).sta := by
  have ramA : StrokeChannel.ramA ≠ ch := by rintro rfl; cases grate
  have ramB : StrokeChannel.ramB ≠ ch := by rintro rfl; cases grate
  have sameA := PerStroke.get_set_ne s.sta.channels x ramA
  have sameB := PerStroke.get_set_ne s.sta.channels x ramB
  simp only [PerStroke.get] at sameA sameB
  exact ⟨rfl, by simp [State.putRecord, countRams, sameA, sameB]⟩

theorem expirePeriod_factsKept (ch : StrokeChannel) (s : State) : FactsKept s (s.expirePeriod ch) := by
  refine ⟨by simp, by simp, ?_⟩
  dsimp only [State.expirePeriod]
  split
  · next due =>
    have dwells : (s.sta.channels.get ch).state = .dwell := by
      simp only [periodDue, Bool.and_eq_true, beq_iff_eq] at due
      exact due.1
    refine putRecord_ramsKept ?_
    unfold startStroke
    split <;> exact ⟨rfl, by simp [dwells]⟩
  · exact ⟨rfl, rfl⟩

theorem arriveEos_factsKept (ch : StrokeChannel) (s : State) : FactsKept s (s.arriveEos ch) := by
  refine ⟨by simp, by simp, ?_⟩
  dsimp only [State.arriveEos]
  split
  · next strokes =>
    have put := putRecord_ramsKept (s := s) (ch := ch) (x := completeStroke (s.sta.channels.get ch)) ⟨rfl, by simp [completeStroke, strokes]⟩
    split
    · simpa using put
    · exact put
  · exact ⟨rfl, rfl⟩

theorem expireLimit_plantKept (ch : StrokeChannel) (s : State) : PlantKept s (s.expireLimit ch) := by
  unfold State.expireLimit
  split
  · split
    · exact .trans (FactsKept.plantKept (.of_sta (by simp) (by simp) (by simp))) (putChannel_plantKept _ _ _)
    · next ram =>
      have grate : isRam ch = false := by simpa using ram
      have put (x : StrokeRecord) : FactsKept s (s.putRecord ch x) := ⟨by simp, by simp, putGrate_ramsKept grate x s⟩
      dsimp only [State.jamGrate]
      split
      · exact (put _).plantKept
      · have posted (u : State) : FactsKept u (u.post .jam .pf) := .of_sta (by simp) (by simp) (by simp)
        exact ((put _).trans (posted _)).plantKept.trans (grateJamTrip_plantKept _)
  · exact .refl s

theorem strokeUnit_plantKept (s : State) : PlantKept s s.strokeUnit := by
  have counted (u : State) : FactsKept u (u.setSta (countUnit u.sta)) :=
    ⟨rfl, rfl, ramsKept_of rfl fun ch => by
      simp only [State.setSta_sta, countUnit, PerStroke.get_map]
      split <;> exact ⟨rfl, Iff.rfl⟩⟩
  have drawn (u : State) : PlantKept u u.draw.2 := FactsKept.plantKept (.of_sta rfl rfl rfl)
  have expired (u : State) (ch : StrokeChannel) : PlantKept u (u.expire ch) :=
    (expirePeriod_factsKept ch u).plantKept.trans (expireLimit_plantKept ch _)
  exact (State.expireAll_related PlantKept.refl PlantKept.trans drawn expired s).trans (counted _).plantKept

end Sys2Proof.Machine
end

section
/-! CERTIFICATE. Every step keeps the mode controller's law and the feed interlock: each command and each event of the blocks, then the rows. -/

namespace Sys2Proof.Machine

/-! ## Commands that leave the controller and the rams -/

section Quiet

variable (s : State)

theorem runActivation_factsKept (now : Nat) : FactsKept s (s.runActivation now) :=
  .of_handed (by simp) (by simp) (GrantsHanded.runActivation (.refl _) now)

theorem doSetTime_factsKept (p : Port) (day : BitVec 16) (hour minute second : BitVec 8) (divisor : BitVec 24) (offset : BitVec 8) :
    FactsKept s (s.doSetTime p day hour minute second divisor offset).1 := by
  unfold State.doSetTime
  (repeat' split) <;> exact .of_sta rfl rfl rfl

theorem startRunning_factsKept : FactsKept s s.startRunning := by
  have opened (u : State) : FactsKept u u.openAtStart :=
    .of_handed (by simp) (by simp [State.openAtStart]) (GrantsHanded.openPeriod (.refl _) _)
  have started (u : State) : FactsKept u u.startActivation := by
    unfold State.startActivation
    refine .trans ?_ (runActivation_factsKept _ _)
    split <;> exact .of_sta rfl rfl rfl
  have loaded (c : Clock) : FactsKept s (s.setClock c) := .of_sta rfl rfl rfl
  exact ((loaded _).trans (opened _)).trans (started _)

theorem doStartClock_factsKept (p : Port) : FactsKept s (s.doStartClock p).1 := by
  unfold State.doStartClock
  split
  · exact .of_sta rfl rfl rfl
  split
  · exact .of_sta rfl rfl rfl
  split
  · exact .of_sta rfl rfl rfl
  · exact startRunning_factsKept s

theorem doStopClock_factsKept (p : Port) : FactsKept s (s.doStopClock p).1 := by
  have stopped : FactsKept s s.stopRunning := by
    unfold State.stopRunning
    exact .of_handed (by simp) (by simp) (GrantsHanded.closeAtStop (.refl _))
  unfold State.doStopClock
  split
  · exact .of_sta rfl rfl rfl
  split
  · exact .of_sta rfl rfl rfl
  split
  · exact .of_sta rfl rfl rfl
  · exact stopped

theorem stepClock_factsKept (shift : Int) : FactsKept s (s.stepClock shift) := by
  have passed (old : ClockTime) (u : State) : FactsKept u (u.passedMinute old) := by
    unfold State.passedMinute
    split
    · exact runActivation_factsKept _ _
    · exact .of_sta rfl rfl rfl
  dsimp only [State.stepClock]
  split
  · exact .trans (.of_sta (by simp) (by simp) (by simp)) (passed _ _)
  · exact .of_sta rfl rfl rfl

theorem doAdjustClock_factsKept (p : Port) (shift : BitVec 8) : FactsKept s (s.doAdjustClock p shift).1 := by
  unfold State.doAdjustClock
  split
  · exact .of_sta rfl rfl rfl
  split
  · exact .of_sta rfl rfl rfl
  split
  · exact .of_sta rfl rfl rfl
  split
  · exact .of_sta rfl rfl rfl
  split
  · exact .of_sta rfl rfl rfl
  · exact stepClock_factsKept s _

theorem doSetLead_factsKept (p : Port) (lead : BitVec 16) : FactsKept s (s.doSetLead p lead).1 := by
  unfold State.doSetLead
  split <;> exact .of_sta rfl rfl rfl

theorem doPostSamples_factsKept (p : Port) (o2 : BitVec 16) (o2Status : BitVec 8) (entries : List SampleEntry) :
    FactsKept s (s.doPostSamples p o2 o2Status entries).1 := by
  have taken (l : Limits) (x : SampleSet) : FactsKept s (s.takeSamples l x) :=
    .of_handed (by simp) (by simp [State.takeSamples]) (GrantsHanded.recompute (s := s.setEau _) (.refl _))
  have set (x : SampleSet) : FactsKept s (s.doSampleSet x).1 := by
    unfold State.doSampleSet
    split
    · split
      · exact .of_sta rfl rfl rfl
      split
      · exact .of_sta rfl rfl rfl
      split
      · exact .of_sta rfl rfl rfl
      · exact taken _ _
    · exact .of_sta rfl rfl rfl
  unfold State.doPostSamples
  split
  · exact .of_sta rfl rfl rfl
  split
  · exact .of_sta rfl rfl rfl
  split
  · exact .of_sta rfl rfl rfl
  · exact set _

theorem doSetReagents_factsKept (p : Port) (a b c : ReagentArgs) : FactsKept s (s.doSetReagents p a b c).1 := by
  unfold State.doSetReagents
  split
  · exact .of_sta rfl rfl rfl
  split
  · exact .of_handed (by simp) (by simp) (GrantsHanded.recompute (s := s.setEau _) (.refl _))
  · exact .of_sta rfl rfl rfl

theorem doClearHistory_factsKept (p : Port) : FactsKept s (s.doClearHistory p).1 := by
  unfold State.doClearHistory
  (repeat' split) <;> exact .of_sta rfl rfl rfl

theorem doSetBoilerLimit_factsKept (p : Port) (limit : BitVec 16) : FactsKept s (s.doSetBoilerLimit p limit).1 := by
  unfold State.doSetBoilerLimit
  split
  · exact .of_sta rfl rfl rfl
  · exact .of_handed (by simp) (by simp) (GrantsHanded.retarget (s := s.setFeu _) (.refl _))

theorem doSetLanes_factsKept (p : Port) (split massA massB : BitVec 16) : FactsKept s (s.doSetLanes p split massA massB).1 := by
  unfold State.doSetLanes
  split
  · exact .of_sta rfl rfl rfl
  · have laned := relane_ramsKept s.plantMode s.plant
      { s.sta with split := clampTo 300 700 split.toNat, massA := min massTop massA.toNat, massB := min massTop massB.toNat }
    exact ⟨rfl, rfl, laned⟩

theorem doPostSteam_factsKept (p : Port) (flow : BitVec 16) : FactsKept s (s.doPostSteam p flow).1 := by
  have taken : FactsKept s (s.takeSteam flow.toNat) := by
    refine .of_handed (by simp) (by simp) ?_
    unfold State.takeSteam
    simp only [State.reallocate_frame]
    split
    · exact GrantsHanded.writeRequest (s := s.setSlg _) (.refl _)
    · exact .refl _
  unfold State.doPostSteam
  split
  · exact .of_sta rfl rfl rfl
  · exact taken

theorem doSetAuxDemand_factsKept (p : Port) (demand : BitVec 16) : FactsKept s (s.doSetAuxDemand p demand).1 := by
  have taken (d : Nat) : FactsKept s (s.takeAux d) := by
    refine .of_handed (by simp) (by simp) ?_
    unfold State.takeAux
    split
    · exact .refl _
    · simp only [State.reallocate_frame]
      exact GrantsHanded.writeRequest (s := s.setSlg _) (.refl _)
  unfold State.doSetAuxDemand
  split
  · exact .of_sta rfl rfl rfl
  · exact taken _

theorem doSetConsumers_factsKept (p : Port) (turbine extraction : BitVec 8) : FactsKept s (s.doSetConsumers p turbine extraction).1 := by
  have taken (a b : Availability) : FactsKept s (s.takeConsumers a b) := by
    refine .of_handed (by simp) (by simp) ?_
    unfold State.takeConsumers
    split
    · exact .refl _
    · simp only [State.reallocate_frame]
      exact GrantsHanded.writeRequest (s := s.setSlg _) (.refl _)
  unfold State.doSetConsumers
  split
  · exact .of_sta rfl rfl rfl
  split
  · exact taken _ _
  · exact .of_sta rfl rfl rfl

theorem doPostOrder_factsKept (p : Port) (args : OrderArgs) : FactsKept s (s.doPostOrder p args).1 := by
  have activated (o : Order) : FactsKept s (s.activateOrder o) := by
    refine .of_handed (by simp) (by simp) ?_
    rw [(State.activateOrder_feu _ _).2]
    exact GrantsHanded.takeRequest (.refl _) _
  have placed (o : Order) (clamped : Bool) : FactsKept s (s.placeOrder o clamped).1 := by
    dsimp only [State.placeOrder]
    split
    · exact activated o
    split
    · exact .of_sta rfl rfl rfl
    split
    · exact .of_sta rfl rfl rfl
    · exact .of_sta rfl rfl rfl
  unfold State.doPostOrder
  split
  · exact .of_sta rfl rfl rfl
  split
  · exact .of_sta rfl rfl rfl
  split
  · exact .of_sta rfl rfl rfl
  split
  · exact .of_sta rfl rfl rfl
  · exact placed _ _

theorem doCancelOrders_factsKept (p : Port) (tag : BitVec 16) : FactsKept s (s.doCancelOrders p tag).1 := by
  unfold State.doCancelOrders
  split <;> exact .of_sta rfl rfl rfl

theorem doPostEnergy_factsKept (p : Port) (exported heat : BitVec 32) : FactsKept s (s.doPostEnergy p exported heat).1 := by
  unfold State.doPostEnergy
  split
  · exact .of_sta rfl rfl rfl
  · exact .of_sta (by simp) (by simp) (by simp)

theorem doRestoreMeters_factsKept (p : Port) (totals : MeterArgs) : FactsKept s (s.doRestoreMeters p totals).1 := by
  unfold State.doRestoreMeters
  (repeat' split) <;> exact .of_sta (by simp) (by simp) (by simp)

theorem doFreshMeters_factsKept (p : Port) : FactsKept s (s.doFreshMeters p).1 := by
  unfold State.doFreshMeters
  (repeat' split) <;> exact .of_sta (by simp) (by simp) (by simp)

theorem doProgramSection_factsKept (p : Port) (number : BitVec 8) (image : List Byte) :
    FactsKept s (s.doProgramSection p number image).1 := by
  have programmed (sec : PermitSection) : FactsKept s (s.programSection p sec image).1 := by
    unfold State.programSection
    (repeat' split) <;> exact .of_sta rfl rfl rfl
  unfold State.doProgramSection
  split
  · exact .of_sta rfl rfl rfl
  · exact programmed _

theorem doLockSection_factsKept (p : Port) (number : BitVec 8) : FactsKept s (s.doLockSection p number).1 := by
  have locked (sec : PermitSection) : FactsKept s (s.lockSection p sec).1 := by
    unfold State.lockSection
    (repeat' split) <;> exact .of_sta rfl rfl rfl
  unfold State.doLockSection
  split
  · exact .of_sta rfl rfl rfl
  · exact locked _

end Quiet

/-! ## The mode controller's commands, and those that reach it -/

theorem doStart_plantKept (p : Port) (s : State) : PlantKept s (s.doStart p).1 := by
  unfold State.doStart
  split
  · exact .refl s
  split
  · exact .refl s
  split
  · exact .refl s
  split
  · exact .refl s
  · exact goTo_plantKept (new := .warming) nofun nofun nofun s

/-- The feed armed in WARMING, and the firing entry check (R26). -/
theorem armFeed_plantKept {s : State} (warming : s.mode.mode = .warming) : PlantKept s s.armFeed := by
  refine .trans (setMode_plantKept (m := { s.mode with feedArmed := true }) rfl rfl (fun law => ?_) id) (entryCheckWith_plantKept _ _)
  obtain ⟨burner, timer, counts, causes, -, -, rest⟩ := law
  exact ⟨burner, timer, counts, causes, fun _ => .inl warming, fun _ => rfl, rest⟩

theorem doFeed_plantKept (p : Port) (s : State) : PlantKept s (s.doFeed p).1 := by
  unfold State.doFeed
  split
  · exact .refl s
  split
  · exact .refl s
  · next warming => exact armFeed_plantKept (not_not.1 warming)

theorem doStop_plantKept (s : State) : PlantKept s s.doStop.1 := by
  have out : PlantKept s (s.goTo .burnout) := goTo_plantKept (new := .burnout) nofun nofun nofun s
  unfold State.doStop
  split
  · exact out
  · exact out
  · exact out
  · exact .refl s
  · exact .refl s
  · exact .refl s

theorem doTrip_plantKept (p : Port) (cause : BitVec 8) (s : State) : PlantKept s (s.doTrip p cause).1 := by
  have taken (code : Nat) : PlantKept s (s.takeTrip p code) := by
    unfold State.takeTrip
    split
    · exact countTrip_plantKept s
    · exact goTripped_plantKept _ s
  unfold State.doTrip
  split
  · exact .refl s
  split
  · exact .refl s
  · exact taken _

theorem doClearTrip_plantKept (p : Port) (s : State) : PlantKept s (s.doClearTrip p).1 := by
  have left : PlantKept s s.leaveTripped := by
    unfold State.leaveTripped
    split
    · exact goTo_plantKept (new := .burnout) nofun nofun nofun s
    · exact goTo_plantKept (new := .cold) nofun nofun nofun s
  unfold State.doClearTrip
  split
  · exact .refl s
  split
  · exact .refl s
  split
  · exact .refl s
  · exact left

theorem doPostTemperature_plantKept (p : Port) (value : BitVec 16) (s : State) : PlantKept s (s.doPostTemperature p value).1 := by
  unfold State.doPostTemperature
  split
  · exact .refl s
  · exact takeTemperature_plantKept (Nat.min_le_left _ _) s

theorem doSetCleaning_plantKept (p : Port) (a : BitVec 8) (s : State) : PlantKept s (s.doSetCleaning p a).1 := by
  unfold State.doSetCleaning
  split
  · exact .refl s
  split
  · exact .refl s
  split
  · exact .refl s
  · exact takeCleaning_plantKept _ s

theorem doSetChannel_plantKept (p : Port) (number enabled source : BitVec 8) (fixedPeriod : BitVec 16) (s : State) :
    PlantKept s (s.doSetChannel p number enabled source fixedPeriod).1 := by
  unfold State.doSetChannel
  split
  · exact .refl s
  split
  · exact putChannel_plantKept _ _ s
  · exact .refl s

theorem doClearJam_plantKept (p : Port) (number : BitVec 8) (s : State) : PlantKept s (s.doClearJam p number).1 := by
  unfold State.doClearJam
  split
  · exact .refl s
  split
  · exact .refl s
  split
  · exact putChannel_plantKept _ _ s
  · exact .refl s

/-! ## The second event, the store's completions and the resets -/

theorem subEvent_plantKept (k : EventKind) (old : Bool) (e : SubEvent) (s : State) : PlantKept s (s.subEvent k old e) := by
  cases e with
  | emission => exact FactsKept.plantKept (.of_handed (by simp [State.subEvent]) (by simp [State.subEvent]) (.emissionSecond (.refl _) _ _))
  | envelope => exact FactsKept.plantKept (.of_handed (by simp [State.subEvent]) (by simp [State.subEvent]) (.envelopeSecond (.refl _)))
  | install =>
    dsimp only [State.subEvent]
    split
    · exact FactsKept.plantKept (.of_handed (by simp) (by simp) (.installPending (.refl _)))
    · exact .refl s
  | activation =>
    dsimp only [State.subEvent]
    split
    · exact FactsKept.plantKept (.of_handed (by simp) (by simp) (.ledgerMinute (.refl _) _))
    · exact .refl s
  | mode => exact modeSecond_plantKept _ s

@[simp] theorem State.secondTicked_sta (s : State) : s.secondTicked.sta = s.sta := by simp [State.secondTicked]

theorem secondEvent_plantKept (s : State) : PlantKept s s.secondEvent := by
  obtain ⟨k, free, -, -, second⟩ := s.secondEvent_eq
  have ticked : FactsKept s s.secondTicked := .of_sta (by simp) (by simp) (by simp)
  have ledger (u : State) : PlantKept u u.ledgerSecond := FactsKept.plantKept (.of_sta (by simp) (by simp) (by simp))
  rw [second]
  exact ticked.plantKept.trans (State.blocksSecond_related PlantKept.refl PlantKept.trans subEvent_plantKept ledger k _ _)

theorem refckEdge_plantKept (s : State) : PlantKept s s.refckEdge := by
  unfold State.refckEdge
  split
  · exact .refl s
  split
  · exact FactsKept.plantKept (.of_sta rfl rfl rfl)
  · exact secondEvent_plantKept s

theorem completeProgramming_factsKept (s : State) : FactsKept s s.completeProgramming := by
  have taken (sec : PermitSection) (image : List Byte) (u : State) : FactsKept u (u.takeImage sec image) := by
    unfold State.takeImage
    split
    · exact .of_sta rfl rfl rfl
    · exact .of_sta rfl rfl rfl
    split
    · exact .of_sta rfl rfl rfl
    · exact plantInForce_factsKept _ u
  unfold State.completeProgramming
  split
  · exact .trans (.of_sta (by simp) (by simp) (by simp)) (taken _ _ _)
  · exact .of_sta rfl rfl rfl

/-- The values of a reset meet the interlock in COLD and in TRIPPED: cleaning UNAVAILABLE at both blocks, both rams feed-capable. -/
theorem reset_interlockLaw {s : State} (mode : s.mode.mode = .cold ∨ s.mode.mode = .tripped) (cleaning : s.mode.cleaning = s.eau.cleaning)
    (rams : s.mode.rams = ModeCtl.reset.rams) (sta : s.sta = .reset) : InterlockLaw s := by
  refine (interlockLaw_iff s).2 ⟨⟨cleaning, ?_, ?_⟩, guarded_of_idle ?_ ?_⟩
  · rw [rams, sta]
    decide
  · rw [sta]
    decide
  · rcases mode with h | h <;> simp [h]
  · rcases mode with h | h <;> simp [h]

theorem powerOn_plantKept (s : State) : PlantKept s s.powerOn := by
  have lawful : ModeLaw ModeCtl.reset := by decide
  exact ⟨fun _ => lawful, fun _ => reset_interlockLaw (.inl rfl) rfl rfl rfl⟩

/-- The controller after the fall of RSTN: COLD without a record, or TRIPPED with one (R37). -/
theorem resetMode_law {m : ModeCtl} (law : ModeLaw m) (t : ClockTime) : ModeLaw (resetMode m t) := by
  obtain ⟨-, -, -, -, -, -, trip, -, -⟩ := law
  rcases h : m.mode with _ | _ | _ | _ | _ | _ <;>
    simp [ModeLaw, resetMode, resetTrip, countTrip, ModeCtl.reset, burnerFor, h] at trip ⊢
  exact trip

theorem pinReset_plantKept (s : State) : PlantKept s s.pinReset := by
  unfold State.pinReset
  split
  · exact .refl s
  · have mode : s.loadStore.pinResetBlocks.mode = resetMode s.mode s.clock.latched.time := by simp [State.pinResetBlocks]
    refine ⟨fun law => mode ▸ resetMode_law law _, fun _ => reset_interlockLaw ?_ rfl rfl rfl⟩
    rw [mode, resetMode]
    split
    · exact .inl rfl
    · exact .inr rfl

theorem releaseReset_factsKept (s : State) : FactsKept s s.releaseReset := by
  unfold State.releaseReset
  split <;> exact .of_sta rfl rfl rfl

/-! ## The statement -/

theorem rowWork_plantKept (i : Instr) (s : State) : PlantKept s (rowWork i s) := by
  cases i with
  | powerOn => exact powerOn_plantKept s
  | pinReset => exact pinReset_plantKept s
  | pinResetRelease => exact (releaseReset_factsKept s).plantKept
  | refckEdge => exact refckEdge_plantKept s
  | secondEvent =>
    dsimp only [rowWork]
    split
    · exact secondEvent_plantKept s
    · exact .refl s
  | strokeUnitTick => exact strokeUnit_plantKept s
  | periodExpiry ch => exact (expirePeriod_factsKept ch s).plantKept
  | strokeLimitExpiry ch => exact expireLimit_plantKept ch s
  | eosArrival ch => exact (arriveEos_factsKept ch s).plantKept
  | programmingCompletion => exact (completeProgramming_factsKept s).plantKept
  | lockCompletion => exact FactsKept.plantKept (.of_sta (by simp [rowWork]) (by simp [rowWork]) (by simp [rowWork]))
  | setTime => exact (doSetTime_factsKept s ..).plantKept
  | startClock => exact (doStartClock_factsKept s ..).plantKept
  | stopClock => exact (doStopClock_factsKept s ..).plantKept
  | adjustClock => exact (doAdjustClock_factsKept s ..).plantKept
  | setLead => exact (doSetLead_factsKept s ..).plantKept
  | start => exact doStart_plantKept _ s
  | feed => exact doFeed_plantKept _ s
  | stop => exact doStop_plantKept s
  | trip => exact doTrip_plantKept _ _ s
  | clearTrip => exact doClearTrip_plantKept _ s
  | postTemperature => exact doPostTemperature_plantKept _ _ s
  | postSamples => exact (doPostSamples_factsKept s ..).plantKept
  | setCleaning => exact doSetCleaning_plantKept _ _ s
  | setReagents => exact (doSetReagents_factsKept s ..).plantKept
  | clearHistory => exact (doClearHistory_factsKept s ..).plantKept
  | setBoilerLimit => exact (doSetBoilerLimit_factsKept s ..).plantKept
  | setChannel => exact doSetChannel_plantKept _ _ _ _ _ s
  | setLanes => exact (doSetLanes_factsKept s ..).plantKept
  | clearJam => exact doClearJam_plantKept _ _ s
  | postSteam => exact (doPostSteam_factsKept s ..).plantKept
  | setAuxDemand => exact (doSetAuxDemand_factsKept s ..).plantKept
  | setConsumers => exact (doSetConsumers_factsKept s ..).plantKept
  | postOrder => exact (doPostOrder_factsKept s ..).plantKept
  | cancelOrders => exact (doCancelOrders_factsKept s ..).plantKept
  | postEnergy => exact (doPostEnergy_factsKept s ..).plantKept
  | restoreMeters => exact (doRestoreMeters_factsKept s ..).plantKept
  | freshMeters => exact (doFreshMeters_factsKept s ..).plantKept
  | enableWrite => exact FactsKept.plantKept (.of_sta rfl rfl rfl)
  | programSection => exact (doProgramSection_factsKept s ..).plantKept
  | lockSection => exact (doLockSection_factsKept s ..).plantKept
  | portReset => exact FactsKept.plantKept (.of_sta rfl rfl rfl)
  | _ => exact .refl s

/-- The two laws are kept by rows: the ports and the queue do not matter to them. -/
theorem plantKept_byRows : KeptByRows PlantKept :=
  ⟨PlantKept.refl, PlantKept.trans, fun _ _ => FactsKept.plantKept (.of_sta rfl rfl rfl),
    fun _ _ => FactsKept.plantKept (.of_sta rfl rfl rfl), rowWork_plantKept⟩

/-- Settles O32: each row's own work keeps both laws, so every step does. -/
theorem modeAndInterlockKept : Obligations.ModeAndInterlockKept := by
  unfold Obligations.ModeAndInterlockKept
  intro s t h
  have kept := plantKept_byRows.step h
  exact ⟨kept.law, kept.lock⟩

end Sys2Proof.Machine
end

section
/-! SUPPORT. A reply and the events of the mode controller: no event reads a port, so the reply may be placed before the event; a command's row
is then its event on the state in which the reply already stands. -/

namespace Sys2Proof.Machine

/-! ## A reply placed before an event (R170) -/

section Answer

variable (p : Port) (r : Reply) (s : State)

@[simp] theorem State.answer_views :
    (s.answer p r).plantMode = s.plantMode ∧ (s.answer p r).limits = s.limits ∧ (s.answer p r).plant = s.plant := by
  simp [State.plantMode, State.limits, State.plant]

@[simp] theorem State.answer_handGrant (before : Nat) : (s.handGrant before).answer p r = (s.answer p r).handGrant before := by
  unfold State.handGrant
  simp only [State.answer_frame]
  split
  · rfl
  · simp

@[simp] theorem State.answer_retarget : s.retarget.answer p r = (s.answer p r).retarget := by
  simp [State.retarget]

@[simp] theorem State.answer_recompute : s.recompute.answer p r = (s.answer p r).recompute := by
  simp [State.recompute]

@[simp] theorem State.answer_takeRequest (value : Nat) : (s.takeRequest value).answer p r = (s.answer p r).takeRequest value := by
  unfold State.takeRequest
  simp only [State.answer_frame]
  split
  · rfl
  · simp

@[simp] theorem State.answer_reallocate : s.reallocate.answer p r = (s.answer p r).reallocate := by
  simp [State.reallocate]

@[simp] theorem State.answer_writeRequest : s.writeRequest.answer p r = (s.answer p r).writeRequest := by
  simp [State.writeRequest]

@[simp] theorem State.answer_ledgerTakePlant : s.ledgerTakePlant.answer p r = (s.answer p r).ledgerTakePlant := by
  simp [State.ledgerTakePlant]

@[simp] theorem State.answer_plantInForce (pl : Plant) : (s.plantInForce pl).answer p r = (s.answer p r).plantInForce pl := by
  simp [State.plantInForce, State.plantMode, State.plant]

@[simp] theorem State.answer_releaseHeldPlant : s.releaseHeldPlant.answer p r = (s.answer p r).releaseHeldPlant := by
  unfold State.releaseHeldPlant
  simp only [State.answer_frame, State.answer_views]
  split
  · split <;> simp
  · rfl

@[simp] theorem State.answer_beginStale : s.beginStale.answer p r = (s.answer p r).beginStale := by simp [State.beginStale]

@[simp] theorem State.answer_endStale : s.endStale.answer p r = (s.answer p r).endStale := by simp [State.endStale]

@[simp] theorem State.answer_emissionMode (old : Mode) : (s.emissionMode old).answer p r = (s.answer p r).emissionMode old := by
  simp only [State.emissionMode, State.answer_frame, State.answer_views, apply_ite (State.answer p r), State.answer_endStale,
    State.answer_beginStale]

@[simp] theorem State.answer_deliverMode (old : Mode) : (s.deliverMode old).answer p r = (s.answer p r).deliverMode old := by
  simp only [State.deliverMode, ← State.answer_releaseHeldPlant, ← State.answer_emissionMode, ← State.answer_retarget,
    State.answer_frame, State.answer_views, State.answer_setSta]

@[simp] theorem State.answer_changeMode (m : ModeCtl) : (s.changeMode m).answer p r = (s.answer p r).changeMode m := by
  simp [State.changeMode]

@[simp] theorem State.answer_goTo (new : Mode) : (s.goTo new).answer p r = (s.answer p r).goTo new := by simp [State.goTo]

@[simp] theorem State.answer_goHold (c : HoldCauses) : (s.goHold c).answer p r = (s.answer p r).goHold c := by simp [State.goHold]

@[simp] theorem State.answer_goTripped (c : TripCause) : (s.goTripped c).answer p r = (s.answer p r).goTripped c := by
  simp [State.goTripped]

@[simp] theorem State.answer_entryCheckWith (lim : Option Limits) :
    (s.entryCheckWith lim).answer p r = (s.answer p r).entryCheckWith lim := by
  simp only [State.entryCheckWith, State.answer_frame, State.answer_views, apply_ite (State.answer p r), State.answer_goTo]

@[simp] theorem State.answer_entryCheck : s.entryCheck.answer p r = (s.answer p r).entryCheck := by
  simp [State.entryCheck]

@[simp] theorem State.answer_holdArises (alone : HoldCauses) (add : HoldCauses → HoldCauses) :
    (s.holdArises alone add).answer p r = (s.answer p r).holdArises alone add := by
  unfold State.holdArises
  simp only [State.answer_frame, State.answer_views]
  split
  · simp
  · simp
  · rfl

@[simp] theorem State.answer_holdClears (remove : HoldCauses → HoldCauses) :
    (s.holdClears remove).answer p r = (s.answer p r).holdClears remove := by
  simp only [State.holdClears, State.answer_frame, State.answer_views, apply_ite (State.answer p r), State.answer_setMode]

@[simp] theorem State.answer_takeCleaning (a : Availability) : (s.takeCleaning a).answer p r = (s.answer p r).takeCleaning a := by
  cases a <;> simp [State.takeCleaning]

@[simp] theorem State.answer_handRams (before : Nat) : (s.handRams before).answer p r = (s.answer p r).handRams before := by
  simp only [State.handRams, State.answer_frame, apply_ite (State.answer p r), State.answer_entryCheck, apply_ite State.entryCheck,
    State.answer_holdArises, State.answer_holdClears, State.answer_setMode]

@[simp] theorem State.answer_putChannel (ch : StrokeChannel) (x : StrokeRecord) :
    (s.putChannel ch x).answer p r = (s.answer p r).putChannel ch x := by
  simp [State.putChannel]

@[simp] theorem State.answer_compareTmin (l : Limits) (t : Nat) : (s.compareTmin l t).answer p r = (s.answer p r).compareTmin l t := by
  unfold State.compareTmin
  simp only [State.answer_frame, State.answer_views]
  (repeat' split) <;> simp

@[simp] theorem State.answer_compareTemperature (l : Limits) (t : Nat) :
    (s.compareTemperature l t).answer p r = (s.answer p r).compareTemperature l t := by
  unfold State.compareTemperature
  simp only [State.answer_frame, State.answer_views]
  (repeat' split) <;> simp

@[simp] theorem State.answer_takeTemperature (t : Nat) : (s.takeTemperature t).answer p r = (s.answer p r).takeTemperature t := by
  unfold State.takeTemperature
  simp only [State.answer_frame, State.answer_views]
  split <;> simp

end Answer

/-- The slot after a command's take. -/
@[simp] theorem State.replied_slot (p : Port) (r : Reply) (s : State) : ((s.replied p r).port p).slot = some r := by
  simp [State.replied, answered]

/-- The reply stays in its slot whatever the blocks do after it. -/
theorem PortsGrow.slot {s t : State} (grow : PortsGrow s t) (p : Port) : (t.port p).slot = (s.port p).slot := by rw [(grow p).1]

/-! ## The rows -/

/-- A command on a ready port: its work on the state at the take of its frame, and its reply. -/
theorem exec_ready {i : Instr} {p : Port} {s u : State} {run : State → State × Reply} {r : Reply} (command : i.port? = some p)
    (ready : Ready p s) (take : s.takeFrame i = s.takeWrite p run) (done : run (s.beginTake p) = (u, r)) :
    exec i s = .next (u.answer p r) := by
  rw [exec_command command, State.arrive_ready ready, take, State.takeWrite_eq, done]

end Sys2Proof.Machine
end

section
/-! SUPPORT. A change of plant mode at the stroke channels: what the grants, a copy released at the change, and the gates make of a channel and of
the array (R87, R95 to R97, R103, R109, R111). -/

namespace Sys2Proof.Machine

/-! ## The gate of one channel -/

/-- A gate that closes (R96, R103), whatever the grants did to the channel before. -/
theorem deactivated_of_gate {mode : Mode} {pl : Option Plant} {a : StrokeArray} {ch : StrokeChannel} {r y : StrokeRecord}
    (before : Readied r y) (inactive : active mode ch y = false) : Deactivated r (gateChannel mode pl a ch y) := by
  unfold Deactivated
  split
  · next still =>
    have same := before.eq_of_still still
    rw [same] at inactive ⊢
    unfold gateChannel
    rcases still with jammed | off
    · rw [if_pos jammed]
    · simp [off, inactive]
  · next free =>
    obtain ⟨notJammed, notOff⟩ := not_or.1 free
    obtain ⟨-, -, -, jammed, off⟩ := before.kept
    have closes : gateChannel mode pl a ch y = deactivate y := by
      simp [gateChannel, mt jammed.1 notJammed, mt off.1 notOff, inactive]
    rw [closes]
    cases before with
    | same => simp [deactivate]
    | preloaded p cycles => simp [deactivate]
    | released p period limit waits => simp [deactivate, waits]

theorem Deactivated.stopped {r x : StrokeRecord} (h : Deactivated r x) : x.state = .off ∨ x.state = .jammed := by
  unfold Deactivated at h
  split at h
  · next still =>
    rw [h]
    exact still.symm
  · rw [h]
    exact .inl rfl

/-- The period of a grate channel outside FIRING (R107, R108): that of its setting, or that of grate_min. -/
theorem computedPeriod_grate {mode : Mode} {pl : Plant} {a : StrokeArray} {ch : StrokeChannel} {r : StrokeRecord} (grate : isRam ch = false)
    (firing : mode ≠ .firing) :
    computedPeriod mode (some pl) a ch r = some (max ((timingOf pl ch).ls + 10)
      (if r.source = .fixed then r.fixedPeriod
        else min 65535 (((timingOf pl ch).pnom * 1000 + pl.grateMin / 2) / pl.grateMin))) := by
  cases h : r.source <;> simp [computedPeriod, h, grate, firingFigure, firing, periodFor]

/-- A FIXED channel's period depends on nothing but its setting (R107). -/
theorem computedPeriod_fixed {mode new : Mode} {pl : Option Plant} {a b : StrokeArray} {ch : StrokeChannel} {r : StrokeRecord}
    (fixed : r.source = .fixed) : computedPeriod mode pl a ch r = computedPeriod new pl b ch r := by
  cases pl <;> simp [computedPeriod, fixed]

/-- What an event hands to the array before the gates move: grants, and where it is new the PLANT copy then in force. -/
structure CopyHanded (pl : Option Plant) (new : Bool) (a b : StrokeArray) : Prop where
  items   : b = { a with grant := b.grant, laneA := b.laneA, laneB := b.laneB, channels := b.channels }
  lanes   : (b.grant = a.grant ∧ b.laneA = a.laneA ∧ b.laneB = a.laneB) ∨ LaneLaw b
  channel : ∀ ch, Readied (a.channels.get ch) (b.channels.get ch)
  fixed   : ∀ ch, (a.channels.get ch).source = .fixed →
    b.channels.get ch = if new then writePreload .cold pl a ch (a.channels.get ch) else a.channels.get ch

/-- Grants alone. -/
theorem GrantsHanded.copyHanded {a b : StrokeArray} (h : GrantsHanded a b) (pl : Option Plant) : CopyHanded pl false a b :=
  ⟨h.items, h.lanes, h.channel, fun ch fixed => by simpa using h.fixed ch fixed⟩

/-- A new copy, then grants (R111). -/
theorem GrantsHanded.copyHanded_new {mode : Mode} {pl : Option Plant} {a b : StrokeArray} (h : GrantsHanded (takePlant mode pl a) b) :
    CopyHanded pl true a b := by
  have taken (ch : StrokeChannel) : (takePlant mode pl a).channels.get ch = writePreload mode pl a ch (a.channels.get ch) := by
    simp [takePlant]
  refine ⟨h.items, h.lanes, fun ch => ?_, fun ch fixed => ?_⟩
  · have readied := h.channel ch
    rw [taken] at readied
    exact (writePreload_readied _ _ _ _ _).trans readied
  · obtain ⟨-, source, -⟩ := (writePreload_readied mode pl a ch (a.channels.get ch)).kept
    rw [h.fixed ch (by rw [taken, source, fixed]), taken, if_pos rfl]
    unfold writePreload
    rw [computedPeriod_fixed (new := .cold) (b := a) fixed]

theorem Source.eq_fixed {x : Source} (h : x ≠ .auto) : x = .fixed := by cases x <;> simp_all

/-- A grate channel's gate opens or stays open at an entry into HOLD or BURNOUT (R95, R97, R109, R111). -/
theorem grateRunsOn_of_gate {mode : Mode} {pl : Plant} {new : Bool} {a b c : StrokeArray} {ch : StrokeChannel} (grate : isRam ch = false)
    (runs : mode = .hold ∨ mode = .burnout) (handed : CopyHanded (some pl) new a b) :
    GrateRunsOn pl new ch (a.channels.get ch) (gateChannel mode (some pl) c ch (b.channels.get ch)) := by
  have firing : mode ≠ .firing := by rcases runs with rfl | rfl <;> decide
  have allowed : allowed mode ch = true := by rcases runs with rfl | rfl <;> simp [allowed, grate]
  have before := handed.channel ch
  obtain ⟨enabled, source, setting, jammed, off⟩ := before.kept
  refine ⟨fun still => ?_, fun on isOff => ?_, fun on cycles => ?_⟩
  · rcases still with isJammed | ⟨isOff, disabled⟩
    · rw [before.eq_of_still (.inl isJammed), gateChannel, if_pos isJammed]
    · rw [before.eq_of_still (.inr isOff)]
      simp [gateChannel, isOff, active, disabled]
  · rw [before.eq_of_still (.inr isOff)]
    simp [gateChannel, isOff, active, on, allowed, activate, mustWait, grate, enterDwell, computedPeriod_grate grate firing, currentLimit]
  · have same := before.eq_of_cycling cycles
    have running : (b.channels.get ch).state = .dwell ∨ (b.channels.get ch).state = .stroke := by rw [same]; exact cycles
    have notJammed : (b.channels.get ch).state ≠ .jammed := by rcases running with h | h <;> simp [h]
    have notOff : (b.channels.get ch).state ≠ .off := by rcases running with h | h <;> simp [h]
    have isCycling : cycling (b.channels.get ch) = true := (cycling_iff _).2 running
    by_cases auto : (a.channels.get ch).source = .auto
    · have gate : gateChannel mode (some pl) c ch (b.channels.get ch) = { b.channels.get ch with preload := some (max ((timingOf pl ch).ls + 10)
          (min 65535 (((timingOf pl ch).pnom * 1000 + pl.grateMin / 2) / pl.grateMin))) } := by
        simp [gateChannel, notJammed, notOff, active, enabled, on, allowed, grate, source, auto, writePreload, isCycling,
          computedPeriod_grate grate firing]
      rw [gate, same]
      simp [auto]
    · have fixed := Source.eq_fixed auto
      have gate : gateChannel mode (some pl) c ch (b.channels.get ch) = b.channels.get ch := by
        simp [gateChannel, notJammed, notOff, active, enabled, on, allowed, source, auto]
      rw [gate, handed.fixed ch fixed]
      cases new
      · simp [auto]
      · simp [writePreload, (cycling_iff _).2 cycles, computedPeriod_grate grate (mode := .cold) nofun, fixed]

/-! ## The array -/

/-- The items of the array whose grant has fallen to 0 at the change (R87, R106). -/
theorem grantDropped_of {pl : Option Plant} {new : Bool} {mode : Mode} {a b : StrokeArray} (handed : CopyHanded pl new a b)
    (zero : b.grant = 0) : GrantDropped a (takeMode mode pl b) := by
  refine ⟨?_, fun changed => ?_⟩
  · rw [takeMode, handed.items, ← zero]
  · rcases handed.lanes with ⟨same, -, -⟩ | ⟨laneA, laneB⟩
    · exact absurd (same.symm.trans zero) changed
    · exact ⟨by rw [takeMode, laneA, zero]; simp, by rw [takeMode, laneB, zero]; simp⟩

/-- A channel of the array after a change of mode. -/
theorem takeMode_channel (mode : Mode) (pl : Option Plant) (a : StrokeArray) (ch : StrokeChannel) :
    (takeMode mode pl a).channels.get ch = gateChannel mode pl a ch (a.channels.get ch) := by
  simp [takeMode]

end Sys2Proof.Machine
end

section
/-! SUPPORT. A change of plant mode as the blocks take it (R18, R29, R48, R49, R87, R159): the store and the ledger, the emission unit, the envelope
and the array, first whatever the mode entered, then for a mode that is not FIRING. -/

namespace Sys2Proof.Machine

/-! ## The array holds the grant (R85) -/

/-- The stroke timer array holds the grant of the envelope. -/
abbrev GrantHeld (s : State) : Prop := s.sta.grant = s.feu.grant

section Held

variable {s : State}

theorem GrantHeld.setEau (h : GrantHeld s) (x : Emission) : GrantHeld (s.setEau x) := h

theorem GrantHeld.setSlg (h : GrantHeld s) (x : Ledger) : GrantHeld (s.setSlg x) := h

theorem GrantHeld.setPst (h : GrantHeld s) (x : PermitStore) : GrantHeld (s.setPst x) := h

theorem GrantHeld.post (h : GrantHeld s) (n : Notice) (p : Port) : GrantHeld (s.post n p) := by simpa [GrantHeld] using h

theorem GrantHeld.retarget (h : GrantHeld s) : GrantHeld s.retarget := by
  rw [GrantHeld, State.retarget_sta, State.retarget_feu]
  split
  · next same => rw [h, retargeted, same]
  · rfl

theorem GrantHeld.recompute (h : GrantHeld s) : GrantHeld s.recompute := GrantHeld.retarget (s := s.setFeu _) h

theorem GrantHeld.takeRequest (h : GrantHeld s) (value : Nat) : GrantHeld (s.takeRequest value) := by
  unfold State.takeRequest
  split
  · exact h
  · exact GrantHeld.retarget (s := s.setFeu _) h

theorem GrantHeld.reallocate (h : GrantHeld s) : GrantHeld s.reallocate := by simpa [GrantHeld] using h

theorem GrantHeld.writeRequest (h : GrantHeld s) : GrantHeld s.writeRequest := by
  dsimp only [State.writeRequest]
  exact (h.setSlg _).takeRequest _

theorem GrantHeld.ledgerTakePlant (h : GrantHeld s) : GrantHeld s.ledgerTakePlant := by
  dsimp only [State.ledgerTakePlant]
  exact (h.setSlg _).writeRequest.reallocate

theorem GrantHeld.takePlant (h : GrantHeld s) (mode : Mode) (pl : Option Plant) : GrantHeld (s.setSta (takePlant mode pl s.sta)) := h

theorem GrantHeld.plantInForce (h : GrantHeld s) (pl : Plant) : GrantHeld (s.plantInForce pl) := by
  dsimp only [State.plantInForce]
  exact ((h.setPst _).takePlant _ _).ledgerTakePlant

theorem GrantHeld.releaseHeldPlant (h : GrantHeld s) : GrantHeld s.releaseHeldPlant := by
  unfold State.releaseHeldPlant
  split
  · split
    · exact (h.setPst _).plantInForce _
    · exact h
  · exact h

theorem GrantHeld.emissionMode (h : GrantHeld s) (old : Mode) : GrantHeld (s.emissionMode old) := by
  unfold State.emissionMode State.endStale State.beginStale
  split
  · exact (h.setEau _).recompute
  split
  · exact ((h.setEau _).recompute.post _ _).post _ _
  · exact h

end Held

/-! ## The held copy (R135, R159) -/

/-- A held copy is put in force in BURNOUT and TRIPPED. -/
theorem State.releaseHeldPlant_released {s : State} {pl : Plant} (held : s.pst.heldPlant = some pl)
    (out : s.mode.mode = .burnout ∨ s.mode.mode = .tripped) :
    s.releaseHeldPlant = (s.setPst { s.pst with heldPlant := none }).plantInForce pl := by
  simp [State.releaseHeldPlant, held, State.plantMode, out]

theorem State.releaseHeldPlant_none {s : State} (none : s.pst.heldPlant = none) : s.releaseHeldPlant = s := by
  simp [State.releaseHeldPlant, none]

theorem State.releaseHeldPlant_kept {s : State} (out : ¬ (s.mode.mode = .burnout ∨ s.mode.mode = .tripped)) : s.releaseHeldPlant = s := by
  obtain ⟨burnout, tripped⟩ := not_or.1 out
  exact State.releaseHeldPlant_of_feeding burnout tripped

@[simp] theorem State.plantInForce_pst (pl : Plant) (s : State) : (s.plantInForce pl).pst = { s.pst with workingPlant := some pl } := by
  simp [State.plantInForce]

/-- A copy put in force reaches the ledger (R135). -/
theorem plantInForce_reaches (pl : Plant) (s : State) : PlantReachesLedger pl s (s.plantInForce pl) := by
  have plant : (s.plantInForce pl).pst.workingPlant = some pl := by simp
  have power (l : Ledger) : powerTargetOf (some pl) l =
      if l.turbine = .available then (l.active.map fun o => min o.power pl.snom).getD 0 else 0 := by
    cases ht : l.turbine <;> cases ha : l.active <;> simp [powerTargetOf, ht, ha]
  have heat (l : Ledger) : heatTargetOf (some pl) l =
      if l.extraction = .available then (l.active.map fun o => min o.heat pl.heatMax).getD 0 else 0 := by
    cases ht : l.extraction <;> cases ha : l.active <;> simp [heatTargetOf, ht, ha]
  have slg : (s.plantInForce pl).slg = reallocated (some pl)
      { retargetLedger (some pl) { s.slg with aux := min s.slg.aux pl.auxMax } with
        request := boundedRequest (some pl) (retargetLedger (some pl) { s.slg with aux := min s.slg.aux pl.auxMax }) } := by
    simp [State.plantInForce, State.ledgerTakePlant, State.reallocate_slg, State.writeRequest_slg, State.plant]
  refine ⟨?_, ?_, ?_⟩
  · rw [slg]
    simp [retargetLedger, power, heat, boundedRequest, requestOf, reallocated]
  · unfold State.plantInForce State.ledgerTakePlant
    exact reallocatedFrom_of (by simp [State.writeRequest_slg, retargetLedger]) (by simp [State.writeRequest_slg, retargetLedger]) rfl
      (by simp) (PortsGrow.refl _)
  · rw [slg]
    simp [State.plantInForce, State.ledgerTakePlant, State.writeRequest, State.plant, reallocated]

/-- What a change of mode does with a held copy (R159): released in BURNOUT and TRIPPED, kept elsewhere. -/
theorem heldCopyReleased_of {s t : State} (slg : t.slg = s.releaseHeldPlant.slg) (pst : t.pst = s.releaseHeldPlant.pst)
    (request : t.feu.request = s.releaseHeldPlant.feu.request) (grow : PortsGrow s.releaseHeldPlant t)
    (out : s.mode.mode = .burnout ∨ s.mode.mode = .tripped) : HeldCopyReleased s t := by
  refine ⟨fun none => ?_, fun pl held => ?_⟩
  · rw [State.releaseHeldPlant_none none] at slg pst
    exact ⟨slg, pst⟩
  · rw [State.releaseHeldPlant_released (Option.mem_toList.1 held) out] at slg pst request grow
    obtain ⟨ledger, ⟨served, spill, short, spills⟩, asked⟩ := plantInForce_reaches pl (s.setPst { s.pst with heldPlant := none })
    have plant : t.pst.workingPlant = ((s.setPst { s.pst with heldPlant := none }).plantInForce pl).pst.workingPlant := by rw [pst]
    refine ⟨by rw [pst, State.plantInForce_pst]; rfl, ?_, ⟨?_, ?_, fun rises zero => ?_, fun rises clear => ?_⟩, ?_⟩
    · rw [slg]
      exact ledger
    · rw [slg]
      exact served
    · rw [slg, plant]
      exact spill
    · exact grow.holds (short (by rwa [slg] at rises) zero)
    · obtain ⟨pd, pf⟩ := spills (by rwa [slg] at rises) clear
      exact ⟨grow.holds pd, grow.holds pf⟩
    · rw [request, slg]
      exact asked

/-- The copy and the grants that a release hands to the array. -/
theorem releaseHeldPlant_copyHanded (s : State) :
    CopyHanded s.releaseHeldPlant.pst.workingPlant (s.pst.heldPlant.isSome && s.releaseHeldPlant.pst.heldPlant.isNone) s.sta
      s.releaseHeldPlant.sta := by
  rcases held : s.pst.heldPlant with _ | pl
  · rw [State.releaseHeldPlant_none held]
    exact (GrantsHanded.refl _).copyHanded _
  by_cases out : s.mode.mode = .burnout ∨ s.mode.mode = .tripped
  · have handed : GrantsHanded (takePlant s.mode.mode (some pl) s.sta) ((s.setPst { s.pst with heldPlant := none }).plantInForce pl).sta := by
      dsimp only [State.plantInForce]
      exact GrantsHanded.ledgerTakePlant (.refl _)
    rw [State.releaseHeldPlant_released held out, State.plantInForce_pst]
    exact handed.copyHanded_new
  · rw [State.releaseHeldPlant_kept out, held]
    exact (GrantsHanded.refl _).copyHanded _

/-- Grants after a copy. -/
theorem CopyHanded.grants {pl : Option Plant} {new : Bool} {a b c : StrokeArray} (h : CopyHanded pl new a b) (k : GrantsHanded b c) :
    CopyHanded pl new a c := by
  refine ⟨?_, ?_, fun ch => (h.channel ch).trans (k.channel ch), fun ch fixed => ?_⟩
  · rw [k.items, h.items]
  · rcases k.lanes with ⟨grant, laneA, laneB⟩ | law
    · have split : c.split = b.split := by rw [k.items]
      rcases h.lanes with ⟨grant', laneA', laneB'⟩ | law
      · exact .inl ⟨grant.trans grant', laneA.trans laneA', laneB.trans laneB'⟩
      · exact .inr (by simpa only [LaneLaw, grant, laneA, laneB, split] using law)
    · exact .inr law
  · obtain ⟨-, source, -⟩ := (h.channel ch).kept
    rw [k.fixed ch (source.trans fixed)]
    exact h.fixed ch fixed

/-! ## The emission unit at a change of mode (R48, R49) -/

/-- A change into a mode other than FIRING ends the stale-in-FIRING condition where it leaves FIRING. -/
theorem State.emissionMode_eau_of_left {s : State} (left : s.mode.mode ≠ .firing) (old : Mode) :
    (s.emissionMode old).eau = { s.eau with staleInFiring := s.eau.staleInFiring && old != .firing } := by
  by_cases ends : old = .firing ∧ s.eau.staleInFiring = true
  · obtain ⟨rfl, on⟩ := ends
    simp [State.emissionMode, State.plantMode, left, on]
  · have kept : (s.eau.staleInFiring && old != .firing) = s.eau.staleInFiring := by
      cases on : s.eau.staleInFiring
      · rfl
      · simpa [on] using ends
    rw [kept]
    simp only [State.emissionMode, State.plantMode, left, ne_eq, not_false_eq_true, true_and, false_and, and_false, if_false, if_neg ends]

/-- The unit hands the envelope no request and no boiler limit. -/
@[simp] theorem State.emissionMode_request (old : Mode) (s : State) :
    (s.emissionMode old).feu.request = s.feu.request ∧ (s.emissionMode old).feu.boilerLimit = s.feu.boilerLimit := by
  unfold State.emissionMode State.endStale State.beginStale
  (repeat' split) <;> simp [recomputed, retargeted]

/-! ## The blocks as the array takes a change of mode -/

/-- The machine as the stroke timer array takes a change of mode: the controller's new items, MODE at the ports, a held copy, the emission
unit and the envelope. -/
def State.modeDelivered (m : ModeCtl) (s : State) : State :=
  ((((s.setMode m).postAll .mode).releaseHeldPlant).emissionMode s.mode.mode).retarget

theorem State.changeMode_eq (m : ModeCtl) (s : State) :
    s.changeMode m = (s.modeDelivered m).setSta
      (takeMode (s.modeDelivered m).plantMode (s.modeDelivered m).plant (s.modeDelivered m).sta) := rfl

/-- The state in which a change of mode meets the held copy. -/
abbrev State.entering (m : ModeCtl) (s : State) : State := (s.setMode m).postAll .mode

section Changes

variable (m : ModeCtl) (s : State)

@[simp] theorem State.modeDelivered_frame :
    (s.modeDelivered m).mode = m ∧ (s.modeDelivered m).clock = s.clock ∧ (s.modeDelivered m).fmu = s.fmu
      ∧ (s.modeDelivered m).slg = (s.entering m).releaseHeldPlant.slg ∧ (s.modeDelivered m).pst = (s.entering m).releaseHeldPlant.pst := by
  simp [State.modeDelivered]

/-- Every block but the array after a change of mode. -/
theorem State.changeMode_blocks :
    (s.changeMode m).eau = (s.modeDelivered m).eau ∧ (s.changeMode m).feu = (s.modeDelivered m).feu
      ∧ (s.changeMode m).slg = (s.modeDelivered m).slg ∧ (s.changeMode m).pst = (s.modeDelivered m).pst := by
  simp [State.changeMode_eq]

/-- The array after a change of mode. -/
theorem State.changeMode_sta :
    (s.changeMode m).sta = takeMode m.mode (s.changeMode m).pst.workingPlant (s.modeDelivered m).sta := by
  simp [State.changeMode_eq, State.plantMode, State.plant]

theorem State.modeDelivered_copyHanded :
    CopyHanded (s.changeMode m).pst.workingPlant (s.pst.heldPlant.isSome && (s.changeMode m).pst.heldPlant.isNone) s.sta
      (s.modeDelivered m).sta := by
  have released := releaseHeldPlant_copyHanded (s.entering m)
  have handed : GrantsHanded (s.entering m).releaseHeldPlant.sta (s.modeDelivered m).sta := by
    unfold State.modeDelivered
    exact ((GrantsHanded.refl _).emissionMode _).retarget
  have pst : (s.changeMode m).pst = (s.entering m).releaseHeldPlant.pst := by simp [State.changeMode_blocks]
  rw [pst]
  simpa [State.entering] using released.grants handed

/-- What the gates and the grants leave of a channel whose kind the mode does not allow. -/
theorem State.changeMode_deactivated {m : ModeCtl} {s : State} {ch : StrokeChannel} (closed : allowed m.mode ch = false) :
    Deactivated (s.sta.channels.get ch) ((s.changeMode m).sta.channels.get ch) := by
  rw [State.changeMode_sta, takeMode_channel]
  exact deactivated_of_gate ((State.modeDelivered_copyHanded m s).channel ch) (by simp [active, closed])

/-- MODE stands at every port after a change of mode. -/
theorem State.changeMode_holds_mode (q : Port) : (s.changeMode m).holds q .mode = true := by
  have posted : (s.entering m).holds q .mode = true := by
    have pf := State.holds_post .mode .pf (s.setMode m)
    have pg := State.holds_post .mode .pg ((s.setMode m).post .mode .pf)
    have pd := State.holds_post .mode .pd (((s.setMode m).post .mode .pf).post .mode .pg)
    cases q with
    | pf => exact (((PortsGrow.refl _).post _ _).post _ _).holds pf
    | pg => exact ((PortsGrow.refl _).post _ _).holds pg
    | pd => exact pd
  have grow : PortsGrow (s.entering m) (s.changeMode m) := (PortsGrow.refl _).deliverMode _
  exact grow.holds posted

end Changes

/-! ## A change into a mode that is not FIRING (R87, R95, R96) -/

section Left

variable {m : ModeCtl} {s : State} (left : m.mode ≠ .firing)
include left

theorem State.changeMode_eau_of_left :
    (s.changeMode m).eau = { s.eau with staleInFiring := s.eau.staleInFiring && s.mode.mode != .firing } := by
  have mode : (s.entering m).releaseHeldPlant.mode.mode ≠ .firing := by simpa using left
  obtain ⟨eau, -⟩ := State.changeMode_blocks m s
  rw [eau, State.modeDelivered]
  simpa using State.emissionMode_eau_of_left mode s.mode.mode

/-- The envelope gives nothing. -/
theorem State.changeMode_feu_of_left :
    (s.changeMode m).feu.target = 0 ∧ (s.changeMode m).feu.grant = 0 ∧ (s.changeMode m).feu.limiting = false := by
  have feu : (s.changeMode m).feu = retargeted m.mode ((s.entering m).releaseHeldPlant.emissionMode s.mode.mode).feu := by
    simp [State.changeMode_blocks, State.modeDelivered]
  rw [feu]
  simp [retargeted, targetOf_not_firing left, limitingFlag, left]

/-- The grant at the array has fallen to 0. -/
theorem State.modeDelivered_grant (held : GrantHeld s) : (s.modeDelivered m).sta.grant = 0 := by
  have before : GrantHeld (s.entering m) := by simpa [GrantHeld, State.entering] using held
  have after : GrantHeld (s.modeDelivered m) := (before.releaseHeldPlant.emissionMode _).retarget
  obtain ⟨-, grant, -⟩ := State.changeMode_feu_of_left (s := s) left
  obtain ⟨-, feu, -⟩ := State.changeMode_blocks m s
  rw [after, ← grant, feu]

theorem changeMode_feedStopped (held : GrantHeld s) : FeedStopped (s.changeMode m) := by
  obtain ⟨target, grant, limiting⟩ := State.changeMode_feu_of_left (s := s) left
  refine ⟨target, grant, limiting, ?_, ?_, ?_⟩
  · rw [State.changeMode_sta]
    exact State.modeDelivered_grant left held
  · exact (State.changeMode_deactivated (ch := .ramA) (by simp [allowed, isRam, left])).stopped
  · exact (State.changeMode_deactivated (ch := .ramB) (by simp [allowed, isRam, left])).stopped

theorem changeMode_grantDropped (held : GrantHeld s) : GrantDropped s.sta (s.changeMode m).sta := by
  rw [State.changeMode_sta]
  exact grantDropped_of (State.modeDelivered_copyHanded m s) (State.modeDelivered_grant left held)

end Left

/-- In a mode in which no channel runs every gate closes (R95, R96). -/
theorem changeMode_strokesStop {m : ModeCtl} {s : State} (idle : m.mode = .cold ∨ m.mode = .tripped) (held : GrantHeld s) :
    StrokesStop s (s.changeMode m) := by
  have left : m.mode ≠ .firing := by rcases idle with h | h <;> simp [h]
  refine ⟨changeMode_grantDropped left held, fun ch _ => State.changeMode_deactivated ?_⟩
  rcases idle with h | h <;> simp [allowed, h]

/-- At an entry into HOLD or BURNOUT the rams stop and the grate runs on (R87, R95, R109, R111). -/
theorem changeMode_feedEnds {m : ModeCtl} {s : State} (runs : m.mode = .hold ∨ m.mode = .burnout) (held : GrantHeld s) :
    FeedEnds s (s.changeMode m) := by
  have left : m.mode ≠ .firing := by rcases runs with h | h <;> simp [h]
  refine ⟨changeMode_grantDropped left held, fun ch ram => State.changeMode_deactivated ?_, fun pl plant ch _ grate => ?_⟩
  · have isARam : isRam ch = true := by
      simp only [List.mem_cons, List.not_mem_nil, or_false] at ram
      rcases ram with rfl | rfl <;> rfl
    simp [allowed, isARam, left]
  · have handed := State.modeDelivered_copyHanded m s
    rw [State.changeMode_sta, takeMode_channel, Option.mem_toList.1 plant]
    rw [Option.mem_toList.1 plant] at handed
    exact grateRunsOn_of_gate grate runs handed

/-- The held copy at a change of mode to BURNOUT or TRIPPED (R159). -/
theorem changeMode_heldCopyReleased {m : ModeCtl} {s : State} (out : m.mode = .burnout ∨ m.mode = .tripped) :
    HeldCopyReleased s (s.changeMode m) := by
  obtain ⟨-, feu, slg, pst⟩ := State.changeMode_blocks m s
  have released : HeldCopyReleased (s.entering m) (s.changeMode m) := by
    refine heldCopyReleased_of (by rw [slg]; simp) (by rw [pst]; simp) ?_ ?_ (by simpa using out)
    · rw [feu]
      simp [State.modeDelivered, retargeted]
    · rw [State.changeMode_eq, PortsGrow.setSta_iff]
      exact ((PortsGrow.refl _).emissionMode _).retarget
  simpa [HeldCopyReleased, PlantReachesLedger, ReallocatedFrom, State.entering] using released

end Sys2Proof.Machine
end

section
/-! CERTIFICATES. STOP and TRIP: the plant taken to BURNOUT and to TRIPPED from every mode that they leave. -/

namespace Sys2Proof.Machine

/-! ## From the state in which the reply stands to the state before the command -/

section Replied

variable {p : Port} {r : Reply} {s t : State}

theorem FeedEnds.of_replied (h : FeedEnds (s.replied p r) t) : FeedEnds s t := by
  simpa only [FeedEnds, State.replied_frame] using h

theorem StrokesStop.of_replied (h : StrokesStop (s.replied p r) t) : StrokesStop s t := by
  simpa only [StrokesStop, State.replied_frame] using h

theorem HeldCopyReleased.of_replied (h : HeldCopyReleased (s.replied p r) t) : HeldCopyReleased s t := by
  simpa only [HeldCopyReleased, PlantReachesLedger, ReallocatedFrom, State.replied_frame] using h

theorem GrantLaw.grantHeld (h : GrantLaw s) : GrantHeld s := by
  obtain ⟨-, -, -, -, held⟩ := h
  exact held

theorem GrantHeld.replied (h : GrantHeld s) (p : Port) (r : Reply) : GrantHeld (s.replied p r) := by
  simpa only [GrantHeld, State.replied_frame] using h

end Replied

/-! ## STOP (R29) -/

/-- STOP in WARMING, FIRING and HOLD: the change to BURNOUT, the reply in its slot. -/
theorem exec_stop_out {p : Port} {s : State} (ready : Ready p s) (runs : s.mode.mode = .warming ∨ s.mode.mode = .firing ∨ s.mode.mode = .hold) :
    exec (.stop p) s = .next ((s.replied p (.plain .ok)).goTo .burnout) := by
  have done : (s.beginTake p).doStop = ((s.beginTake p).goTo .burnout, .plain .ok) := by
    rcases runs with h | h | h <;> simp [State.doStop, State.plantMode, h]
  simpa using exec_ready rfl ready rfl done

/-- Settles O28: the change to BURNOUT with all that it brings, or the reply alone. -/
theorem stopEndsFeeding : Obligations.StopEndsFeeding := by
  unfold Obligations.StopEndsFeeding
  intro p s ready
  refine ⟨fun runs law => ?_, fun idle => ?_, fun tripped => ?_⟩
  · have held := law.grantHeld.replied p (.plain .ok)
    let m := enterMode .burnout s.mode
    refine ⟨(s.replied p (.plain .ok)).changeMode m, ?_, ?_, ?_, changeMode_feedStopped nofun held,
      (changeMode_feedEnds (.inr rfl) held).of_replied, State.changeMode_holds_mode _ _, ?_, ?_, ?_,
      (changeMode_heldCopyReleased (.inl rfl)).of_replied⟩
    · simpa [State.goTo] using exec_stop_out ready runs
    · rw [((PortsGrow.refl _).changeMode m).slot, State.replied_slot]
    · simp [m, enterMode, burnerFor]
    · simpa using State.changeMode_eau_of_left (m := m) (s := s.replied p (.plain .ok)) nofun
    · simp
    · simp
  · have done : (s.beginTake p).doStop = (s.beginTake p, .plain .ok) := by
      rcases idle with h | h <;> simp [State.doStop, State.plantMode, h]
    simpa using exec_ready rfl ready rfl done
  · have done : (s.beginTake p).doStop = (s.beginTake p, .plain .state) := by
      simp [State.doStop, State.plantMode, tripped, refuse]
    simpa using exec_ready rfl ready rfl done

/-! ## TRIP (R31, R33) -/

/-- An accepted TRIP. -/
theorem exec_trip_taken {p : Port} {cause : BitVec 8} {s : State} (ready : Ready p s) (code : cause ≠ 0#8) (running : s.clock.run = .running) :
    exec (.trip p cause) s = .next (((s.beginTake p).takeTrip p cause.toNat).answer p (.plain .ok)) := by
  have nonzero : cause.toNat ≠ 0 := fun zero => code (BitVec.eq_of_toNat_eq zero)
  have done : (s.beginTake p).doTrip p cause = ((s.beginTake p).takeTrip p cause.toNat, .plain .ok) := by
    simp [State.doTrip, nonzero, running]
  exact exec_ready rfl ready rfl done

/-- Settles O29: the checks, one more cause counted, or the change to TRIPPED with all that it brings. -/
theorem tripTakesThePlantDown : Obligations.TripTakesThePlantDown := by
  unfold Obligations.TripTakesThePlantDown
  intro p cause s ready
  refine ⟨fun zero => ?_, fun code stopped => ?_, fun r code running tripped trip => ?_, fun code running up law => ?_⟩
  · have done : (s.beginTake p).doTrip p cause = (s.beginTake p, .plain .range) := by simp [State.doTrip, zero, refuse]
    simpa using exec_ready rfl ready rfl done
  · have nonzero : cause.toNat ≠ 0 := fun zero => code (BitVec.eq_of_toNat_eq zero)
    have done : (s.beginTake p).doTrip p cause = (s.beginTake p, .plain .noTime) := by simp [State.doTrip, nonzero, stopped, refuse]
    simpa using exec_ready rfl ready rfl done
  · rw [exec_trip_taken ready code running]
    simp [State.takeTrip, State.plantMode, tripped, countTrip, trip, satAdd]
  · have held := law.grantHeld.replied p (.plain .ok)
    let m : ModeCtl := { enterMode .tripped s.mode with trip := some (newTrip (.byPort p cause.toNat) s.clock.latched.time) }
    have stops : StrokesStop s ((s.replied p (.plain .ok)).changeMode m) := (changeMode_strokesStop (.inr rfl) held).of_replied
    refine ⟨(s.replied p (.plain .ok)).changeMode m, ?_, ?_, ?_, changeMode_feedStopped nofun held,
      fun ch => (stops.2 ch (by cases ch <;> decide)).stopped, stops, State.changeMode_holds_mode _ _, ?_, ?_, ?_,
      (changeMode_heldCopyReleased (.inr rfl)).of_replied⟩
    · rw [exec_trip_taken ready code running]
      simp [State.takeTrip, State.plantMode, up, State.goTripped, m]
    · rw [((PortsGrow.refl _).changeMode m).slot, State.replied_slot]
    · simp [m, enterMode, burnerFor, newTrip]
    · simpa using State.changeMode_eau_of_left (m := m) (s := s.replied p (.plain .ok)) nofun
    · simp
    · simp

end Sys2Proof.Machine
end

section
/-! SUPPORT and CERTIFICATES. A change between two modes in which nothing is fed: with no copy to release it moves the controller, the gates and
the MODE notice alone; START and CLEAR_TRIP. -/

namespace Sys2Proof.Machine

/-! ## A change of mode with nothing fed -/

theorem PerStroke.ext_get {α : Type} {x y : PerStroke α} (h : ∀ ch, x.get ch = y.get ch) : x = y := by
  obtain ⟨a, b, c, d, e, f, g, i⟩ := x
  have ramA := h .ramA
  have ramB := h .ramB
  have grateA1 := h .grateA1
  have grateA2 := h .grateA2
  have grateA3 := h .grateA3
  have grateB1 := h .grateB1
  have grateB2 := h .grateB2
  have grateB3 := h .grateB3
  simp only [PerStroke.get] at ramA ramB grateA1 grateA2 grateA3 grateB1 grateB2 grateB3
  subst_vars
  rfl

theorem StrokeChannel.mem_all (ch : StrokeChannel) : ch ∈ StrokeChannel.all := by cases ch <;> decide

theorem StrokeChannel.mem_rams {ch : StrokeChannel} (ram : isRam ch = true) : ch ∈ [StrokeChannel.ramA, .ramB] := by
  revert ram
  cases ch <;> decide

/-- A channel that the old mode does not allow is OFF or JAMMED (R93). -/
theorem StrokeLaw.still {s : State} (law : StrokeLaw s) {ch : StrokeChannel} (closed : allowed s.mode.mode ch = false) :
    (s.sta.channels.get ch).state = .off ∨ (s.sta.channels.get ch).state = .jammed := by
  obtain ⟨still, -, -⟩ := law ch (StrokeChannel.mem_all ch)
  exact still (by simp [active, closed])

/-- A gate that closes on a channel at rest. -/
theorem gateChannel_of_still {mode : Mode} {pl : Option Plant} {a : StrokeArray} {ch : StrokeChannel} {r : StrokeRecord}
    (closed : allowed mode ch = false) (still : r.state = .off ∨ r.state = .jammed) : gateChannel mode pl a ch r = r := by
  rcases still with off | jammed
  · simp [gateChannel, off, active, closed]
  · simp [gateChannel, jammed]

theorem takeMode_of_still {mode : Mode} {pl : Option Plant} {a : StrokeArray} (closed : ∀ ch, allowed mode ch = false)
    (still : ∀ ch, (a.channels.get ch).state = .off ∨ (a.channels.get ch).state = .jammed) : takeMode mode pl a = a := by
  have same : a.channels.map (gateChannel mode pl a) = a.channels :=
    PerStroke.ext_get fun ch => by rw [PerStroke.get_map, gateChannel_of_still (closed ch) (still ch)]
  rw [takeMode, same]

theorem limitingFlag_not_firing {mode : Mode} (h : mode ≠ .firing) (e : Envelope) : limitingFlag mode e = false := by
  simp [limitingFlag, h]

section Idle

variable {m : ModeCtl} {s : State} (law : GrantLaw s) (old : s.mode.mode ≠ .firing) (new : m.mode ≠ .firing)
  (held : ¬ (m.mode = .burnout ∨ m.mode = .tripped) ∨ s.pst.heldPlant = none)
include law old new held

/-- The array takes the change with the other blocks as they were. -/
theorem State.modeDelivered_idle : s.modeDelivered m = s.entering m := by
  have kept : (s.entering m).releaseHeldPlant = s.entering m := by
    rcases held with out | none
    · exact State.releaseHeldPlant_kept (by simpa using out)
    · exact State.releaseHeldPlant_none (by simpa using none)
  have unit : (s.entering m).emissionMode s.mode.mode = s.entering m := by
    simp [State.emissionMode, old, State.plantMode, new]
  have lawful : GrantLaw (s.entering m) := by
    obtain ⟨request, target, limiting, grant, array⟩ := law
    rw [targetOf_not_firing old] at target
    refine ⟨by simpa using request, ?_, ?_, by simpa using grant, by simpa using array⟩
    · simp [targetOf_not_firing new, target]
    · simp [limiting, limitingFlag_not_firing old, limitingFlag_not_firing new]
  rw [State.modeDelivered, kept, unit, State.retarget_of_grantLaw lawful]

theorem State.changeMode_idle : s.changeMode m = (s.entering m).setSta (takeMode m.mode s.pst.workingPlant s.sta) := by
  rw [State.changeMode_eq, State.modeDelivered_idle law old new held]
  simp [State.plantMode, State.plant]

/-- A change between two modes in which no channel runs moves the controller alone. -/
theorem State.changeMode_of_still (strokes : StrokeLaw s) (closedOld : ∀ ch, allowed s.mode.mode ch = false)
    (closedNew : ∀ ch, allowed m.mode ch = false) : s.changeMode m = s.entering m := by
  rw [State.changeMode_idle law old new held, takeMode_of_still closedNew fun ch => strokes.still (closedOld ch)]
  rfl

end Idle

theorem allowed_of_closed {mode : Mode} (closed : mode = .cold ∨ mode = .warming ∨ mode = .tripped) (ch : StrokeChannel) :
    allowed mode ch = false := by
  rcases closed with h | h | h <;> simp [allowed, h]

/-! ## The laws on the state in which a reply stands -/

theorem GrantLaw.replied {s : State} (h : GrantLaw s) (p : Port) (r : Reply) : GrantLaw (s.replied p r) := by
  simpa only [GrantLaw, State.replied_frame] using h

theorem StrokeLaw.replied {s : State} (h : StrokeLaw s) (p : Port) (r : Reply) : StrokeLaw (s.replied p r) := by
  simpa only [StrokeLaw, State.replied_frame] using h

theorem State.goTo_replied (new : Mode) (p : Port) (r : Reply) (s : State) :
    (s.replied p r).goTo new = (s.replied p r).changeMode (enterMode new s.mode) := by simp [State.goTo]

/-- The controller's items at an entry into a mode that does not feed. -/
theorem enterMode_idle {new : Mode} (firing : new ≠ .firing) (hold : new ≠ .hold) (m : ModeCtl) :
    enterMode new m =
      { m with mode := new, burner := burnerFor new, timer := 0, causes := .none, feedArmed := false, trip := none } := by
  simp [enterMode, firing, hold]

/-! ## START (R25) -/

/-- Settles O26: the checks in their order, and the change from COLD to WARMING. -/
theorem startEntersWarming : Obligations.StartEntersWarming := by
  unfold Obligations.StartEntersWarming
  intro s
  refine ⟨fun p other ready => ?_, fun ready cold running limits plant law strokes => ?_, fun ready cold stopped => ?_,
    fun ready refused => ?_⟩
  · have done : (s.beginTake p).doStart p = (s.beginTake p, .plain .notOwner) := by simp [State.doStart, other, refuse]
    simpa using exec_ready rfl ready rfl done
  · have done : (s.beginTake .pf).doStart .pf = ((s.beginTake .pf).goTo .warming, .plain .ok) := by
      simp [State.doStart, State.plantMode, cold, running, State.limits, State.plant, Option.isSome_iff_ne_none.1 limits,
        Option.isSome_iff_ne_none.1 plant]
    have change := State.changeMode_of_still (m := enterMode .warming s.mode) (law.replied .pf (.plain .ok)) (by simp [cold]) nofun
      (.inl (by simp [enterMode])) (strokes.replied _ _) (allowed_of_closed (.inl (by simpa using cold)))
      (allowed_of_closed (.inr (.inl rfl)))
    rw [exec_ready rfl ready rfl done, State.answer_goTo, State.answer_beginTake, State.goTo_replied, change,
      enterMode_idle (new := .warming) nofun nofun]
    rfl
  · have done : (s.beginTake .pf).doStart .pf = (s.beginTake .pf, .plain .noTime) := by
      simp [State.doStart, State.plantMode, cold, stopped, refuse]
    simpa using exec_ready rfl ready rfl done
  · have done : (s.beginTake .pf).doStart .pf = (s.beginTake .pf, .plain .state) := by
      by_cases cold : s.mode.mode = .cold
      · obtain ⟨running, missing⟩ := refused.resolve_left (not_not.2 cold)
        simp [State.doStart, State.plantMode, cold, running, State.limits, State.plant, missing, refuse]
      · simp [State.doStart, State.plantMode, cold, refuse]
    simpa using exec_ready rfl ready rfl done

/-! ## CLEAR_TRIP (R34) -/

/-- The furnace is still warm: its parts. -/
theorem State.stillWarm_iff (s : State) : s.stillWarm = true ↔
    ∃ l v, s.pst.workingLimits = some l ∧ s.mode.temp = some v ∧ s.mode.tempAge < l.tempStale ∧ l.tcold ≤ v
      ∧ s.pst.workingPlant.isSome = true := by
  rcases limits : s.pst.workingLimits with _ | l
  · simp [State.stillWarm, State.limits, limits]
  rcases temp : s.mode.temp with _ | v
  · simp [State.stillWarm, State.limits, limits, tempFreshAtLeast, temp]
  · simp [State.stillWarm, State.limits, limits, tempFreshAtLeast, tempStale, temp, State.plant, and_assoc]

theorem grateJammed_eq_false {a : StrokeArray} : grateJammed a = false ↔ ∀ ch, isRam ch = false → (a.channels.get ch).state ≠ .jammed := by
  simp [grateJammed, StrokeChannel.mem_all]

/-- CLEAR_TRIP taken: out of TRIPPED, the reply in its slot. -/
theorem exec_clearTrip_taken {s : State} {new : Mode} (ready : Ready .pf s) (tripped : s.mode.mode = .tripped)
    (free : ∀ ch, isRam ch = false → (s.sta.channels.get ch).state ≠ .jammed)
    (warm : (if s.stillWarm then Mode.burnout else .cold) = new) :
    exec (.clearTrip .pf) s = .next ((s.replied .pf (.plain .ok)).goTo new) := by
  have same : (s.beginTake .pf).stillWarm = s.stillWarm := by simp [State.stillWarm, State.limits, State.plant]
  have done : (s.beginTake .pf).doClearTrip .pf = ((s.beginTake .pf).goTo new, .plain .ok) := by
    simp [State.doClearTrip, State.plantMode, tripped, grateJammed_eq_false.2 free, State.leaveTripped, same, warm]
  simpa using exec_ready rfl ready rfl done

/-- A channel that a closing gate finds at rest stays as it is. -/
theorem Deactivated.eq_of_still {r x : StrokeRecord} (h : Deactivated r x) (still : r.state = .off ∨ r.state = .jammed) : x = r := by
  unfold Deactivated at h
  rwa [if_pos still.symm] at h

/-- Settles O30: the checks, the change to BURNOUT with the grate started, or the change to COLD. -/
theorem clearTripLeavesTripped : Obligations.ClearTripLeavesTripped := by
  unfold Obligations.ClearTripLeavesTripped
  intro s ready
  refine ⟨fun refused => ?_, fun l v pl tripped free law strokes none limits temp fresh hot plant => ?_,
    fun tripped free law strokes notWarm => ?_⟩
  · have done : (s.beginTake .pf).doClearTrip .pf = (s.beginTake .pf, .plain .state) := by
      by_cases tripped : s.mode.mode = .tripped
      · have jammed : grateJammed s.sta = true := by
          obtain ⟨ch, grate, jammed⟩ := refused.resolve_left (not_not.2 tripped)
          exact not_not.1 fun h => grateJammed_eq_false.1 (Bool.eq_false_iff.2 h) ch grate jammed
        simp [State.doClearTrip, State.plantMode, tripped, jammed, refuse]
      · simp [State.doClearTrip, State.plantMode, tripped, refuse]
    simpa using exec_ready rfl ready rfl done
  · have warm : s.stillWarm = true := s.stillWarm_iff.2 ⟨l, v, limits, temp, fresh, hot, by simp [plant]⟩
    have held := law.grantHeld.replied .pf (.plain .ok)
    let m := enterMode .burnout s.mode
    have change := State.changeMode_idle (m := m) (law.replied .pf (.plain .ok)) (by simp [tripped]) nofun (.inr (by simpa using none))
    have pst : ((s.replied .pf (.plain .ok)).changeMode m).pst = s.pst := by rw [change]; simp
    have ends : FeedEnds s ((s.replied .pf (.plain .ok)).changeMode m) := (changeMode_feedEnds (.inr rfl) held).of_replied
    have ⟨_, rams, grates⟩ := ends
    refine ⟨(s.replied .pf (.plain .ok)).changeMode m, ?_, ?_, ends, ?_, fun ch grate on => ?_, fun ch ram => ?_,
      State.changeMode_holds_mode _ _, by simp, ?_, ?_, ?_, by simp, pst⟩
    · simpa [State.goTo] using exec_clearTrip_taken ready tripped free (if_pos warm)
    · rw [((PortsGrow.refl _).changeMode m).slot, State.replied_slot]
    · simp [m, enterMode, burnerFor]
    · have off : (s.sta.channels.get ch).state = .off :=
        (strokes.still (allowed_of_closed (.inr (.inr tripped)) ch)).resolve_right (free ch grate)
      obtain ⟨-, started, -⟩ := grates pl (by rw [pst, plant]; simp) ch (StrokeChannel.mem_all ch) grate
      rw [started on off]
      exact ⟨rfl, rfl⟩
    · have still := strokes.still (allowed_of_closed (.inr (.inr tripped)) ch)
      exact (rams ch (StrokeChannel.mem_rams ram)).eq_of_still still
    · rw [change]
      simp
    · rw [change]
      simp
    · rw [change]
      simp
  · have cool : s.stillWarm = false := by
      refine Bool.eq_false_iff.2 fun warm => ?_
      obtain ⟨l, v, limits, temp, fresh, hot, plant⟩ := s.stillWarm_iff.1 warm
      rcases notWarm with h | h | h | ⟨l', v', limits', temp', h⟩
      · simp [temp] at h
      · simp [limits] at h
      · simp [h] at plant
      · cases limits.symm.trans limits'
        cases temp.symm.trans temp'
        omega
    have change := State.changeMode_of_still (m := enterMode .cold s.mode) (law.replied .pf (.plain .ok)) (by simp [tripped]) nofun
      (.inl (by simp [enterMode])) (strokes.replied _ _) (allowed_of_closed (.inr (.inr (by simpa using tripped))))
      (allowed_of_closed (.inl rfl))
    rw [exec_clearTrip_taken ready tripped free (if_neg (Bool.eq_false_iff.1 cool)), State.goTo_replied, change,
      enterMode_idle (new := .cold) nofun nofun]
    rfl

end Sys2Proof.Machine
end

section
/-! SUPPORT. The change of mode into FIRING, and the firing entry check that leads to it (R26, R28, R48, R84, R87, R88, R95 to R97, R109). -/

namespace Sys2Proof.Machine

/-! ## CAP_LIMITING (R88) -/

/-- Where the limiting flag is set, CAP_LIMITING has been posted to PF and PD. -/
abbrev LimitingPosted (s : State) : Prop :=
  s.feu.limiting = true → s.holds .pf .capLimiting = true ∧ s.holds .pd .capLimiting = true

theorem LimitingPosted.retarget {s : State} (h : LimitingPosted s) : LimitingPosted s.retarget := by
  intro set
  cases clear : s.feu.limiting
  · rw [State.retarget_feu] at set
    have rises : ((retargeted s.plantMode s.feu).limiting && !s.feu.limiting) = true := by
      rw [clear]
      exact congrArg (· && true) set
    dsimp only [State.retarget]
    rw [rises]
    exact ⟨((PortsGrow.refl _).postIf _ _ _).holds (State.holds_post _ _ _), State.holds_post _ _ _⟩
  · obtain ⟨pf, pd⟩ := h clear
    exact ⟨(PortsGrow.refl s).retarget.holds pf, (PortsGrow.refl s).retarget.holds pd⟩

theorem LimitingPosted.beginStale {s : State} (h : LimitingPosted s) : LimitingPosted s.beginStale := by
  intro set
  have unposted : LimitingPosted (s.setEau { s.eau with staleInFiring := true }).recompute := LimitingPosted.retarget (s := State.setFeu _ _) h
  have grow (u : State) : PortsGrow u ((u.post .sampleStale .pg).post .sampleStale .pf) := ((PortsGrow.refl u).post _ _).post _ _
  obtain ⟨pf, pd⟩ := unposted (by simpa [State.beginStale] using set)
  exact ⟨(grow _).holds pf, (grow _).holds pd⟩

/-! ## The stale-in-FIRING condition (R48) -/

/-- SAMPLE_STALE goes to PF and PG where the condition begins. -/
theorem State.holds_beginStale (s : State) : s.beginStale.holds .pf .sampleStale = true ∧ s.beginStale.holds .pg .sampleStale = true := by
  dsimp only [State.beginStale]
  exact ⟨State.holds_post _ _ _, ((PortsGrow.refl _).post _ _).holds (State.holds_post _ _ _)⟩

/-- The envelope where the condition begins: formed again from the accounts. -/
theorem State.beginStale_feu (s : State) :
    s.beginStale.feu = retargeted s.mode.mode (recomputed s.pst.workingLimits { s.eau with staleInFiring := true } s.feu) := by
  simp [State.beginStale, State.limits]

/-- While the condition is on the computed cap is F (R48, R80). -/
theorem computedCapOf_stale {l : Limits} {e : Emission} (on : e.staleInFiring = true) : computedCapOf (some l) e = l.floor := by
  simp [computedCapOf, on]

/-- An entry into FIRING begins the condition where the samples are stale and it is not on. -/
theorem State.emissionMode_begins {s : State} {old : Mode} (left : old ≠ .firing) (firing : s.mode.mode = .firing)
    (stale : samplesStale s.pst.workingLimits s.eau.sampleAge = true) (off : s.eau.staleInFiring = false) :
    s.emissionMode old = s.beginStale := by
  simp [State.emissionMode, left, State.plantMode, firing, State.limits, stale, off]

theorem State.emissionMode_same {s : State} {old : Mode} (left : old ≠ .firing)
    (fresh : samplesStale s.pst.workingLimits s.eau.sampleAge = false ∨ s.eau.staleInFiring = true) : s.emissionMode old = s := by
  rcases fresh with h | h <;> simp [State.emissionMode, left, State.limits, h]

/-- Either the condition begins at an entry into FIRING, or it does not. -/
theorem State.begins_or_not (s : State) :
    (samplesStale s.pst.workingLimits s.eau.sampleAge = true ∧ s.eau.staleInFiring = false)
      ∨ (samplesStale s.pst.workingLimits s.eau.sampleAge = false ∨ s.eau.staleInFiring = true) := by
  cases samplesStale s.pst.workingLimits s.eau.sampleAge <;> cases s.eau.staleInFiring <;> simp

/-! ## The blocks at the entry into FIRING -/

section Enters

variable {m : ModeCtl} {s : State} (law : GrantLaw s) (left : s.mode.mode ≠ .firing) (firing : m.mode = .firing)

include firing in
theorem State.entering_released : (s.entering m).releaseHeldPlant = s.entering m :=
  State.releaseHeldPlant_kept (by simp [firing])

include law in
theorem entering_grant (left : s.mode.mode ≠ .firing) : (s.entering m).feu.grant = 0 := by
  obtain ⟨grant, -⟩ := grant_zero law left
  simpa using grant

include firing in
/-- The ledger, the store, the clock and the meters stay. -/
theorem State.changeMode_firing_frame : (s.changeMode m).slg = s.slg ∧ (s.changeMode m).pst = s.pst := by
  obtain ⟨-, -, slg, pst⟩ := State.changeMode_blocks m s
  rw [slg, pst]
  simp [State.entering_released firing]

include left firing in
/-- The unit as the change leaves it: the condition on where the samples are stale (R48). -/
theorem State.changeMode_firing_eau : (s.changeMode m).eau =
    { s.eau with staleInFiring := s.eau.staleInFiring || samplesStale s.pst.workingLimits s.eau.sampleAge } := by
  obtain ⟨eau, -⟩ := State.changeMode_blocks m s
  rw [eau, State.modeDelivered, State.entering_released firing]
  simp only [State.retarget_frame]
  rcases s.begins_or_not with ⟨stale, off⟩ | fresh
  · rw [State.emissionMode_begins left (by simpa using firing) (by simpa using stale) (by simpa using off)]
    simp [off, stale]
  · have same : (s.entering m).emissionMode s.mode.mode = s.entering m := State.emissionMode_same left (by simpa using fresh)
    have kept : (s.eau.staleInFiring || samplesStale s.pst.workingLimits s.eau.sampleAge) = s.eau.staleInFiring := by
      rcases fresh with h | h <;> simp [h]
    rw [same, kept]
    simp

include left firing in
/-- The envelope where the condition does not begin: its terms alone formed again. -/
theorem State.changeMode_firing_feu_same (fresh : samplesStale s.pst.workingLimits s.eau.sampleAge = false ∨ s.eau.staleInFiring = true) :
    (s.changeMode m).feu = retargeted .firing s.feu := by
  obtain ⟨-, feu, -⟩ := State.changeMode_blocks m s
  have same : (s.entering m).emissionMode s.mode.mode = s.entering m := State.emissionMode_same left (by simpa using fresh)
  rw [feu, State.modeDelivered, State.entering_released firing, same]
  simp [firing]

include left firing in
/-- The envelope where it begins: formed again from the accounts, under the computed cap F (R48). -/
theorem State.changeMode_firing_feu_stale (stale : samplesStale s.pst.workingLimits s.eau.sampleAge = true)
    (off : s.eau.staleInFiring = false) :
    (s.changeMode m).feu =
      retargeted .firing (retargeted .firing (recomputed s.pst.workingLimits { s.eau with staleInFiring := true } s.feu)) := by
  obtain ⟨-, feu, -⟩ := State.changeMode_blocks m s
  rw [feu, State.modeDelivered, State.entering_released firing,
    State.emissionMode_begins left (by simpa using firing) (by simpa using stale) (by simpa using off)]
  simp [State.beginStale_feu, firing]

include law left firing in
/-- The array takes the change with the grant 0 that it holds. -/
theorem State.modeDelivered_firing_sta : (s.modeDelivered m).sta = s.sta := by
  have zero : (s.entering m).feu.grant = 0 := entering_grant law left
  have still (u : State) (h : u.feu.grant = 0) : u.retarget.sta = u.sta ∧ u.retarget.feu.grant = 0 := by
    rw [State.retarget_sta, State.retarget_feu]
    simp [h, retargeted]
  have unit : ((s.entering m).emissionMode s.mode.mode).sta = s.sta ∧ ((s.entering m).emissionMode s.mode.mode).feu.grant = 0 := by
    rcases s.begins_or_not with ⟨stale, off⟩ | fresh
    · rw [State.emissionMode_begins left (by simpa using firing) (by simpa using stale) (by simpa using off)]
      have begun := still (((s.entering m).setEau { s.eau with staleInFiring := true }).setFeu
        (recomputed s.pst.workingLimits { s.eau with staleInFiring := true } (s.entering m).feu)) zero
      simpa [State.beginStale, State.recompute, State.limits] using begun
    · rw [State.emissionMode_same left (by simpa using fresh)]
      exact ⟨by simp, zero⟩
  obtain ⟨sta, grant⟩ := unit
  obtain ⟨same, -⟩ := still _ grant
  rw [State.modeDelivered, State.entering_released firing, same, sta]

include law left firing in
theorem State.changeMode_firing_sta : (s.changeMode m).sta = takeMode .firing s.pst.workingPlant s.sta := by
  obtain ⟨-, pst⟩ := State.changeMode_firing_frame (s := s) firing
  rw [State.changeMode_sta, State.modeDelivered_firing_sta law left firing, pst, firing]

include law left firing in
/-- The target and the flag of the terms as they stand, the grant 0 (R84, R87, R88). -/
theorem changeMode_firing_target :
    (s.changeMode m).feu.request = s.feu.request ∧ (s.changeMode m).feu.boilerLimit = s.feu.boilerLimit
      ∧ (s.changeMode m).feu.target = min (min s.feu.request (s.changeMode m).feu.effectiveCap) s.feu.boilerLimit
      ∧ (s.changeMode m).feu.grant = 0
      ∧ (s.changeMode m).feu.limiting =
          decide ((s.changeMode m).feu.effectiveCap < s.feu.request ∧ (s.changeMode m).feu.effectiveCap < s.feu.boilerLimit) := by
  obtain ⟨zero, -⟩ := grant_zero law left
  rcases s.begins_or_not with ⟨stale, off⟩ | fresh
  · rw [State.changeMode_firing_feu_stale left firing stale off]
    simp [retargeted, recomputed, targetOf, limitingFlag, zero]
  · rw [State.changeMode_firing_feu_same left firing fresh]
    simp [retargeted, targetOf, limitingFlag, zero]

include law left firing in
theorem changeMode_firing_limitingPosted : LimitingPosted (s.changeMode m) := by
  have before : LimitingPosted (s.entering m) := by
    obtain ⟨-, -, limiting, -⟩ := law
    rw [limitingFlag_not_firing left] at limiting
    intro set
    simp [limiting] at set
  have unit : LimitingPosted ((s.entering m).emissionMode s.mode.mode) := by
    unfold State.emissionMode
    rw [if_neg (by simp [left])]
    split
    · exact before.beginStale
    · exact before
  have after := unit.retarget
  rw [← State.entering_released (s := s) firing] at after
  exact after

end Enters

/-! ## The channels at the entry into FIRING -/

/-- In FIRING every enabled channel runs (R95). -/
@[simp] theorem active_firing (ch : StrokeChannel) (r : StrokeRecord) : active .firing ch r = r.enabled := by simp [active, allowed]

/-- An AUTO ram below the cutoff waits (R97). -/
theorem mustWait_iff (a : StrokeArray) (ch : StrokeChannel) (r : StrokeRecord) :
    mustWait a ch r = true ↔ isRam ch = true ∧ r.source = .auto ∧ laneGrant a ch < 50 := by
  simp only [mustWait, Bool.and_eq_true, beq_iff_eq, decide_eq_true_eq, and_assoc]
  exact Iff.rfl

/-- A channel that need not wait has a period under a PLANT copy (R107, R108). -/
theorem computedPeriod_isSome {mode : Mode} {pl : Plant} {a : StrokeArray} {ch : StrokeChannel} {r : StrokeRecord}
    (runs : mustWait a ch r = false) : (computedPeriod mode (some pl) a ch r).isSome = true := by
  have free : ¬ (isRam ch = true ∧ r.source = .auto ∧ laneGrant a ch < 50) := by
    rw [← mustWait_iff, runs]
    exact nofun
  cases source : r.source with
  | fixed => simp [computedPeriod, source]
  | auto =>
    cases ram : isRam ch with
    | false => simp [computedPeriod, source, ram]
    | true =>
      have high : ¬ laneGrant a ch < 50 := fun low => free ⟨ram, source, low⟩
      simp [computedPeriod, source, ram, cutoff, high]

/-- A channel that becomes active (R97): in WAIT with its period and limit as they were, or at the start of its cycle under its computed
period and the stroke limit of the copy. -/
theorem activate_started (mode : Mode) (pl : Option Plant) (a : StrokeArray) (ch : StrokeChannel) (r : StrokeRecord) :
    let x := activate mode pl a ch r
    x = { r with state := x.state, counter := 0, preload := none, period := x.period, limit := x.limit }
      ∧ x.state = (if isRam ch = true ∧ r.source = .auto ∧ laneGrant a ch < 50 then .wait else .dwell)
      ∧ (x.state = .wait → x.period = r.period ∧ x.limit = r.limit)
      ∧ ∀ copy ∈ pl.toList, x.state = .dwell → x.limit = (timingOf copy ch).ls ∧ computedPeriod mode pl a ch r = some x.period := by
  by_cases wait : mustWait a ch r = true
  · have starts : activate mode pl a ch r = { r with state := .wait, counter := 0, preload := none } := by simp [activate, wait]
    rw [starts, if_pos ((mustWait_iff a ch r).1 wait)]
    exact ⟨rfl, rfl, fun _ => ⟨rfl, rfl⟩, fun _ _ dwell => by cases dwell⟩
  · have starts : activate mode pl a ch r = enterDwell mode pl a ch r := by simp [activate, wait]
    rw [starts, if_neg (mt (mustWait_iff a ch r).2 wait)]
    refine ⟨rfl, rfl, nofun, fun copy held _ => ?_⟩
    rw [Option.mem_toList.1 held]
    obtain ⟨period, some⟩ := Option.isSome_iff_exists.1 (computedPeriod_isSome (mode := mode) (pl := copy) (Bool.eq_false_iff.2 wait))
    simp [enterDwell, some, currentLimit]

/-- A channel in DWELL or STROKE with its preload written, where it has a period (R109). -/
theorem writePreload_cycling {mode : Mode} {pl : Option Plant} {a : StrokeArray} {ch : StrokeChannel} {r : StrokeRecord}
    (cycles : cycling r = true) :
    writePreload mode pl a ch r = { r with preload := (computedPeriod mode pl a ch r).or r.preload } := by
  cases period : computedPeriod mode pl a ch r <;> simp [writePreload, cycles, period]

/-- The gate of a channel at the entry into FIRING, from a mode whose law it meets (R95 to R97, R103, R109). -/
theorem channelFired_of {u t : State} {ch : StrokeChannel} (left : u.mode.mode ≠ .firing)
    (law : ChannelLaw u.mode.mode ch (u.sta.channels.get ch))
    (fired : t.sta.channels.get ch = gateChannel .firing u.pst.workingPlant u.sta ch (u.sta.channels.get ch)) : ChannelFired u t ch := by
  obtain ⟨inactive, -, waits⟩ := law
  unfold ChannelFired
  rw [fired]
  generalize u.sta.channels.get ch = r at inactive waits ⊢
  dsimp only
  split
  · next still =>
    rcases still with jammed | disabled
    · simp [gateChannel, jammed]
    · rcases inactive (by simp [active, disabled]) with off | jammed
      · simp [gateChannel, off, disabled]
      · simp [gateChannel, jammed]
  next runs =>
  obtain ⟨notJammed, disabled⟩ := not_or.1 runs
  have on : r.enabled = true := by simpa using disabled
  split
  · next off =>
    have starts : gateChannel .firing u.pst.workingPlant u.sta ch r = activate .firing u.pst.workingPlant u.sta ch r := by
      simp [gateChannel, off, on]
    rw [starts]
    exact activate_started _ _ _ _ _
  · next notOff =>
    have grate : isRam ch = false := Bool.eq_false_iff.2 fun ram => by
      rcases inactive (by simp [active, allowed, ram, left]) with h | h
      · exact notOff h
      · exact notJammed h
    have cycles : cycling r = true := by
      rcases state : r.state with _ | _ | _ | _ | _
      · exact absurd state notOff
      · exact absurd (waits state) (by simp [grate])
      · simp [cycling, state]
      · simp [cycling, state]
      · exact absurd state notJammed
    by_cases auto : r.source = .auto
    · have runs : gateChannel .firing u.pst.workingPlant u.sta ch r = writePreload .firing u.pst.workingPlant u.sta ch r := by
        simp [gateChannel, notJammed, notOff, on, grate, auto]
      rw [runs, writePreload_cycling cycles, if_pos auto]
    · have runs : gateChannel .firing u.pst.workingPlant u.sta ch r = r := by simp [gateChannel, notJammed, notOff, on, auto]
      rw [runs, if_neg auto]

/-! ## The whole change -/

theorem samplesStale_eq {s : State} {l : Limits} (limits : s.pst.workingLimits = some l) :
    samplesStale s.pst.workingLimits s.eau.sampleAge = decide (l.sampleStale ≤ s.eau.sampleAge) := by
  rw [limits]
  rfl

/-- With stale samples the envelope is formed again under the condition, and SAMPLE_STALE goes to PF and PG (R48). -/
theorem entersFiring_stale {u : State} {l : Limits} (law : GrantLaw u) (left : u.mode.mode ≠ .firing)
    (limits : u.pst.workingLimits = some l) (stale : samplesStale u.pst.workingLimits u.eau.sampleAge = true)
    (off : u.eau.staleInFiring = false) :
    FormedLaw (u.goTo .firing) ∧ (u.goTo .firing).feu.computedCap = l.floor
      ∧ (u.goTo .firing).feu.effectiveCap = min u.feu.effectiveCap l.floor ∧ (u.goTo .firing).feu.request = u.feu.request
      ∧ (u.goTo .firing).feu.boilerLimit = u.feu.boilerLimit ∧ (u.goTo .firing).holds .pf .sampleStale = true
      ∧ (u.goTo .firing).holds .pg .sampleStale = true := by
  let m := enterMode .firing u.mode
  have feu : (u.goTo .firing).feu = retargeted .firing
      (retargeted .firing (recomputed u.pst.workingLimits { u.eau with staleInFiring := true } u.feu)) :=
    State.changeMode_firing_feu_stale (m := m) left rfl stale off
  have eau : (u.goTo .firing).eau = { u.eau with staleInFiring := true } := by
    rw [State.goTo, State.changeMode_firing_eau left rfl, stale, Bool.or_true]
  have pst : (u.goTo .firing).pst = u.pst := (State.changeMode_firing_frame (m := m) rfl).2
  have cap : computedCapOf u.pst.workingLimits { u.eau with staleInFiring := true } = l.floor := by
    rw [limits]
    exact computedCapOf_stale rfl
  obtain ⟨request, boiler, -⟩ := changeMode_firing_target (m := m) law left rfl
  have begun : PortsGrow (u.entering m).beginStale (u.goTo .firing) := by
    have unit := State.emissionMode_begins (s := u.entering m) (old := u.mode.mode) left (by simp [m, enterMode]) (by simpa using stale)
      (by simpa using off)
    rw [State.goTo, State.changeMode_eq, PortsGrow.setSta_iff, State.modeDelivered, State.entering_released rfl, unit]
    exact (PortsGrow.refl _).retarget
  obtain ⟨pf, pg⟩ := State.holds_beginStale (u.entering m)
  refine ⟨?_, ?_, ?_, request, boiler, begun.holds pf, begun.holds pg⟩
  · rw [FormedLaw, feu, eau, pst]
    exact ⟨rfl, rfl, rfl, rfl⟩
  · rw [feu]
    exact cap
  · rw [feu, ← cap]
    rfl

/-- The entry into FIRING from WARMING or HOLD, and from any state in which nothing is fed. -/
theorem entersFiring_of {u : State} {l : Limits} (law : GrantLaw u) (strokes : StrokeLaw u) (left : u.mode.mode ≠ .firing)
    (limits : u.pst.workingLimits = some l) : EntersFiring l u (u.goTo .firing) := by
  let m := enterMode .firing u.mode
  have stale := samplesStale_eq limits
  obtain ⟨request, boiler, target, grant, limiting⟩ := changeMode_firing_target (m := m) law left rfl
  obtain ⟨slg, pst⟩ := State.changeMode_firing_frame (m := m) (s := u) rfl
  have sta : (u.changeMode m).sta = takeMode .firing u.pst.workingPlant u.sta := State.changeMode_firing_sta law left rfl
  refine ⟨?_, ?_, fun fresh => ?_, fun old off => ?_, target, grant, limiting, changeMode_firing_limitingPosted law left rfl, ?_,
    fun ch mem => channelFired_of left (strokes ch mem) ?_, fun p _ => State.changeMode_holds_mode m u p, fun p _ => ?_, by simp, slg,
    by simp, pst⟩
  · simp [State.goTo, enterMode, burnerFor]
  · rw [State.goTo, State.changeMode_firing_eau left rfl, stale]
  · have same : samplesStale u.pst.workingLimits u.eau.sampleAge = false ∨ u.eau.staleInFiring = true := by
      rw [stale]
      simpa using fresh
    obtain ⟨zero, -⟩ := grant_zero law left
    rw [State.goTo, State.changeMode_firing_feu_same left rfl same]
    simp [retargeted, zero]
  · have begins : samplesStale u.pst.workingLimits u.eau.sampleAge = true := by simpa [stale] using old
    exact entersFiring_stale law left limits begins off
  · rw [State.goTo, sta]
    rfl
  · rw [State.goTo, sta, takeMode_channel]
  · exact ((PortsGrow.refl u).goTo .firing p).1

/-! ## The firing entry check (R26, R28) -/

/-- The check as the controller runs it, and as it is stated. -/
theorem entryMet_iff (lim : Option Limits) (m : ModeCtl) : EntryMet lim m ↔
    (m.mode = .warming ∧ interlockMet lim m = true) ∨ (m.mode = .hold ∧ holdOver lim m = true) := by
  rcases lim with _ | l
  · simp [EntryMet, interlockMet, holdOver, qualified]
  · simp only [EntryMet, interlockMet, holdOver, qualified, Option.toList_some, List.mem_singleton, exists_eq_left, Bool.and_eq_true,
      beq_iff_eq, decide_eq_true_eq, HoldCauses.isEmpty_iff]
    tauto

theorem State.entryCheck_met {u : State} (met : EntryMet u.pst.workingLimits u.mode) : u.entryCheck = u.goTo .firing := by
  rw [entryMet_iff] at met
  rw [State.entryCheck, State.entryCheckWith, if_pos]
  exact met

theorem State.entryCheck_unmet {u : State} (unmet : ¬ EntryMet u.pst.workingLimits u.mode) : u.entryCheck = u := by
  rw [entryMet_iff] at unmet
  rw [State.entryCheck, State.entryCheckWith, if_neg]
  exact unmet

/-- Outside WARMING and HOLD the check is never met. -/
theorem EntryMet.mode {lim : Option Limits} {m : ModeCtl} (met : EntryMet lim m) : m.mode = .warming ∨ m.mode = .hold := by
  obtain ⟨l, -, -, ⟨warming, -⟩ | ⟨hold, -⟩⟩ := met
  · exact .inl warming
  · exact .inr hold

/-- The check leaves what is stated of it. -/
theorem entryCheck_entryChecked {u : State} (law : GrantLaw u) (strokes : StrokeLaw u) : EntryChecked u u.entryCheck := by
  refine ⟨State.entryCheck_unmet, fun l limits met => ?_⟩
  rw [State.entryCheck_met met]
  exact entersFiring_of law strokes (by rcases met.mode with h | h <;> simp [h]) (Option.mem_toList.1 limits)

end Sys2Proof.Machine
end

section
/-! SUPPORT and CERTIFICATE. SET_CLEANING: a condition of the interlock that arises or clears at the mode controller, and the entry check after it
(R24, R26 to R28, R50). -/

namespace Sys2Proof.Machine

/-! ## A condition that arises or clears, in one equation (R24, R28) -/

/-- Outside FIRING a condition that arises joins the causes of a held plant and does nothing else. -/
theorem State.holdArises_of_not_firing {s : State} (left : s.mode.mode ≠ .firing) (alone : HoldCauses) (add : HoldCauses → HoldCauses) :
    s.holdArises alone add =
      s.setMode { s.mode with causes := if s.mode.mode = .hold then add s.mode.causes else s.mode.causes } := by
  by_cases hold : s.mode.mode = .hold
  · rw [State.holdArises_hold hold, if_pos hold]
  · rw [State.holdArises_idle left hold, if_neg hold]
    rfl

/-- A condition that clears leaves the causes of a held plant. -/
theorem State.holdClears_eq (remove : HoldCauses → HoldCauses) (s : State) :
    s.holdClears remove = s.setMode { s.mode with causes := if s.mode.mode = .hold then remove s.mode.causes else s.mode.causes } := by
  by_cases hold : s.mode.mode = .hold
  · rw [State.holdClears_hold hold, if_pos hold]
  · rw [State.holdClears_idle hold, if_neg hold]
    rfl

/-- A plant just held is not fired again at the same event: its cause stands. -/
theorem State.entryCheck_goHold {c : HoldCauses} (cause : c ≠ .none) (s : State) : (s.goHold c).entryCheck = s.goHold c := by
  refine State.entryCheck_unmet fun met => ?_
  obtain ⟨l, -, -, met⟩ := met
  rw [State.goHold, State.changeMode_mode] at met
  rcases met with ⟨warming, -⟩ | ⟨-, none⟩
  · cases warming
  · exact cause none

/-- A loss of cleaning outside FIRING (R24). -/
theorem State.takeCleaning_lost {s : State} (left : s.mode.mode ≠ .firing) :
    s.takeCleaning .unavailable = s.setMode { s.mode with
      cleaning := .unavailable
      causes := if s.mode.mode = .hold then { s.mode.causes with cleaning := true } else s.mode.causes } := by
  dsimp only [State.takeCleaning]
  rw [State.holdArises_of_not_firing (by simpa using left)]
  refine State.entryCheck_unmet fun met => ?_
  obtain ⟨l, -, -, met⟩ := met
  rcases met with ⟨-, -, available, -⟩ | ⟨hold, none⟩
  · cases available
  · replace hold : s.mode.mode = .hold := hold
    simp [hold, HoldCauses.none] at none

/-- A loss of cleaning in FIRING (R27). -/
theorem State.takeCleaning_held {s : State} (firing : s.mode.mode = .firing) :
    s.takeCleaning .unavailable = (s.setMode { s.mode with cleaning := .unavailable }).goHold onlyCleaning := by
  dsimp only [State.takeCleaning]
  rw [State.holdArises_firing (by simpa using firing), State.entryCheck_goHold (by decide)]

/-- A return of cleaning (R24, R28). -/
theorem State.takeCleaning_returned (s : State) :
    s.takeCleaning .available = (s.setMode { s.mode with
      cleaning := .available
      causes := if s.mode.mode = .hold then { s.mode.causes with cleaning := false } else s.mode.causes }).entryCheck := by
  dsimp only [State.takeCleaning]
  rw [State.holdClears_eq]
  rfl

/-! ## The entry into HOLD (R27) -/

/-- The controller's items at an entry into HOLD from FIRING: the feed stays armed. -/
theorem enterMode_hold (m : ModeCtl) (c : HoldCauses) :
    { enterMode .hold m with causes := c } = { m with mode := .hold, burner := true, timer := 0, causes := c, trip := none } := by
  simp [enterMode, burnerFor]

/-- A plant that fires is held: the feed stopped, the grate running on, nothing released. -/
theorem goHold_effect {s : State} (c : HoldCauses) (held : GrantHeld s) (firing : s.mode.mode = .firing) :
    (s.goHold c).mode = { s.mode with mode := .hold, burner := true, timer := 0, causes := c, trip := none }
      ∧ FeedStopped (s.goHold c) ∧ FeedEnds s (s.goHold c) ∧ (∀ q, (s.goHold c).holds q .mode = true)
      ∧ (s.goHold c).eau = { s.eau with staleInFiring := false }
      ∧ (s.goHold c).clock = s.clock ∧ (s.goHold c).slg = s.slg ∧ (s.goHold c).fmu = s.fmu ∧ (s.goHold c).pst = s.pst := by
  obtain ⟨-, -, -, slg, pst⟩ := State.goHold_kept c s
  let m : ModeCtl := { enterMode .hold s.mode with causes := c }
  refine ⟨?_, changeMode_feedStopped (m := m) nofun held, changeMode_feedEnds (m := m) (.inl rfl) held,
    State.changeMode_holds_mode m s, ?_, by simp, slg, by simp, pst⟩
  · rw [State.goHold, State.changeMode_mode, enterMode_hold]
  · rw [State.goHold, State.changeMode_eau_of_left (m := m) nofun, firing]
    simp

/-! ## The entry into FIRING, whatever the channels are -/

/-- A plant in which nothing is fed fires: the target formed, the grant 0, the gates moved. -/
theorem goTo_firing_effect {s : State} (law : GrantLaw s) (left : s.mode.mode ≠ .firing) :
    (s.goTo .firing).mode = { s.mode with mode := .firing, burner := false, timer := 0, causes := .none, trip := none }
      ∧ (s.goTo .firing).eau = { s.eau with staleInFiring := (s.goTo .firing).eau.staleInFiring }
      ∧ (s.goTo .firing).sta = takeMode .firing s.pst.workingPlant s.sta
      ∧ (s.goTo .firing).feu.target = min (min s.feu.request (s.goTo .firing).feu.effectiveCap) s.feu.boilerLimit
      ∧ (s.goTo .firing).feu.grant = 0 ∧ (∀ q, (s.goTo .firing).holds q .mode = true) ∧ (s.goTo .firing).clock = s.clock
      ∧ (s.goTo .firing).slg = s.slg ∧ (s.goTo .firing).fmu = s.fmu ∧ (s.goTo .firing).pst = s.pst := by
  let m := enterMode .firing s.mode
  obtain ⟨-, -, target, grant, -⟩ := changeMode_firing_target (m := m) law left rfl
  obtain ⟨slg, pst⟩ := State.changeMode_firing_frame (m := m) (s := s) rfl
  refine ⟨?_, ?_, State.changeMode_firing_sta (m := m) law left rfl, target, grant, State.changeMode_holds_mode m s, by simp, slg, by simp,
    pst⟩
  · simp [State.goTo, enterMode, burnerFor]
  · rw [State.goTo, State.changeMode_firing_eau left rfl]

/-! ## SET_CLEANING (R50) -/

theorem Availability.ofCode_none {b : Byte} (high : 2 ≤ b.toNat) : Availability.ofCode b = none := by
  unfold Availability.ofCode
  split
  · omega
  · omega
  · rfl

/-- A change accepted: the unit takes it and hands it on, the reply in its slot. -/
theorem exec_setCleaning_change {code : BitVec 8} {a : Availability} {s : State} (ready : Ready .pg s)
    (known : Availability.ofCode code = some a) (change : a ≠ s.eau.cleaning) :
    exec (.setCleaning .pg code) s
      = .next (((s.replied .pg (.plain .ok)).setEau { s.eau with cleaning := a }).takeCleaning a) := by
  have done : (s.beginTake .pg).doSetCleaning .pg code
      = (((s.beginTake .pg).setEau { s.eau with cleaning := a }).takeCleaning a, .plain .ok) := by
    simp [State.doSetCleaning, known, change]
  simpa using exec_ready rfl ready rfl done

/-- Settles O37: a loss of cleaning and its return, mode by mode. -/
theorem setCleaningMovesTheInterlock : Obligations.SetCleaningMovesTheInterlock := by
  unfold Obligations.SetCleaningMovesTheInterlock
  intro code s ready
  refine ⟨fun high => ?_, fun a known => ⟨fun same => ?_, fun change idle => ?_, fun change warming barred => ?_,
    fun change lost hold => ?_, fun change back hold other => ?_, fun change lost firing law => ?_,
    fun l change back hold limits dwell low stale feed law => ?_, fun change back law strokes => ?_⟩⟩
  · have done : (s.beginTake .pg).doSetCleaning .pg code = (s.beginTake .pg, .plain .range) := by
      simp [State.doSetCleaning, Availability.ofCode_none high, refuse]
    simpa using exec_ready rfl ready rfl done
  · have done : (s.beginTake .pg).doSetCleaning .pg code = (s.beginTake .pg, .plain .ok) := by
      simp [State.doSetCleaning, known, same]
    simpa using exec_ready rfl ready rfl done
  · have left : s.mode.mode ≠ .firing := by rcases idle with h | h | h <;> simp [h]
    have hold : s.mode.mode ≠ .hold := by rcases idle with h | h | h <;> simp [h]
    have warming : s.mode.mode ≠ .warming := by rcases idle with h | h | h <;> simp [h]
    rw [exec_setCleaning_change ready known change]
    cases a with
    | unavailable =>
      rw [State.takeCleaning_lost (by simpa using left)]
      simp [hold]
    | available =>
      rw [State.takeCleaning_returned, State.entryCheck_unmet fun met => met.mode.elim (by simpa using warming) (by simpa using hold)]
      simp [hold]
  · rw [exec_setCleaning_change ready known change]
    cases a with
    | unavailable =>
      rw [State.takeCleaning_lost (by simp [warming])]
      simp [warming]
    | available =>
      have disarmed : s.mode.feedArmed = false := barred.resolve_left nofun
      rw [State.takeCleaning_returned, State.entryCheck_unmet]
      · simp [warming]
      · simp [EntryMet, warming, disarmed]
  · subst lost
    rw [exec_setCleaning_change ready known change, State.takeCleaning_lost (by simp [hold])]
    simp [hold]
  · subst back
    rw [exec_setCleaning_change ready known change, State.takeCleaning_returned, State.entryCheck_unmet]
    · simp [hold]
    · rcases other with h | h | h <;> simp [EntryMet, hold, HoldCauses.none, h]
  · subst lost
    let u := ((s.replied .pg (.plain .ok)).setEau { s.eau with cleaning := .unavailable }).setMode { s.mode with cleaning := .unavailable }
    have held : GrantHeld u := law.grantHeld
    obtain ⟨mode, stopped, ends, notices, eau, clock, slg, fmu, pst⟩ := goHold_effect (s := u) onlyCleaning held firing
    refine ⟨u.goHold onlyCleaning, ?_, ?_, mode, stopped, ends, notices, eau, clock, slg, fmu, pst⟩
    · rw [exec_setCleaning_change ready known change, State.takeCleaning_held (by simpa using firing)]
      simp [u]
    · rw [((PortsGrow.refl u).goHold _).slot]
      exact State.replied_slot .pg (.plain .ok) s
  · subst back
    let u := ((s.replied .pg (.plain .ok)).setEau { s.eau with cleaning := .available }).setMode { s.mode with
      cleaning := .available, causes := { s.mode.causes with cleaning := false } }
    have lawful : GrantLaw u := by simpa [GrantLaw, u] using law
    have met : EntryMet u.pst.workingLimits u.mode :=
      ⟨l, by simp [u, limits], dwell, .inr ⟨hold, by simp [u, HoldCauses.none, low, stale, feed]⟩⟩
    obtain ⟨mode, eau, -, target, grant, notices, clock, slg, fmu, pst⟩ := goTo_firing_effect lawful (by simp [u, hold])
    refine ⟨u.goTo .firing, ?_, ?_, mode, target, grant, eau, notices, clock, slg, fmu, pst⟩
    · rw [exec_setCleaning_change ready known change, State.takeCleaning_returned, ← State.entryCheck_met met]
      simp [u, hold]
    · rw [((PortsGrow.refl u).goTo _).slot]
      exact State.replied_slot .pg (.plain .ok) s
  · subst back
    refine ⟨_, exec_setCleaning_change ready known change, ?_⟩
    rw [State.takeCleaning_returned]
    simp only [State.setEau_mode, State.replied_frame]
    exact entryCheck_entryChecked (by simpa [GrantLaw] using law) (by simpa [StrokeLaw] using strokes)

end Sys2Proof.Machine
end

section
/-! SUPPORT and CERTIFICATES. SET_CHANNEL and CLEAR_JAM: one channel's record replaced, and a change between no and some feed-capable ram handed to
the mode controller (R24, R103 to R105, R112). -/

namespace Sys2Proof.Machine

/-! ## A change of feed capability at the mode controller (R24, R105) -/

section Rams

variable {before : Nat} {s : State}

/-- A change that neither leaves no ram nor brings the first is not handed over. -/
theorem State.handRams_same (same : before = 0 ↔ s.sta.rams = 0) : s.handRams before = s := by
  simp only [State.handRams, if_pos same]

/-- The last ram lost outside FIRING. -/
theorem State.handRams_lost (some : before ≠ 0) (none : s.sta.rams = 0) (left : s.mode.mode ≠ .firing) :
    s.handRams before = s.setMode { s.mode with
      rams := 0, causes := if s.mode.mode = .hold then { s.mode.causes with noFeed := true } else s.mode.causes } := by
  have changed : ¬ (before = 0 ↔ s.sta.rams = 0) := fun same => some (same.2 none)
  simp only [State.handRams, if_neg changed, if_pos none]
  rw [State.holdArises_of_not_firing (by simpa using left), State.entryCheck_unmet, none]
  · rfl
  · rintro ⟨l, -, -, ⟨-, -, -, rams⟩ | ⟨hold, causes⟩⟩
    · simp [none] at rams
    · replace hold : s.mode.mode = .hold := hold
      simp [hold, HoldCauses.none] at causes

/-- The last ram lost in FIRING (R27). -/
theorem State.handRams_held (some : before ≠ 0) (none : s.sta.rams = 0) (firing : s.mode.mode = .firing) :
    s.handRams before = (s.setMode { s.mode with rams := 0 }).goHold onlyNoFeed := by
  have changed : ¬ (before = 0 ↔ s.sta.rams = 0) := fun same => some (same.2 none)
  simp only [State.handRams, if_neg changed, if_pos none]
  rw [State.holdArises_firing (by simpa using firing), State.entryCheck_goHold (by decide), none]

/-- The first ram back (R28). -/
theorem State.handRams_returned (none : before = 0) (some : s.sta.rams ≠ 0) :
    s.handRams before = (s.setMode { s.mode with
      rams := s.sta.rams
      causes := if s.mode.mode = .hold then { s.mode.causes with noFeed := false } else s.mode.causes }).entryCheck := by
  have changed : ¬ (before = 0 ↔ s.sta.rams = 0) := fun same => some (same.1 none)
  simp only [State.handRams, if_neg changed, if_neg some]
  rw [State.holdClears_eq]
  rfl

end Rams

/-! ## One channel replaced -/

/-- The laws after a channel that meets its own law has taken the place of another. -/
theorem strokeLaw_set {s : State} {ch : StrokeChannel} {x : StrokeRecord} {rams : Nat} (law : StrokeLaw s)
    (lawful : ChannelLaw s.mode.mode ch x) : StrokeLaw (s.setSta { s.sta with channels := s.sta.channels.set ch x, rams := rams }) := by
  intro c mem
  by_cases same : c = ch
  · subst same
    simpa using lawful
  · simpa [PerStroke.get_set_ne _ _ same] using law c mem

/-! ## SET_CHANNEL (R112) -/

/-- How a channel settles to its settings: JAMMED, as it is; inactive, OFF; OFF and active, started; in WAIT, released where it need not wait;
in its cycle, its preload written where it has a period. -/
theorem settle_eq (mode : Mode) (pl : Option Plant) (a : StrokeArray) (ch : StrokeChannel) (r : StrokeRecord) :
    settle mode pl a ch r =
      if r.state = .jammed then r
      else if active mode ch r = false then (if r.state = .off then r else deactivate r)
      else if r.state = .off then activate mode pl a ch r
      else if r.state = .wait then (if mustWait a ch r then r else enterDwell mode pl a ch r)
      else { r with preload := (computedPeriod mode pl a ch r).or r.preload } := by
  unfold settle
  split
  · rfl
  next notJammed =>
  cases runs : active mode ch r with
  | false => simp
  | true =>
    simp only [if_true, Bool.true_eq_false, if_false]
    split
    · rfl
    next notOff =>
    split
    · next waits =>
      have still : writePreload mode pl a ch r = r := by simp [writePreload, cycling, waits]
      rw [still]
      cases wait : mustWait a ch r <;> simp [releaseWait, waits, wait]
    · next notWait =>
      have cycles : cycling r = true := by
        rcases state : r.state with _ | _ | _ | _ | _ <;> simp_all [cycling]
      rw [writePreload_cycling cycles, releaseWait, if_neg fun h => notWait h.1]

/-- A channel that becomes active is not OFF, and waits as a ram alone. -/
theorem activate_channelLaw {mode : Mode} {pl : Option Plant} {a : StrokeArray} {ch : StrokeChannel} {r : StrokeRecord}
    (runs : active mode ch r = true) : ChannelLaw mode ch (activate mode pl a ch r) := by
  have runs' : active mode ch (activate mode pl a ch r) = true := by simpa [active] using runs
  refine ⟨fun h => absurd (runs'.symm.trans h) nofun, fun _ => ?_, fun wait => ?_⟩
  · rw [activate_state]
    split <;> simp
  · rw [activate_state] at wait
    split at wait
    · next waits => exact ((mustWait_iff a ch r).1 waits).1
    · cases wait

/-- A channel settled meets the law of its mode. -/
theorem settle_channelLaw {mode : Mode} {pl : Option Plant} {a : StrokeArray} {ch : StrokeChannel} {r : StrokeRecord}
    (waits : r.state = .wait → isRam ch = true) : ChannelLaw mode ch (settle mode pl a ch r) := by
  rw [settle_eq]
  split
  · next jammed => exact ⟨fun _ => .inr jammed, fun _ => by simp [jammed], fun wait => by simp [jammed] at wait⟩
  split
  · next inactive =>
    split
    · next off => exact ⟨fun _ => .inl off, fun h => absurd (inactive.symm.trans h) nofun, fun wait => by simp [off] at wait⟩
    · have inactive' : active mode ch (deactivate r) = false := inactive
      exact ⟨fun _ => .inl rfl, fun h => absurd (inactive'.symm.trans h) nofun, nofun⟩
  next runs =>
  replace runs : active mode ch r = true := by simpa using runs
  split
  · exact activate_channelLaw runs
  next notOff =>
  split
  · next wait =>
    split
    · exact ⟨fun h => absurd (runs.symm.trans h) nofun, fun _ => notOff, waits⟩
    · have runs' : active mode ch (enterDwell mode pl a ch r) = true := runs
      exact ⟨fun h => absurd (runs'.symm.trans h) nofun, fun _ => nofun, nofun⟩
  · have runs' : active mode ch { r with preload := (computedPeriod mode pl a ch r).or r.preload } = true := runs
    exact ⟨fun h => absurd (runs'.symm.trans h) nofun, fun _ => notOff, waits⟩

/-! ### A channel replaced at a command: the four cases of the count of feed-capable rams -/

section Replaced

variable {s : State} {r : Reply} {ch : StrokeChannel} {x : StrokeRecord}

/-- The array with one channel replaced and its rams counted. -/
abbrev StrokeArray.replaced (a : StrokeArray) (ch : StrokeChannel) (x : StrokeRecord) : StrokeArray :=
  { a with channels := a.channels.set ch x, rams := countRams { a with channels := a.channels.set ch x } }

theorem State.putChannel_eq (s : State) (ch : StrokeChannel) (x : StrokeRecord) :
    s.putChannel ch x = (s.setSta (s.sta.replaced ch x)).handRams s.sta.rams := rfl

theorem putChannel_same (same : s.sta.rams = 0 ↔ (s.sta.replaced ch x).rams = 0) : s.putChannel ch x = s.setSta (s.sta.replaced ch x) := by
  rw [State.putChannel_eq, State.handRams_same (by simpa using same)]

theorem putChannel_lost (some : s.sta.rams ≠ 0) (none : (s.sta.replaced ch x).rams = 0) (left : s.mode.mode ≠ .firing) :
    s.putChannel ch x = (s.setSta { s.sta with channels := s.sta.channels.set ch x, rams := 0 }).setMode { s.mode with
      rams := 0, causes := if s.mode.mode = .hold then { s.mode.causes with noFeed := true } else s.mode.causes } := by
  rw [State.putChannel_eq, State.handRams_lost some (by simpa using none) (by simpa using left), ← none]
  rfl

/-- The last feed-capable ram lost in FIRING: the plant is held with NO_FEED. -/
theorem putChannel_held (some : s.sta.rams ≠ 0) (none : (s.sta.replaced ch x).rams = 0) (firing : s.mode.mode = .firing) (held : GrantHeld s) :
    (s.putChannel ch x).mode = { s.mode with mode := .hold, burner := true, timer := 0, causes := onlyNoFeed, rams := 0, trip := Option.none }
      ∧ FeedStopped (s.putChannel ch x) ∧ FeedEnds (s.setSta { s.sta with channels := s.sta.channels.set ch x }) (s.putChannel ch x)
      ∧ (s.putChannel ch x).sta.rams = 0 ∧ (∀ q, (s.putChannel ch x).holds q .mode = true)
      ∧ (s.putChannel ch x).eau = { s.eau with staleInFiring := false } ∧ (s.putChannel ch x).clock = s.clock
      ∧ (s.putChannel ch x).slg = s.slg ∧ (s.putChannel ch x).fmu = s.fmu ∧ (s.putChannel ch x).pst = s.pst := by
  let u := (s.setSta (s.sta.replaced ch x)).setMode { s.mode with rams := 0 }
  have put : s.putChannel ch x = u.goHold onlyNoFeed := by
    rw [State.putChannel_eq, State.handRams_held some (by simpa using none) (by simpa using firing)]
    rfl
  have heldU : GrantHeld u := held
  obtain ⟨mode, stopped, ends, notices, eau, clock, slg, fmu, pst⟩ := goHold_effect (s := u) onlyNoFeed heldU firing
  obtain ⟨-, -, rams, -⟩ := State.changeMode_facts { enterMode .hold u.mode with causes := onlyNoFeed } u
  rw [put]
  exact ⟨mode, stopped, ends, rams.trans none, notices, eau, clock, slg, fmu, pst⟩

/-- The state in which the entry check meets the first ram back. -/
abbrev State.ramBack (s : State) (ch : StrokeChannel) (x : StrokeRecord) : State :=
  (s.setSta (s.sta.replaced ch x)).setMode { s.mode with
    rams := (s.sta.replaced ch x).rams
    causes := if s.mode.mode = .hold then { s.mode.causes with noFeed := false } else s.mode.causes }

theorem putChannel_returned (none : s.sta.rams = 0) (some : (s.sta.replaced ch x).rams ≠ 0) :
    s.putChannel ch x = (s.ramBack ch x).entryCheck := by
  rw [State.putChannel_eq, State.handRams_returned none (by simpa using some)]
  rfl

theorem putChannel_entryChecked (none : s.sta.rams = 0) (some : (s.sta.replaced ch x).rams ≠ 0) (law : GrantLaw s) (strokes : StrokeLaw s)
    (lawful : ChannelLaw s.mode.mode ch x) : EntryChecked (s.ramBack ch x) (s.putChannel ch x) := by
  rw [putChannel_returned none some]
  exact entryCheck_entryChecked law (strokeLaw_set (rams := (s.sta.replaced ch x).rams) strokes lawful)

end Replaced

/-! ### The command -/

/-- A code outside its list. -/
theorem StrokeChannel.ofCode_none {b : Byte} (high : 8 ≤ b.toNat) : StrokeChannel.ofCode b = none := by
  unfold StrokeChannel.ofCode
  split
  case h_9 => rfl
  all_goals omega

theorem flagOf_none {b : Byte} (high : 2 ≤ b.toNat) : flagOf b = none := by
  unfold flagOf
  split
  case h_3 => rfl
  all_goals omega

theorem Source.ofCode_none {b : Byte} (high : 2 ≤ b.toNat) : Source.ofCode b = none := by
  unfold Source.ofCode
  split
  case h_3 => rfl
  all_goals omega

/-- SET_CHANNEL accepted: the channel settled, the reply in its slot. -/
theorem exec_setChannel_taken {number enabled source : BitVec 8} {fixedPeriod : BitVec 16} {s : State} {ch : StrokeChannel} {en : Bool}
    {src : Source} (ready : Ready .pf s) (hch : StrokeChannel.ofCode number = some ch) (hen : flagOf enabled = some en)
    (hsrc : Source.ofCode source = some src) :
    exec (.setChannel .pf number enabled source fixedPeriod) s =
      .next ((s.replied .pf (.plain (if fixedPeriod.toNat < lowestFixed s.pst.workingPlant ch then .clamped else .ok))).putChannel ch
        (settle s.mode.mode s.pst.workingPlant s.sta ch { s.sta.channels.get ch with
          enabled := en, source := src, fixedPeriod := max (lowestFixed s.pst.workingPlant ch) fixedPeriod.toNat })) := by
  have done : (s.beginTake .pf).doSetChannel .pf number enabled source fixedPeriod =
      ((s.beginTake .pf).setSettings ch en src (max (lowestFixed s.pst.workingPlant ch) fixedPeriod.toNat),
        .plain (if fixedPeriod.toNat < lowestFixed s.pst.workingPlant ch then .clamped else .ok)) := by
    simp [State.doSetChannel, hch, hen, hsrc, State.plant, Reply.done]
  simpa [State.setSettings, State.plantMode, State.plant] using exec_ready rfl ready rfl done

/-- What a command that replaces one channel leaves: the four cases of the count of feed-capable rams. -/
theorem exec_putChannel {i : Instr} {s : State} {r r' : Reply} {ch : StrokeChannel} {x y : StrokeRecord}
    (taken : exec i s = .next ((s.replied .pf r').putChannel ch y)) (lawful : StrokeLaw s → ChannelLaw s.mode.mode ch y)
    (reply : r' = r) (settled : y = x) :
    let told := s.replied .pf r
    let channels := s.sta.channels.set ch x
    let rams := countRams { s.sta with channels := channels }
    ((s.sta.rams = 0 ↔ rams = 0) → exec i s = .next (told.setSta { s.sta with channels := channels, rams := rams }))
      ∧ (s.sta.rams ≠ 0 → rams = 0 → s.mode.mode = .firing → GrantLaw s →
        ∃ t, exec i s = .next t ∧ (t.port .pf).slot = (told.port .pf).slot
          ∧ t.mode = { s.mode with mode := .hold, burner := true, timer := 0, causes := onlyNoFeed, rams := 0, trip := none }
          ∧ FeedStopped t ∧ FeedEnds (told.setSta { s.sta with channels := channels }) t ∧ t.sta.rams = 0 ∧ (∀ q, t.holds q .mode = true)
          ∧ t.eau = { s.eau with staleInFiring := false } ∧ t.clock = s.clock ∧ t.slg = s.slg ∧ t.fmu = s.fmu ∧ t.pst = s.pst)
      ∧ (s.sta.rams ≠ 0 → rams = 0 → s.mode.mode ≠ .firing →
        exec i s = .next ((told.setSta { s.sta with channels := channels, rams := 0 }).setMode { s.mode with
          rams := 0, causes := if s.mode.mode = .hold then { s.mode.causes with noFeed := true } else s.mode.causes }))
      ∧ (s.sta.rams = 0 → rams ≠ 0 → GrantLaw s → StrokeLaw s →
        ∃ t, exec i s = .next t
          ∧ EntryChecked ((told.setSta { s.sta with channels := channels, rams := rams }).setMode { s.mode with
              rams := rams
              causes := if s.mode.mode = .hold then { s.mode.causes with noFeed := false } else s.mode.causes }) t) := by
  subst reply settled
  refine ⟨fun same => ?_, fun some none firing law => ⟨_, taken, ?_, putChannel_held some none firing law.grantHeld⟩,
    fun some none left => ?_, fun none some law strokes => ⟨_, taken, putChannel_entryChecked none some law strokes (lawful strokes)⟩⟩
  · exact taken.trans (congrArg _ (putChannel_same (s := s.replied .pf r') same))
  · exact ((PortsGrow.refl _).putChannel _ _).slot _
  · exact taken.trans (congrArg _ (putChannel_lost (s := s.replied .pf r') some none left))

/-- Settles O46: the channel settled, and the change of feed capability at the mode controller. -/
theorem setChannelSettles : Obligations.SetChannelSettles := by
  unfold Obligations.SetChannelSettles
  intro number enabled source fixedPeriod s ready
  refine ⟨fun unknown => ?_, fun ch en src hch hen hsrc =>
    exec_putChannel (exec_setChannel_taken ready hch hen hsrc) (fun strokes => settle_channelLaw ?_) ?_ ?_⟩
  · have done : (s.beginTake .pf).doSetChannel .pf number enabled source fixedPeriod = (s.beginTake .pf, .plain .range) := by
      rcases unknown with high | high | high
      · simp [State.doSetChannel, StrokeChannel.ofCode_none high, refuse]
      · simp [State.doSetChannel, flagOf_none high, refuse]
      · simp [State.doSetChannel, Source.ofCode_none high, refuse]
    simpa using exec_ready rfl ready rfl done
  · obtain ⟨-, -, waits⟩ := strokes ch (StrokeChannel.mem_all ch)
    exact waits
  · cases s.pst.workingPlant <;> rfl
  · rw [settle_eq]
    cases s.pst.workingPlant with
    | none =>
      simp only [lowestFixed, Option.map_none, Option.getD_none, Nat.reduceAdd, activate, enterDwell, deactivate, currentLimit]
      generalize computedPeriod s.mode.mode none s.sta ch _ = period
      cases period <;> rfl
    | some pl =>
      simp only [lowestFixed, Option.map_some, Option.getD_some, activate, enterDwell, deactivate, currentLimit]
      generalize computedPeriod s.mode.mode (some pl) s.sta ch _ = period
      cases period <;> rfl

end Sys2Proof.Machine
end

section
/-! CERTIFICATE. CLEAR_JAM: a JAMMED channel released, and the ram that is feed-capable again at the mode controller (R24, R26, R28, R97, R104,
R105). -/

namespace Sys2Proof.Machine

/-! ## The count of feed-capable rams with one channel replaced (R105) -/

/-- A grate channel counts for nothing. -/
theorem countRams_replaced_grate {a : StrokeArray} {ch : StrokeChannel} (grate : isRam ch = false) (x : StrokeRecord) :
    (a.replaced ch x).rams = countRams a := by
  have ramA : StrokeChannel.ramA ≠ ch := by rintro rfl; cases grate
  have ramB : StrokeChannel.ramB ≠ ch := by rintro rfl; cases grate
  have sameA := PerStroke.get_set_ne a.channels x ramA
  have sameB := PerStroke.get_set_ne a.channels x ramB
  simp only [PerStroke.get] at sameA sameB
  simp [countRams, sameA, sameB]

/-- A JAMMED ram counts for nothing, and replaced for what its new record is. -/
theorem countRams_replaced_jammed {a : StrokeArray} {ch : StrokeChannel} (ram : isRam ch = true)
    (jammed : (a.channels.get ch).state = .jammed) (x : StrokeRecord) :
    (a.replaced ch x).rams = countRams a + (feedCapable x).toNat := by
  cases ch with
  | ramA =>
    have none : feedCapable a.channels.ramA = false := by simp only [PerStroke.get] at jammed; simp [feedCapable, jammed]
    simp [countRams, PerStroke.set, none, Nat.add_comm]
  | ramB =>
    have none : feedCapable a.channels.ramB = false := by simp only [PerStroke.get] at jammed; simp [feedCapable, jammed]
    simp [countRams, PerStroke.set, none]
  | _ => cases ram

/-! ## The row -/

/-- CLEAR_JAM accepted: the channel cleared, the reply in its slot. -/
theorem exec_clearJam_taken {number : BitVec 8} {s : State} {ch : StrokeChannel} (ready : Ready .pf s)
    (hch : StrokeChannel.ofCode number = some ch) (jammed : (s.sta.channels.get ch).state = .jammed) :
    exec (.clearJam .pf number) s = .next ((s.replied .pf (.plain .ok)).putChannel ch
      (clearedRecord s.mode.mode s.pst.workingPlant s.sta ch (s.sta.channels.get ch))) := by
  have done : (s.beginTake .pf).doClearJam .pf number = ((s.beginTake .pf).putChannel ch
      (clearedRecord s.mode.mode s.pst.workingPlant s.sta ch (s.sta.channels.get ch)), .plain .ok) := by
    simp [State.doClearJam, hch, jammed, State.plantMode, State.plant]
  simpa using exec_ready rfl ready rfl done

/-- A channel replaced where the count of feed-capable rams does not pass between none and some. -/
theorem exec_putChannel_counted {i : Instr} {s : State} {r : Reply} {ch : StrokeChannel} {x : StrokeRecord} {n : Nat}
    (taken : exec i s = .next ((s.replied .pf r).putChannel ch x)) (rams : (s.sta.replaced ch x).rams = n) (same : s.sta.rams = 0 ↔ n = 0) :
    exec i s = .next ((s.replied .pf r).setSta { s.sta with channels := s.sta.channels.set ch x, rams := n }) := by
  subst rams
  exact taken.trans (congrArg _ (putChannel_same (s := s.replied .pf r) same))

/-- A channel cleared to OFF: its other fields as they were (log entry 26). -/
abbrev clearedOff (r : StrokeRecord) : StrokeRecord := { r with state := .off, counter := 0, jamCount := 0 }

/-- The only ram cleared is the one that counts. -/
theorem replaced_clearedOff_rams {a : StrokeArray} {ch : StrokeChannel} (ram : isRam ch = true) (jammed : (a.channels.get ch).state = .jammed)
    (on : (a.channels.get ch).enabled = true) (none : countRams a = 0) : (a.replaced ch (clearedOff (a.channels.get ch))).rams = 1 := by
  rw [countRams_replaced_jammed ram jammed, none]
  simp [feedCapable, on]

/-- A channel cleared where its kind does not run, or disabled (R104). -/
theorem clearedRecord_inactive {mode : Mode} {pl : Option Plant} {a : StrokeArray} {ch : StrokeChannel} {r : StrokeRecord}
    (inactive : active mode ch r = false) :
    clearedRecord mode pl a ch r = clearedOff r := by
  simp [clearedRecord, inactive]

/-- A channel cleared where it runs: at the start of its cycle, or waiting (R97, R104). -/
theorem clearedRecord_active {mode : Mode} {pl : Option Plant} {a : StrokeArray} {ch : StrokeChannel} {r : StrokeRecord}
    (runs : active mode ch r = true) : clearedRecord mode pl a ch r = activate mode pl a ch { r with jamCount := 0 } := by
  simp [clearedRecord, runs]

/-- The setting of the jam count is none of the period's terms. -/
@[simp] theorem computedPeriod_jamCount (mode : Mode) (pl : Option Plant) (a : StrokeArray) (ch : StrokeChannel) (r : StrokeRecord) (n : Nat) :
    computedPeriod mode pl a ch { r with jamCount := n } = computedPeriod mode pl a ch r := rfl

/-- The only ram back ends a hold that stood for want of feed alone (R24, R28). -/
theorem putChannel_fires {s : State} {ch : StrokeChannel} {x : StrokeRecord} {l : Limits} (hold : s.mode.mode = .hold) (none : s.sta.rams = 0)
    (one : (s.sta.replaced ch x).rams = 1) (law : GrantLaw s) (causes : s.mode.causes = onlyNoFeed) (limits : s.pst.workingLimits = some l)
    (dwell : l.dwell ≤ s.mode.timer) (off : x.state = .off) (on : x.enabled = true) :
    let t := s.putChannel ch x
    t.mode = { s.mode with mode := .firing, burner := false, timer := 0, causes := .none, rams := 1, trip := Option.none }
      ∧ t.sta.rams = 1 ∧ t.feu.grant = 0
      ∧ ((t.sta.channels.get ch).state = .dwell ∨ (t.sta.channels.get ch).state = .wait)
      ∧ (t.sta.channels.get ch).jamCount = x.jamCount
      ∧ (∀ q, t.holds q .mode = true) ∧ t.clock = s.clock ∧ t.slg = s.slg ∧ t.fmu = s.fmu ∧ t.pst = s.pst := by
  let u := s.ramBack ch x
  have lawful : GrantLaw u := law
  have met : EntryMet u.pst.workingLimits u.mode :=
    ⟨l, by simp [u, limits], dwell, .inr ⟨hold, by simp [u, hold, causes, onlyNoFeed, HoldCauses.none]⟩⟩
  have fires : s.putChannel ch x = u.goTo .firing := by
    rw [putChannel_returned none (by omega), State.entryCheck_met met]
  obtain ⟨mode, -, sta, -, grant, notices, clock, slg, fmu, pst⟩ := goTo_firing_effect lawful (by simp [u, hold])
  have here : u.sta.channels.get ch = x := PerStroke.get_set_same _ _ _
  have gate : (u.goTo .firing).sta.channels.get ch = activate .firing u.pst.workingPlant u.sta ch x := by
    rw [sta, takeMode_channel, here]
    simp [gateChannel, off, on]
  obtain ⟨started, state, -⟩ := activate_started .firing u.pst.workingPlant u.sta ch x
  rw [fires]
  refine ⟨?_, ?_, grant, ?_, ?_, notices, clock, slg, fmu, pst⟩
  · have rams : u.mode.rams = 1 := one
    rw [mode]
    dsimp only
    rw [rams]
    rfl
  · rw [sta]
    exact one
  · rw [gate, state]
    split
    · exact .inr rfl
    · exact .inl rfl
  · rw [gate, started]

/-- A ram that starts again in FIRING, its period written out (R97, R104, R107). -/
theorem clearedRecord_firing {pl : Plant} {a : StrokeArray} {ch : StrokeChannel} {r : StrokeRecord} (ram : isRam ch = true)
    (on : r.enabled = true) :
    clearedRecord .firing (some pl) a ch r =
      if r.source = .auto ∧ laneGrant a ch < 50 then { r with state := .wait, counter := 0, jamCount := 0, preload := none }
      else { r with
        state := .dwell, counter := 0, jamCount := 0, preload := none
        period := max ((timingOf pl ch).ls + 10) (if r.source = .fixed then r.fixedPeriod
          else min 65535 (((timingOf pl ch).pnom * 1000 + laneGrant a ch / 2) / laneGrant a ch))
        limit := (timingOf pl ch).ls } := by
  rw [clearedRecord_active (by simpa using on)]
  by_cases waits : r.source = .auto ∧ laneGrant a ch < 50
  · have wait : mustWait a ch { r with jamCount := 0 } = true := (mustWait_iff _ _ _).2 ⟨ram, waits⟩
    rw [if_pos waits, activate, if_pos wait]
  · have free : mustWait a ch { r with jamCount := 0 } = false :=
      Bool.eq_false_iff.2 fun h => waits ((mustWait_iff _ _ _).1 h).2
    rw [if_neg waits, activate, if_neg (Bool.eq_false_iff.1 free)]
    by_cases fixed : r.source = .fixed
    · simp [enterDwell, computedPeriod, fixed, currentLimit]
    · have auto : r.source = .auto := by cases h : r.source <;> simp_all
      have high : ¬ laneGrant a ch < cutoff := fun low => waits ⟨auto, low⟩
      simp [enterDwell, computedPeriod, auto, ram, high, periodFor, currentLimit]

/-- Settles O48: the channel cleared, and the ram that counts again. -/
theorem clearJamReleases : Obligations.ClearJamReleases := by
  unfold Obligations.ClearJamReleases
  intro number s ready
  refine ⟨fun unknown => ?_, fun ch hch => ⟨fun free => ?_, fun pl p jammed grate runs plant period lock => ?_,
    fun jammed grate inactive lock => ?_, fun jammed ram disabled lock => ?_, fun jammed ram on left some lock => ?_,
    fun l jammed ram on hold none lock law causes limits dwell => ?_, fun pl jammed ram on firing plant lock => ?_,
    fun jammed ram on left none lock law strokes => ?_⟩⟩
  · have done : (s.beginTake .pf).doClearJam .pf number = (s.beginTake .pf, .plain .range) := by
      simp [State.doClearJam, StrokeChannel.ofCode_none unknown, refuse]
    simpa using exec_ready rfl ready rfl done
  · have done : (s.beginTake .pf).doClearJam .pf number = (s.beginTake .pf, .plain .state) := by
      simp [State.doClearJam, hch, free, refuse]
    simpa using exec_ready rfl ready rfl done
  all_goals obtain ⟨⟨-, zero, counted⟩, guard⟩ := (interlockLaw_iff s).1 lock
  · have cleared : clearedRecord s.mode.mode s.pst.workingPlant s.sta ch (s.sta.channels.get ch) = { s.sta.channels.get ch with
        state := .dwell, counter := 0, jamCount := 0, preload := none, period := p, limit := (timingOf pl ch).ls } := by
      rw [clearedRecord_active runs]
      simp [activate, mustWait, grate, enterDwell, plant, period, currentLimit]
    have taken := exec_clearJam_taken ready hch jammed
    rw [cleared] at taken
    exact exec_putChannel_counted taken ((countRams_replaced_grate grate _).trans counted.symm) Iff.rfl
  · have taken := exec_clearJam_taken ready hch jammed
    rw [clearedRecord_inactive inactive] at taken
    exact exec_putChannel_counted taken ((countRams_replaced_grate grate _).trans counted.symm) Iff.rfl
  · have taken := exec_clearJam_taken ready hch jammed
    rw [clearedRecord_inactive (by simp [active, disabled])] at taken
    refine exec_putChannel_counted taken ((countRams_replaced_jammed ram jammed _).trans ?_) Iff.rfl
    simp [feedCapable, disabled, counted]
  · have taken := exec_clearJam_taken ready hch jammed
    rw [clearedRecord_inactive (by simp [active, allowed, ram, left])] at taken
    refine exec_putChannel_counted taken ((countRams_replaced_jammed ram jammed _).trans ?_) (by omega)
    simp [feedCapable, on, counted]
  · have taken := exec_clearJam_taken ready hch jammed
    have inactive : active s.mode.mode ch (s.sta.channels.get ch) = false := by simp [active, allowed, ram, hold]
    rw [clearedRecord_inactive inactive] at taken
    have one := replaced_clearedOff_rams ram jammed on (counted.symm.trans none)
    exact ⟨_, taken, ((PortsGrow.refl _).putChannel _ _).slot _ |>.trans (State.replied_slot _ _ _),
      putChannel_fires (s := s.replied .pf (.plain .ok)) (by simpa using hold) none one (law.replied _ _) (by simpa using causes)
        (by simpa using limits) (by simpa using dwell) rfl on⟩
  · have taken := exec_clearJam_taken ready hch jammed
    rw [firing, plant, clearedRecord_firing ram on] at taken
    have one : 1 ≤ s.sta.rams := by
      obtain ⟨-, some⟩ := guard.1 firing
      omega
    refine exec_putChannel_counted taken ((countRams_replaced_jammed ram jammed _).trans ?_) (by omega)
    rw [counted]
    split <;> simp [feedCapable, on]
  · have taken := exec_clearJam_taken ready hch jammed
    have inactive : active s.mode.mode ch (s.sta.channels.get ch) = false := by simp [active, allowed, ram, left]
    rw [clearedRecord_inactive inactive] at taken
    have one := replaced_clearedOff_rams ram jammed on (counted.symm.trans none)
    have checked : EntryChecked ((s.replied .pf (.plain .ok)).ramBack ch (clearedOff (s.sta.channels.get ch))) _ :=
      putChannel_entryChecked none (one ▸ Nat.one_ne_zero) (law.replied _ _) (strokes.replied _ _)
        ⟨fun _ => .inl rfl, fun h => absurd (inactive.symm.trans h) nofun, nofun⟩
    refine ⟨_, taken, ?_⟩
    rw [← one]
    exact checked

end Sys2Proof.Machine
end

section
/-! SUPPORT and CERTIFICATE. POST_TEMPERATURE: the record posted, the comparison of each mode and the entry check after it (R20, R22). -/

namespace Sys2Proof.Machine

/-! ## Where the entry check is not met -/

theorem State.entryCheck_elsewhere {u : State} (warming : u.mode.mode ≠ .warming) (hold : u.mode.mode ≠ .hold) : u.entryCheck = u :=
  State.entryCheck_unmet fun met => met.mode.elim warming hold

theorem State.entryCheck_unqualified {u : State} {l : Limits} (limits : u.pst.workingLimits = some l) (dwell : u.mode.timer < l.dwell) :
    u.entryCheck = u := by
  refine State.entryCheck_unmet fun ⟨l', limits', counted, _⟩ => ?_
  cases limits.symm.trans (Option.mem_toList.1 limits')
  omega

theorem State.entryCheck_caused {u : State} (hold : u.mode.mode = .hold) (cause : u.mode.causes ≠ .none) : u.entryCheck = u := by
  refine State.entryCheck_unmet fun ⟨_, _, _, met⟩ => ?_
  rcases met with ⟨warming, -⟩ | ⟨-, none⟩
  · cases hold.symm.trans warming
  · exact cause none

/-- A plant just taken to TRIPPED is not fired. -/
theorem State.entryCheck_goTripped (c : TripCause) (s : State) : (s.goTripped c).entryCheck = s.goTripped c := by
  refine State.entryCheck_elsewhere ?_ ?_ <;> simp [State.goTripped, enterMode]

/-! ## The post before its comparison, and the comparison row by row (R20) -/

/-- The record present and fresh. -/
def State.posted (v : Nat) (s : State) : State := s.setMode { s.mode with temp := some v, tempAge := 0 }

@[simp] theorem State.posted_mode (v : Nat) (s : State) : (s.posted v).mode = { s.mode with temp := some v, tempAge := 0 } := rfl

section Compare

variable {l : Limits} {v : Nat} {u : State}

theorem compareTemperature_warming (mode : u.mode.mode = .warming) (top : v ≤ l.tmax) :
    u.compareTemperature l v = u.setMode { u.mode with timer := if v < l.tmin then 0 else u.mode.timer } := by
  have low : ¬ l.tmax < v := by omega
  simp only [State.compareTemperature, State.compareTmin, State.plantMode, mode, if_neg low]
  split
  · rfl
  · rw [← mode]
    rfl

theorem compareTemperature_hold (mode : u.mode.mode = .hold) (top : v ≤ l.tmax) :
    u.compareTemperature l v = u.setMode { u.mode with
      timer := if v < l.tmin then 0 else u.mode.timer
      causes := { u.mode.causes with tempStale := false, lowTemp := decide (v < l.tmin) } } := by
  have low : ¬ l.tmax < v := by omega
  simp only [State.compareTemperature, State.compareTmin, State.plantMode, mode, if_neg low]
  split <;> simp [*]

theorem compareTemperature_firing (mode : u.mode.mode = .firing) (top : v ≤ l.tmax) :
    u.compareTemperature l v = if v < l.tmin then u.goHold onlyLowTemp else u := by
  have low : ¬ l.tmax < v := by omega
  simp only [State.compareTemperature, State.compareTmin, State.plantMode, mode, if_neg low]

theorem compareTemperature_burnout (mode : u.mode.mode = .burnout) (top : v ≤ l.tmax) :
    u.compareTemperature l v = if v < l.tcold then u.goTo .cold else u := by
  have low : ¬ l.tmax < v := by omega
  simp only [State.compareTemperature, State.plantMode, mode, if_neg low]

theorem compareTemperature_tripped (mode : u.mode.mode = .tripped) :
    u.compareTemperature l v = if l.tmax < v then u.setMode (countTrip u.mode) else u := by
  simp only [State.compareTemperature, State.plantMode, mode]

theorem compareTemperature_trips (hot : u.mode.mode = .warming ∨ u.mode.mode = .firing ∨ u.mode.mode = .hold ∨ u.mode.mode = .burnout)
    (high : l.tmax < v) : u.compareTemperature l v = u.goTripped .overTemp := by
  rcases hot with h | h | h | h <;> simp only [State.compareTemperature, State.plantMode, h, if_pos high]

end Compare

section Taken

variable {l : Limits} {v : Nat} {s : State}

theorem takeTemperature_eq (limits : s.pst.workingLimits = some l) :
    s.takeTemperature v = ((s.posted v).compareTemperature l v).entryCheck := by
  simp only [State.takeTemperature, State.limits, limits]
  rfl

/-- Without a copy, and in COLD, nothing is compared (R22). -/
theorem takeTemperature_uncompared (idle : s.pst.workingLimits = none ∨ s.mode.mode = .cold) : s.takeTemperature v = s.posted v := by
  rcases idle with none | cold
  · simp only [State.takeTemperature, State.limits, none]
    exact State.entryCheck_unmet fun ⟨l, limits, _⟩ => by simp [none] at limits
  · have check : (s.posted v).entryCheck = s.posted v :=
      State.entryCheck_elsewhere (by simp [State.posted, cold]) (by simp [State.posted, cold])
    have same (l : Limits) : (s.posted v).compareTemperature l v = s.posted v := by
      simp [State.compareTemperature, State.posted, State.plantMode, cold]
    cases limits : s.pst.workingLimits with
    | none =>
      simp only [State.takeTemperature, State.limits, limits]
      exact check
    | some l => rw [takeTemperature_eq limits, same, check]

theorem takeTemperature_trips (limits : s.pst.workingLimits = some l)
    (hot : s.mode.mode = .warming ∨ s.mode.mode = .firing ∨ s.mode.mode = .hold ∨ s.mode.mode = .burnout) (high : l.tmax < v) :
    s.takeTemperature v = (s.posted v).goTripped .overTemp := by
  rw [takeTemperature_eq limits, compareTemperature_trips (by simpa using hot) high, State.entryCheck_goTripped]

/-- In BURNOUT the comparison ends the burnout below Tcold (R30). -/
theorem takeTemperature_burnout (limits : s.pst.workingLimits = some l) (burnout : s.mode.mode = .burnout) (top : v ≤ l.tmax) :
    s.takeTemperature v = if v < l.tcold then (s.posted v).goTo .cold else s.posted v := by
  rw [takeTemperature_eq limits, compareTemperature_burnout (by simpa using burnout) top]
  split
  · exact State.entryCheck_elsewhere (by simp [State.goTo, enterMode]) (by simp [State.goTo, enterMode])
  · exact State.entryCheck_elsewhere (by simp [burnout]) (by simp [burnout])

/-- In FIRING it holds the plant below Tmin (R27). -/
theorem takeTemperature_firing (limits : s.pst.workingLimits = some l) (firing : s.mode.mode = .firing) (top : v ≤ l.tmax) :
    s.takeTemperature v = if v < l.tmin then (s.posted v).goHold onlyLowTemp else s.posted v := by
  rw [takeTemperature_eq limits, compareTemperature_firing (by simpa using firing) top]
  split
  · exact State.entryCheck_goHold (by decide) _
  · exact State.entryCheck_elsewhere (by simp [firing]) (by simp [firing])

/-- In TRIPPED it counts one more cause above Tmax (R33). -/
theorem takeTemperature_tripped (limits : s.pst.workingLimits = some l) (tripped : s.mode.mode = .tripped) :
    s.takeTemperature v = if l.tmax < v then (s.posted v).setMode (countTrip (s.posted v).mode) else s.posted v := by
  rw [takeTemperature_eq limits, compareTemperature_tripped (by simpa using tripped)]
  split
  · exact State.entryCheck_elsewhere (by simp [countTrip, tripped]) (by simp [countTrip, tripped])
  · exact State.entryCheck_elsewhere (by simp [tripped]) (by simp [tripped])

/-- In WARMING and HOLD the comparison moves the timer and the causes, and the entry check follows. -/
theorem takeTemperature_checked (limits : s.pst.workingLimits = some l) (mode : s.mode.mode = .warming ∨ s.mode.mode = .hold)
    (top : v ≤ l.tmax) :
    s.takeTemperature v = (s.setMode { s.mode with
      temp := some v, tempAge := 0, timer := if v < l.tmin then 0 else s.mode.timer
      causes := if s.mode.mode = .hold then { s.mode.causes with tempStale := false, lowTemp := decide (v < l.tmin) }
        else s.mode.causes }).entryCheck := by
  rw [takeTemperature_eq limits]
  rcases mode with h | h
  · rw [compareTemperature_warming (by simpa using h) top]
    simp [State.posted, h]
  · rw [compareTemperature_hold (by simpa using h) top]
    simp [State.posted, h]

end Taken

/-! ## The command -/

/-- POST_TEMPERATURE taken, the reply in its slot. -/
theorem exec_postTemperature {value : BitVec 16} {s : State} (ready : Ready .pf s) :
    exec (.postTemperature .pf value) s
      = .next ((s.replied .pf (.plain (if 1999 < value.toNat then .clamped else .ok))).takeTemperature (min 1999 value.toNat)) := by
  have done : (s.beginTake .pf).doPostTemperature .pf value = ((s.beginTake .pf).takeTemperature (min 1999 value.toNat),
      .plain (if 1999 < value.toNat then .clamped else .ok)) := by
    by_cases high : 1999 < value.toNat <;> simp [State.doPostTemperature, tempTop, Reply.done, high]
  simpa using exec_ready rfl ready rfl done

/-- Settles O31: the record alone, the comparison of each mode, and the entry check after it. -/
theorem postTemperatureActsByMode : Obligations.PostTemperatureActsByMode := by
  unfold Obligations.PostTemperatureActsByMode
  intro value s ready v m told
  have taken : exec (.postTemperature .pf value) s = .next (told.takeTemperature v) := exec_postTemperature ready
  have here : told.mode = s.mode := by simp [told]
  have record : told.posted v = told.setMode m := by simp [State.posted, here, m]
  refine ⟨fun idle => ?_, fun l limits => ?_⟩
  · rw [taken, takeTemperature_uncompared (by simpa [told] using idle), record]
  replace limits : told.pst.workingLimits = some l := by simpa [told] using limits
  refine ⟨fun mode low top => ?_, fun mode cold top => ?_, fun mode top => ?_, fun r mode high trip => ?_, fun mode low top dwell => ?_,
    fun mode low top => ?_, fun mode low top dwell => ?_, fun mode cold top law => ?_, fun mode low top law => ?_,
    fun mode high law => ?_, fun mode top law strokes => ?_⟩
  all_goals rw [taken]
  · rcases mode with firing | ⟨warming, dwell⟩
    · rw [takeTemperature_firing limits (by rw [here, firing]) top, if_neg (by omega), record]
    · rw [takeTemperature_checked limits (.inl (by rw [here, warming])) top,
        State.entryCheck_unqualified (l := l) (by simpa using limits)] <;> simp [m, here, warming, not_lt.2 low, dwell]
  · rw [takeTemperature_burnout limits (by rw [here, mode]) top, if_neg (by omega), record]
  · rw [takeTemperature_tripped limits (by rw [here, mode]), if_neg (by omega), record]
  · rw [takeTemperature_tripped limits (by rw [here, mode]), if_pos high, record]
    simp [m, countTrip, trip, satAdd]
  · rw [takeTemperature_checked limits (.inl (by rw [here, mode])) top,
      State.entryCheck_unqualified (l := l) (by simpa using limits)] <;> simp [m, here, mode, low]
    omega
  · rw [takeTemperature_checked limits (.inr (by rw [here, mode])) top,
      State.entryCheck_caused] <;> simp [m, here, mode, low, HoldCauses.none]
  · rw [takeTemperature_checked limits (.inr (by rw [here, mode])) top,
      State.entryCheck_unqualified (l := l) (by simpa using limits)] <;> simp [m, here, mode, not_lt.2 low, dwell]
  · have lawful : GrantLaw (told.setMode m) := by simpa [GrantLaw, told, m] using law
    have held := lawful.grantHeld
    let x := enterMode .cold m
    have change := State.changeMode_idle (m := x) lawful (by simp [m, mode]) nofun (.inl (by simp [x, enterMode]))
    have stops : StrokesStop (told.setMode m) ((told.setMode m).changeMode x) := changeMode_strokesStop (.inl rfl) held
    refine ⟨(told.setMode m).changeMode x, ?_, ?_, ?_, fun ch => (stops.2 ch (by cases ch <;> decide)).stopped, ?_,
      State.changeMode_holds_mode _ _, ?_⟩
    · rw [takeTemperature_burnout limits (by rw [here, mode]) top, if_pos cold, record]
      rfl
    · rw [((PortsGrow.refl _).changeMode x).slot]
      simp
    · simp [x, enterMode, burnerFor]
    · simpa [StrokesStop, told] using stops
    · rw [change]
      simp [told]
  · have held : GrantHeld (told.setMode m) := law.grantHeld
    obtain ⟨hmode, stopped, ends, notices, eau, clock, slg, fmu, pst⟩ := goHold_effect onlyLowTemp held (by simpa [m] using mode)
    refine ⟨_, ?_, ?_, hmode, stopped, ?_, notices, ?_, ?_⟩
    · rw [takeTemperature_firing limits (by rw [here, mode]) top, if_pos low, record]
    · rw [((PortsGrow.refl _).goHold _).slot]
      simp
    · simpa [FeedEnds, told] using ends
    · rw [eau]
      simp [told, mode]
    · rw [clock, slg, fmu, pst]
      simp [told]
  · have held : GrantHeld (told.setMode m) := law.grantHeld
    let x : ModeCtl := { enterMode .tripped m with trip := some (newTrip .overTemp s.clock.latched.time) }
    have stops : StrokesStop (told.setMode m) ((told.setMode m).changeMode x) := changeMode_strokesStop (.inr rfl) held
    have released : HeldCopyReleased (told.setMode m) ((told.setMode m).changeMode x) := changeMode_heldCopyReleased (.inr rfl)
    refine ⟨(told.setMode m).changeMode x, ?_, ?_, ?_, changeMode_feedStopped nofun held, ?_, State.changeMode_holds_mode _ _, ?_, ?_, ?_, ?_⟩
    · rw [takeTemperature_trips limits (by simpa [here] using mode) high, record]
      simp [State.goTripped, x, told]
    · rw [((PortsGrow.refl _).changeMode x).slot]
      simp
    · simp [x, enterMode, burnerFor, newTrip]
    · simpa [StrokesStop, told] using stops
    · simpa [told, m] using State.changeMode_eau_of_left (m := x) (s := told.setMode m) nofun
    · simp [told]
    · simp [told]
    · simpa [HeldCopyReleased, PlantReachesLedger, ReallocatedFrom, told] using released
  · refine ⟨_, rfl, ?_, ?_⟩
    · rw [takeTemperature_checked limits (by simpa [here] using mode) top]
      exact ((PortsGrow.refl _).entryCheck).slot .pf
    · rw [takeTemperature_checked limits (by simpa [here] using mode) top, here]
      exact entryCheck_entryChecked (by simpa [GrantLaw, told] using law) (by simpa [StrokeLaw, told] using strokes)

end Sys2Proof.Machine
end

section
/-! SUPPORT. A second event inside a minute: the emission unit and the envelope unit in either order, then the mode controller, with the ledger's own
second before or after them (R3, R56, R86, R129). -/

namespace Sys2Proof.Machine

/-! ## The blocks that the ledger's second leaves -/

/-- The mode controller, the emission unit, the envelope, the array, the meters and the store of two states are the same, and so is the
request of the ledger. -/
structure SameUnits (s t : State) : Prop where
  mode    : t.mode = s.mode
  eau     : t.eau = s.eau
  feu     : t.feu = s.feu
  sta     : t.sta = s.sta
  fmu     : t.fmu = s.fmu
  pst     : t.pst = s.pst
  request : t.slg.request = s.slg.request

namespace SameUnits

variable {s t u : State}

theorem trans (first : SameUnits s t) (second : SameUnits t u) : SameUnits s u where
  mode := second.mode.trans first.mode
  eau := second.eau.trans first.eau
  feu := second.feu.trans first.feu
  sta := second.sta.trans first.sta
  fmu := second.fmu.trans first.fmu
  pst := second.pst.trans first.pst
  request := second.request.trans first.request

theorem ledgerSecond (s : State) : SameUnits s s.ledgerSecond where
  mode := by simp
  eau := by simp
  feu := by simp
  sta := by simp
  fmu := by simp
  pst := by simp
  request := by
    dsimp only [State.ledgerSecond, State.rampSetpoints]
    split <;> simp [State.reallocate_slg, reallocated, State.steamSecond_slg]

theorem secondTicked (s : State) : SameUnits s s.secondTicked where
  mode := by simp
  eau := by simp
  feu := by simp [State.secondTicked]
  sta := by simp
  fmu := by simp
  pst := by simp
  request := by simp

theorem grantLaw (same : SameUnits s t) (law : GrantLaw s) : GrantLaw t := by
  simpa only [GrantLaw, same.mode, same.feu, same.sta, same.request] using law

theorem grantHeld (same : SameUnits s t) (held : GrantHeld s) : GrantHeld t := by
  simpa only [GrantHeld, same.feu, same.sta] using held

end SameUnits

/-! ## The order of the parts inside a minute -/

/-- A second event inside a minute is no minute event (R3). -/
theorem isMinute_advance_of_inside {t : ClockTime} (inside : t.second < 59) : isMinute (advance t) = false := by
  have carry : t.second + 1 < 60 := by omega
  simp [isMinute, advance, carry]

/-- The parts that do their work at every second event. -/
def SubEvent.everySecond (e : SubEvent) : Bool := e == .emission || e == .envelope || e == .mode

/-- In every order drawn the mode controller comes after the two units. -/
theorem eventOrder_everySecond (free : Nat) :
    (eventOrder free).order.filter SubEvent.everySecond = [.emission, .envelope, .mode]
      ∨ (eventOrder free).order.filter SubEvent.everySecond = [.envelope, .emission, .mode] := by
  have orders : ∀ base < 7, ∀ pos < 5,
      (insertActivation pos (orderBases.getD base [])).filter SubEvent.everySecond = [.emission, .envelope, .mode]
        ∨ (insertActivation pos (orderBases.getD base [])).filter SubEvent.everySecond = [.envelope, .emission, .mode] := by decide
  exact orders _ (Nat.mod_lt _ (by decide)) _ (Nat.mod_lt _ (by decide))

/-- The emission unit's and the envelope unit's second, in one order or the other. -/
def State.unitsSecond (emissionFirst : Bool) (s : State) : State :=
  if emissionFirst then s.emissionAge.envelopeSecond else s.envelopeSecond.emissionAge

@[simp] theorem State.unitsSecond_frame (b : Bool) (s : State) :
    (s.unitsSecond b).mode = s.mode ∧ (s.unitsSecond b).slg = s.slg ∧ (s.unitsSecond b).fmu = s.fmu ∧ (s.unitsSecond b).pst = s.pst := by
  unfold State.unitsSecond
  split <;> simp

section Inside

variable {k : EventKind} (inside : isMinute k.time = false)
include inside

/-- Inside a minute the installation and the activation have no work. -/
theorem State.subEvents_everySecond (old : Bool) (order : List SubEvent) (s : State) :
    s.subEvents k old order = s.subEvents k old (order.filter SubEvent.everySecond) := by
  have halfHour : isHalfHour k.time = false := by simp [isHalfHour, inside]
  induction order generalizing s with
  | nil => rfl
  | cons e es ih =>
    have step : s.subEvents k old (e :: es) = (s.subEvent k old e).subEvents k old es := rfl
    rw [step, ih]
    cases e with
    | install => simp [State.subEvent, halfHour, SubEvent.everySecond]
    | activation => simp [State.subEvent, inside, SubEvent.everySecond]
    | emission => rfl
    | envelope => rfl
    | mode => rfl

/-- The parts of the event inside a minute. -/
theorem State.subEvents_inside {s : State} (before : k.before = s.pst.workingLimits) (old : Bool) (free : Nat) :
    ∃ b, s.subEvents k old (eventOrder free).order = (s.unitsSecond b).modeSecond s.pst.workingLimits := by
  have halfHour : isHalfHour k.time = false := by simp [isHalfHour, inside]
  have seen (b : Bool) : (if old then k.before else (s.unitsSecond b).limits) = s.pst.workingLimits := by
    split
    · exact before
    · simp [State.limits]
  rw [State.subEvents_everySecond inside]
  rcases eventOrder_everySecond free with order | order
  · refine ⟨true, ?_⟩
    rw [order, ← seen true]
    simp [State.subEvents, State.subEvent, State.emissionSecond, halfHour, State.unitsSecond]
  · refine ⟨false, ?_⟩
    rw [order, ← seen false]
    simp [State.subEvents, State.subEvent, State.emissionSecond, halfHour, State.unitsSecond]

end Inside

/-- A second event inside a minute: the two units' work and the mode controller's, on a state that the ledger may have met first. -/
theorem State.secondEvent_inside {s : State} (inside : s.clock.time.second < 59) :
    ∃ v b, SameUnits s v ∧ SameUnits ((v.unitsSecond b).modeSecond s.pst.workingLimits) s.secondEvent
      ∧ PortsGrow ((v.unitsSecond b).modeSecond s.pst.workingLimits) s.secondEvent := by
  have minute := isMinute_advance_of_inside inside
  have ticked := SameUnits.secondTicked s
  obtain ⟨k, free, time, before, second⟩ : ∃ (k : EventKind) (free : Nat), k.time = advance s.clock.time ∧ k.before = s.pst.workingLimits
      ∧ s.secondEvent = s.secondTicked.blocksSecond k (eventOrder free) := ⟨_, _, rfl, rfl, rfl⟩
  rw [← time] at minute
  rw [second, State.blocksSecond]
  split
  · have same := ticked.trans (.ledgerSecond _)
    obtain ⟨b, parts⟩ := State.subEvents_inside minute (s := s.secondTicked.ledgerSecond) (by rw [before, same.pst])
      (eventOrder free).modeSeesOld free
    rw [same.pst] at parts
    refine ⟨s.secondTicked.ledgerSecond, b, same, ?_, ?_⟩
    · rw [parts]
      exact ⟨rfl, rfl, rfl, rfl, rfl, rfl, rfl⟩
    · rw [parts]
      exact PortsGrow.refl _
  · obtain ⟨b, parts⟩ := State.subEvents_inside minute (s := s.secondTicked) (by rw [before, ticked.pst])
      (eventOrder free).modeSeesOld free
    rw [ticked.pst] at parts
    refine ⟨s.secondTicked, b, ticked, ?_, ?_⟩
    · rw [parts]
      exact .ledgerSecond _
    · rw [parts]
      exact (PortsGrow.refl _).ledgerSecond

/-! ## The emission unit's second (R47, R48, R56) -/

/-- The unit's items one second older, the open period marked where the plant fires. -/
def State.agedEau (s : State) : Emission :=
  { s.eau with
    sampleAge := satAdd 65535 1 s.eau.sampleAge
    period := s.eau.period.map fun p => { p with fired := p.fired || s.plantMode == .firing } }

/-- The condition does not begin: outside FIRING, with fresh samples, or on already. -/
theorem State.emissionAge_aged {s : State}
    (same : s.mode.mode ≠ .firing ∨ samplesStale s.pst.workingLimits (satAdd 65535 1 s.eau.sampleAge) = false ∨ s.eau.staleInFiring = true) :
    s.emissionAge = s.setEau s.agedEau := by
  rw [State.emissionAge]
  dsimp only
  rw [if_neg]
  · rfl
  · rintro ⟨firing, stale, off⟩
    rcases same with left | fresh | on
    · exact left firing
    · exact Bool.false_ne_true (fresh.symm.trans stale)
    · exact Bool.false_ne_true (off.symm.trans on)

/-- The condition begins. -/
theorem State.emissionAge_begins {s : State} (firing : s.mode.mode = .firing)
    (stale : samplesStale s.pst.workingLimits (satAdd 65535 1 s.eau.sampleAge) = true) (off : s.eau.staleInFiring = false) :
    s.emissionAge = (s.setEau s.agedEau).beginStale := by
  rw [State.emissionAge]
  dsimp only
  rw [if_pos ⟨firing, stale, off⟩]
  rfl

/-! ## The envelope's second (R82, R86) -/

/-- The envelope with its effective cap one second nearer the computed cap, and the terms formed again. -/
def recovered (mode : Mode) (lim : Option Limits) (e : Envelope) : Envelope :=
  retargeted mode { e with effectiveCap := recoveredCap lim e }

theorem State.envelopeSecond_feu (s : State) :
    s.envelopeSecond.feu = { recovered s.mode.mode s.pst.workingLimits s.feu with
      grant := rampedGrant s.pst.workingPlant (recovered s.mode.mode s.pst.workingLimits s.feu) } := by
  simp [State.envelopeSecond, recovered, State.plant, State.limits]

/-- The effective cap only rises at a second. -/
theorem recoveredCap_ge (lim : Option Limits) (e : Envelope) : e.effectiveCap ≤ recoveredCap lim e := by
  unfold recoveredCap
  split
  · split <;> omega
  · exact Nat.le_refl _

/-- A grant at most the target is not cut by the cap's rise. -/
theorem recovered_grant {mode : Mode} {lim : Option Limits} {e : Envelope} (law : e.grant ≤ targetOf mode e) :
    (recovered mode lim e).grant = e.grant := by
  have rises := recoveredCap_ge lim e
  simp only [recovered, retargeted, targetOf] at law ⊢
  split at law <;> simp only [*, if_true, if_false] <;> omega

/-- The array takes the one grant that the envelope's second hands it. -/
theorem State.envelopeSecond_sta {s : State} (law : s.feu.grant ≤ targetOf s.mode.mode s.feu) :
    s.envelopeSecond.sta = if s.envelopeSecond.feu.grant = s.feu.grant then s.sta
      else takeGrant s.mode.mode s.pst.workingPlant s.envelopeSecond.feu.grant s.sta := by
  have same := recovered_grant (lim := s.pst.workingLimits) law
  have kept : min s.feu.grant (targetOf s.mode.mode { s.feu with effectiveCap := recoveredCap s.pst.workingLimits s.feu }) = s.feu.grant := same
  rw [State.envelopeSecond_feu]
  simp [State.envelopeSecond, State.handGrant_sta, State.retarget_sta, State.plantMode, State.plant, State.limits, kept, retargeted,
    recovered]

/-! ## The two units' second where the condition does not begin -/

section Aged

variable {s : State} (b : Bool) (law : s.feu.grant ≤ targetOf s.mode.mode s.feu)
  (same : s.mode.mode ≠ .firing ∨ samplesStale s.pst.workingLimits (satAdd 65535 1 s.eau.sampleAge) = false ∨ s.eau.staleInFiring = true)
include law same

/-- Each unit does its work, whichever is first. -/
theorem State.unitsSecond_aged : (s.unitsSecond b).eau = s.agedEau ∧ (s.unitsSecond b).feu = s.envelopeSecond.feu
    ∧ (s.unitsSecond b).sta = s.envelopeSecond.sta := by
  unfold State.unitsSecond
  split
  · rw [State.emissionAge_aged same]
    refine ⟨by simp, ?_, ?_⟩
    · rw [State.envelopeSecond_feu, State.envelopeSecond_feu]
      rfl
    · rw [State.envelopeSecond_sta law, State.envelopeSecond_sta (s := s.setEau s.agedEau) law, State.envelopeSecond_feu,
        State.envelopeSecond_feu]
      rfl
  · rw [State.emissionAge_aged (s := s.envelopeSecond) (by simpa using same)]
    refine ⟨?_, rfl, rfl⟩
    simp [State.agedEau, State.plantMode]

end Aged

end Sys2Proof.Machine
end

section
/-! SUPPORT and CERTIFICATE. FEED, and the second event in WARMING and HOLD (R21, R23, R26, R28). -/

namespace Sys2Proof.Machine

/-! ## FEED (R26) -/

/-- An accepted FEED: the feed armed and the entry check, the reply in its slot. -/
theorem exec_feed_taken {s : State} (ready : Ready .pf s) (warming : s.mode.mode = .warming) :
    exec (.feed .pf) s = .next (((s.replied .pf (.plain .ok)).setMode { s.mode with feedArmed := true }).entryCheck) := by
  have done : (s.beginTake .pf).doFeed .pf = ((s.beginTake .pf).armFeed, .plain .ok) := by
    simp [State.doFeed, State.plantMode, warming]
  rw [exec_ready rfl ready rfl done]
  simp [State.armFeed]

/-- The array of a plant in WARMING fires: each enabled channel that is not JAMMED starts its cycle or waits, and the others stay (R97). -/
theorem takeMode_firing_of_still {pl : Option Plant} {a : StrokeArray} {ch : StrokeChannel}
    (still : (a.channels.get ch).state = .off ∨ (a.channels.get ch).state = .jammed) :
    let r := a.channels.get ch
    let x := (takeMode .firing pl a).channels.get ch
    (r.state ≠ .jammed → r.enabled = true → x.counter = 0 ∧ x.preload = none ∧ x.state = if mustWait a ch r then .wait else .dwell)
      ∧ (r.state = .jammed ∨ r.enabled = false → x = r) := by
  intro r x
  have gate : x = gateChannel .firing pl a ch r := takeMode_channel _ _ _ _
  refine ⟨fun free on => ?_, fun rests => ?_⟩
  · have starts : x = activate .firing pl a ch r := by
      rw [gate]
      simp [gateChannel, still.resolve_right free, r, on]
    obtain ⟨started, state, -⟩ := activate_started .firing pl a ch r
    rw [starts, started]
    refine ⟨rfl, rfl, ?_⟩
    simp only [state, mustWait_iff]
  · rw [gate]
    rcases rests with jammed | disabled
    · simp [gateChannel, jammed]
    · rcases still with off | jammed
      · simp [gateChannel, r, off, disabled]
      · simp [gateChannel, r, jammed]

/-- A plant in WARMING fires (R26, R48, R84, R87, R97). -/
theorem firesFromWarming {s : State} {l : Limits} (law : GrantLaw s) (strokes : StrokeLaw s) (warming : s.mode.mode = .warming)
    (limits : s.pst.workingLimits = some l) :
    let t := s.goTo .firing
    (s.eau.sampleAge < l.sampleStale → t.feu.effectiveCap = s.feu.effectiveCap)
      ∧ (l.sampleStale ≤ s.eau.sampleAge → s.eau.staleInFiring = false →
          t.feu.computedCap = l.floor ∧ t.feu.effectiveCap = min s.feu.effectiveCap l.floor ∧ t.holds .pf .sampleStale = true
            ∧ t.holds .pg .sampleStale = true)
      ∧ (∀ ch, (s.sta.channels.get ch).state ≠ .jammed → (s.sta.channels.get ch).enabled = true →
          (t.sta.channels.get ch).counter = 0 ∧ (t.sta.channels.get ch).preload = none
            ∧ (t.sta.channels.get ch).state = if mustWait s.sta ch (s.sta.channels.get ch) then .wait else .dwell)
      ∧ (∀ ch, (s.sta.channels.get ch).state = .jammed ∨ (s.sta.channels.get ch).enabled = false →
          t.sta.channels.get ch = s.sta.channels.get ch) := by
  have left : s.mode.mode ≠ .firing := by simp [warming]
  have stale := samplesStale_eq limits
  obtain ⟨-, -, sta, -⟩ := goTo_firing_effect law left
  have still (ch : StrokeChannel) := strokes.still (allowed_of_closed (.inr (.inl warming)) ch)
  refine ⟨fun fresh => ?_, fun old off => ?_, fun ch => ?_, fun ch => ?_⟩
  · rw [State.goTo, State.changeMode_firing_feu_same left rfl (.inl (by rw [stale]; simpa using fresh))]
    rfl
  · obtain ⟨-, computed, effective, -, -, pf, pg⟩ := entersFiring_stale law left limits (by rw [stale]; simpa using old) off
    exact ⟨computed, effective, pf, pg⟩
  · rw [sta]
    exact (takeMode_firing_of_still (still ch)).1
  · rw [sta]
    exact (takeMode_firing_of_still (still ch)).2

/-! ## The second event in WARMING and HOLD (R21, R23, R26, R28) -/

/-- The controller's items after a second event in WARMING or HOLD, under a LIMITS copy. -/
def secondItems (l : Limits) (m : ModeCtl) : ModeCtl :=
  let tempAge := min 65535 (m.tempAge + 1)
  let stale := m.temp = none ∨ l.tempStale ≤ tempAge
  let hot := ∃ v ∈ m.temp.toList, l.tmin ≤ v
  { m with
    tempAge := tempAge, timer := if stale then 0 else if hot then min 60 (m.timer + 1) else m.timer
    causes := if m.mode = .hold ∧ stale then { m.causes with tempStale := true } else m.causes }

theorem tempStale_iff (l : Limits) (m : ModeCtl) : tempStale (some l) m = true ↔ m.temp = none ∨ l.tempStale ≤ m.tempAge := by
  unfold tempStale
  cases m.temp <;> simp

/-- The timer as the event leaves it (R23). -/
theorem qualify_timer (l : Limits) (m : ModeCtl) : qualify (some l) m = { m with
    timer := if m.temp = none ∨ l.tempStale ≤ m.tempAge then 0
      else if ∃ v ∈ m.temp.toList, l.tmin ≤ v then min 60 (m.timer + 1) else m.timer } := by
  unfold qualify
  by_cases stale : tempStale (some l) m = true
  · rw [if_pos stale, if_pos ((tempStale_iff l m).1 stale)]
  · have kept := mt (tempStale_iff l m).2 stale
    rw [if_neg stale, if_neg kept]
    obtain ⟨v, temp⟩ := Option.ne_none_iff_exists'.1 fun none => kept (.inl none)
    by_cases hot : l.tmin ≤ v
    · simp [tempFreshAtLeast, stale, temp, hot, satAdd]
    · simp [tempFreshAtLeast, stale, temp, hot]
      rw [← temp]

/-- The controller's second event in WARMING and HOLD. -/
theorem modeSecond_counting {u : State} {l : Limits} (counts : u.mode.mode = .warming ∨ u.mode.mode = .hold)
    (limits : u.pst.workingLimits = some l) :
    u.modeSecond (some l) = (u.setMode (secondItems l u.mode)).entryCheck := by
  have check (x : State) (same : x.pst = u.pst) : x.entryCheckWith (some l) = x.entryCheck := by
    rw [State.entryCheck, State.limits, same, limits]
  let aged : ModeCtl := { u.mode with tempAge := satAdd 65535 1 u.mode.tempAge }
  rcases counts with warming | hold
  · have items : qualify (some l) aged = secondItems l u.mode := by
      rw [qualify_timer]
      simp [aged, secondItems, warming, satAdd]
    have second : u.modeSecond (some l) = (u.setMode (qualify (some l) aged)).entryCheckWith (some l) := by
      rw [State.modeSecond, show u.plantMode = .warming from warming]
    rw [second, items]
    exact check _ rfl
  · have items : qualify (some l) { aged with
        causes := { aged.causes with tempStale := aged.causes.tempStale || tempStale (some l) aged } } = secondItems l u.mode := by
      rw [qualify_timer]
      by_cases stale : aged.temp = none ∨ l.tempStale ≤ aged.tempAge
      · have here : u.mode.temp = none ∨ l.tempStale ≤ min 65535 (u.mode.tempAge + 1) := stale
        have old : tempStale (some l) aged = true := (tempStale_iff l aged).2 stale
        simp only [old, Bool.or_true, secondItems]
        rw [if_pos stale, if_pos (And.intro hold here), if_pos here]
        rfl
      · have here : ¬ (u.mode.temp = none ∨ l.tempStale ≤ min 65535 (u.mode.tempAge + 1)) := stale
        have fresh : tempStale (some l) aged = false := Bool.eq_false_iff.2 (mt (tempStale_iff l aged).1 stale)
        simp only [fresh, Bool.or_false, secondItems]
        rw [if_neg stale, if_neg (not_and_of_not_right _ here), if_neg here]
        rfl
    have second : u.modeSecond (some l) = (u.setMode (qualify (some l) { aged with
        causes := { aged.causes with tempStale := aged.causes.tempStale || tempStale (some l) aged } })).entryCheckWith (some l) := by
      rw [State.modeSecond, show u.plantMode = .hold from hold]
    rw [second, items]
    exact check _ rfl

/-- The two units' second in a mode that feeds nothing: the ages, and the effective cap's rise. -/
theorem unitsSecond_idle {s : State} (b : Bool) (law : GrantLaw s) (left : s.mode.mode ≠ .firing) :
    (s.unitsSecond b).eau = s.agedEau ∧ (s.unitsSecond b).feu = { s.feu with effectiveCap := recoveredCap s.pst.workingLimits s.feu }
      ∧ (s.unitsSecond b).sta = s.sta ∧ GrantLaw (s.unitsSecond b) := by
  obtain ⟨grant, target⟩ := grant_zero law left
  obtain ⟨request, -, limiting, -, array⟩ := law
  rw [limitingFlag_not_firing left] at limiting
  have low : s.feu.grant ≤ targetOf s.mode.mode s.feu := by rw [grant]; exact Nat.zero_le _
  obtain ⟨eau, feu, sta⟩ := State.unitsSecond_aged b low (.inl left)
  have risen : s.envelopeSecond.feu = { s.feu with effectiveCap := recoveredCap s.pst.workingLimits s.feu } := by
    rw [State.envelopeSecond_feu]
    cases plant : s.pst.workingPlant <;>
      simp [recovered, retargeted, targetOf_not_firing left, limitingFlag_not_firing left, rampedGrant, grant, target, limiting]
  have same : s.envelopeSecond.sta = s.sta := by rw [State.envelopeSecond_sta low, if_pos (by rw [risen])]
  refine ⟨eau, feu.trans risen, sta.trans same, ?_, ?_, ?_, ?_, ?_⟩
  · rw [feu, risen]
    simpa using request
  · rw [feu, risen, targetOf_not_firing (by simpa using left)]
    exact target
  · rw [feu, risen, limitingFlag_not_firing (by simpa using left)]
    exact limiting
  · rw [feu, risen, grant]
    exact Nat.zero_le _
  · rw [feu, risen, sta, same]
    exact array

/-- A plant in WARMING or HOLD, its units' second taken, meets the entry check. -/
theorem secondFires {s x t : State} {l : Limits} (law : GrantLaw x) (left : x.mode.mode ≠ .firing) (limits : x.pst.workingLimits = some l)
    (eau : x.eau = s.agedEau) (same : SameUnits (x.goTo .firing) t) (grow : PortsGrow (x.goTo .firing) t) :
    (t.eau.staleInFiring = true ↔ s.eau.staleInFiring = true ∨ l.sampleStale ≤ min 65535 (s.eau.sampleAge + 1))
      ∧ (l.sampleStale ≤ min 65535 (s.eau.sampleAge + 1) → s.eau.staleInFiring = false →
          t.feu.computedCap = l.floor ∧ t.holds .pf .sampleStale = true ∧ t.holds .pg .sampleStale = true) := by
  have age : x.eau.sampleAge = min 65535 (s.eau.sampleAge + 1) := by rw [eau]; rfl
  have on : x.eau.staleInFiring = s.eau.staleInFiring := by rw [eau]; rfl
  have stale := samplesStale_eq limits
  rw [age] at stale
  refine ⟨?_, fun old off => ?_⟩
  · rw [same.eau, State.goTo, State.changeMode_firing_eau left rfl, age, stale, on]
    simp
  · obtain ⟨-, cap, -, -, -, pf, pg⟩ := entersFiring_stale law left limits (by rw [age, stale]; simpa using old) (by rw [on, off])
    exact ⟨by rw [same.feu, cap], grow.holds pf, grow.holds pg⟩

/-- Settles O27: FEED's checks and what it does in WARMING, and the second event in WARMING and HOLD with the entry check after it. -/
theorem feedArmsAndFires : Obligations.FeedArmsAndFires := by
  unfold Obligations.FeedArmsAndFires
  refine ⟨fun s ready => ⟨fun other => ?_, fun l warming limits barred => ?_, fun l warming limits dwell available rams law strokes => ?_⟩,
    fun l s running inside limits counts law => ?_⟩
  · have done : (s.beginTake .pf).doFeed .pf = (s.beginTake .pf, .plain .state) := by simp [State.doFeed, State.plantMode, other, refuse]
    simpa using exec_ready rfl ready rfl done
  · rw [exec_feed_taken ready warming, State.entryCheck_unmet]
    rintro ⟨l', limits', counted, met⟩
    have copy : l' = l := by simpa [limits] using limits'
    subst copy
    rcases met with ⟨-, -, cleaning, feeds⟩ | ⟨hold, -⟩
    · rcases barred with h | h | h
      · exact absurd counted (Nat.not_le.2 h)
      · cases h.symm.trans cleaning
      · exact absurd feeds (by simp [h])
    · cases warming.symm.trans hold
  · let x := (s.replied .pf (.plain .ok)).setMode { s.mode with feedArmed := true }
    have here : x.mode.mode = .warming := warming
    have lawful : GrantLaw x := by simpa [GrantLaw, x] using law
    have still : StrokeLaw x := by simpa [StrokeLaw, x] using strokes
    have copy : x.pst.workingLimits = some l := by simpa [x] using limits
    have met : EntryMet x.pst.workingLimits x.mode := ⟨l, by simp [copy], dwell, .inl ⟨warming, rfl, available, rams⟩⟩
    have enters : EntersFiring l x (x.goTo .firing) := entersFiring_of lawful still (by rw [here]; nofun) copy
    have ⟨mode, eau, _, _, target, grant, _, _, _, _, notices, _, _, slg, _, pst⟩ := enters
    obtain ⟨fresh, stale, starts, stays⟩ := firesFromWarming lawful still here copy
    refine ⟨x.goTo .firing, ?_, ?_, enters, mode, ?_, ?_, ?_, ?_, grant, ?_, ?_,
      fun p => notices p (by cases p <;> decide), ?_, ?_, ?_, ?_⟩
    · rw [exec_feed_taken ready warming, State.entryCheck_met met]
    · rw [((PortsGrow.refl x).goTo _).slot]
      exact State.replied_slot .pf (.plain .ok) s
    · simpa [x] using eau
    · simpa [x] using fresh
    · simpa [x] using stale
    · simpa [x] using target
    · simpa [x] using starts
    · simpa [x] using stays
    · simp [x]
    · simp [slg, x]
    · simp [x]
    · simp [pst, x]
  · obtain ⟨v, b, before, after, grow⟩ := State.secondEvent_inside inside
    have left : s.mode.mode ≠ .firing := by rcases counts with h | h <;> simp [h]
    obtain ⟨eau, feu, sta, lawful⟩ := unitsSecond_idle b (before.grantLaw law) (by rwa [before.mode])
    generalize hu : v.unitsSecond b = u at *
    have mode : u.mode = s.mode := by rw [← hu]; simpa using before.mode
    have pst : u.pst = s.pst := by rw [← hu]; simpa using before.pst
    have fmu : u.fmu = s.fmu := by rw [← hu]; simpa using before.fmu
    have aged : u.eau = s.agedEau := by rw [eau]; simp [State.agedEau, State.plantMode, before.eau, before.mode]
    rw [before.sta] at sta
    rw [before.feu] at feu
    rw [limits, modeSecond_counting (by rwa [mode]) (by rw [pst, limits]), mode] at after grow
    let x := u.setMode (secondItems l s.mode)
    have lawful' : GrantLaw x := by simpa [GrantLaw, x, mode, secondItems] using lawful
    have copy : x.pst.workingLimits = some l := by simp [x, pst, limits]
    have still : x.mode.mode ≠ .firing := left
    obtain ⟨zero, target⟩ := grant_zero lawful' still
    by_cases met : EntryMet (some l) (secondItems l s.mode)
    · rw [State.entryCheck_met (by rw [copy]; exact met)] at after grow
      obtain ⟨xmode, xeau, xsta, xtarget, xgrant, notices, -, -, xfmu, xpst⟩ := goTo_firing_effect lawful' still
      obtain ⟨condition, begins⟩ := secondFires (s := s) lawful' still copy aged after grow
      refine ⟨s.secondEvent, exec_secondEvent_running running, ?_, ?_, ?_, ?_, ?_, fun unmet => absurd met unmet, fun _ => ⟨?_, ?_,
        fun p => grow.holds (notices p), ?_, fun strokes ch mem => channelFired_of left (strokes ch mem) ?_, condition, begins⟩⟩
      · rw [after.eau, xeau]
        simp [x, aged, State.agedEau]
      · rw [after.fmu, xfmu]
        exact fmu
      · rw [after.pst, xpst]
        exact pst
      · rw [after.feu, xgrant]
      · rw [after.sta, xsta]
        have array := lawful'.grantHeld
        exact array.trans zero
      · rw [after.mode, xmode]
        rfl
      · rw [after.feu, xtarget]
        simp [x, feu]
      · rw [after.sta, xsta]
        simp [x, sta, takeMode]
      · rw [after.sta, xsta, takeMode_channel]
        simp [x, sta, pst]
    · rw [State.entryCheck_unmet (by rw [copy]; exact met)] at after grow
      refine ⟨s.secondEvent, exec_secondEvent_running running, ?_, ?_, ?_, ?_, ?_, fun _ => ⟨after.mode, ?_, ?_, ?_⟩,
        fun h => absurd h met⟩
      · rw [after.eau]
        simp [aged, State.agedEau]
      · rw [after.fmu]
        exact fmu
      · rw [after.pst]
        exact pst
      · rw [after.feu]
        exact zero
      · rw [after.sta]
        exact lawful'.grantHeld.trans zero
      · rw [after.feu]
        exact target
      · rw [after.sta]
        exact sta
      · rw [after.eau]
        simp [aged, State.agedEau]

end Sys2Proof.Machine
end

section
/-! SUPPORT and CERTIFICATE. A second event of a plant that fires, inside a minute (R21, R48, R82, R86). -/

namespace Sys2Proof.Machine

/-! ## What the two units' second leaves in every case -/

theorem GrantHeld.envelopeSecond {s : State} (h : GrantHeld s) : GrantHeld s.envelopeSecond := by
  have terms : GrantHeld (s.setFeu { s.feu with effectiveCap := recoveredCap s.limits s.feu }).retarget := GrantHeld.retarget (s := s.setFeu _) h
  unfold State.envelopeSecond
  dsimp only
  rw [GrantHeld, State.handGrant_sta]
  split
  · next same =>
    simp only [State.setFeu_feu] at same
    simp only [State.handGrant_frame, State.setFeu_feu, same]
    exact terms
  · simp

theorem GrantHeld.beginStale {s : State} (h : GrantHeld s) : GrantHeld s.beginStale := by
  have cut : GrantHeld (s.setEau { s.eau with staleInFiring := true }).recompute := (h.setEau _).recompute
  exact (cut.post _ _).post _ _

theorem GrantHeld.emissionAge {s : State} (h : GrantHeld s) : GrantHeld s.emissionAge := by
  dsimp only [State.emissionAge]
  split
  · exact (h.setEau _).beginStale
  · exact h

theorem State.emissionAge_kept (s : State) : s.emissionAge.eau.accounts = s.eau.accounts ∧ s.emissionAge.feu.request = s.feu.request
    ∧ s.emissionAge.feu.boilerLimit = s.feu.boilerLimit := by
  dsimp only [State.emissionAge]
  split <;> simp [State.beginStale_feu, retargeted, recomputed]

/-- The accounts, the request and the boiler limit stay, and the array is handed grants alone. -/
theorem State.unitsSecond_kept (b : Bool) {s : State} (held : GrantHeld s) :
    (s.unitsSecond b).eau.accounts = s.eau.accounts ∧ (s.unitsSecond b).feu.request = s.feu.request
      ∧ (s.unitsSecond b).feu.boilerLimit = s.feu.boilerLimit ∧ GrantHeld (s.unitsSecond b) ∧ GrantsHanded s.sta (s.unitsSecond b).sta := by
  unfold State.unitsSecond
  split
  · obtain ⟨accounts, request, boiler⟩ := s.emissionAge_kept
    refine ⟨by simp [accounts], ?_, ?_, held.emissionAge.envelopeSecond, ((GrantsHanded.refl _).emissionAge).envelopeSecond⟩
    · simp [State.envelopeSecond_feu, recovered, retargeted, request]
    · simp [State.envelopeSecond_feu, recovered, retargeted, boiler]
  · obtain ⟨accounts, request, boiler⟩ := s.envelopeSecond.emissionAge_kept
    refine ⟨by simp [accounts], ?_, ?_, held.envelopeSecond.emissionAge, ((GrantsHanded.refl _).envelopeSecond).emissionAge⟩
    · simp [State.envelopeSecond_feu, recovered, retargeted, request]
    · simp [State.envelopeSecond_feu, recovered, retargeted, boiler]

/-! ## The temperature goes stale (R21, R27) -/

/-- The controller's second event in FIRING. -/
theorem modeSecond_firing {u : State} {l : Limits} (firing : u.mode.mode = .firing) :
    u.modeSecond (some l) =
      if u.mode.temp = none ∨ l.tempStale ≤ min 65535 (u.mode.tempAge + 1) then
        (u.setMode { u.mode with tempAge := min 65535 (u.mode.tempAge + 1) }).goHold onlyTempStale
      else u.setMode { u.mode with tempAge := min 65535 (u.mode.tempAge + 1) } := by
  rw [State.modeSecond, show u.plantMode = .firing from firing]
  exact if_congr (tempStale_iff _ _) rfl rfl

/-- An entry into HOLD after grants of the same event: the feed ends as from the state before them. -/
theorem goHold_feedEnds {s u : State} (c : HoldCauses) (handed : GrantsHanded s.sta u.sta) (pst : u.pst = s.pst) (held : GrantHeld u) :
    FeedEnds s (u.goHold c) := by
  let m : ModeCtl := { enterMode .hold u.mode with causes := c }
  obtain ⟨-, -, -, -, store⟩ := State.goHold_kept c u
  have copy : (u.goHold c).pst = s.pst := store.trans pst
  have released : (u.entering m).releaseHeldPlant = u.entering m := State.releaseHeldPlant_kept (by simp [m, enterMode])
  have array : GrantsHanded s.sta (u.modeDelivered m).sta := by
    rw [State.modeDelivered, released]
    exact (GrantsHanded.emissionMode (s := u.entering m) (by simpa using handed) _).retarget
  have kept : (s.pst.heldPlant.isSome && (u.goHold c).pst.heldPlant.isNone) = false := by
    rw [copy]
    cases s.pst.heldPlant <;> rfl
  have sta : (u.goHold c).sta = takeMode .hold (u.goHold c).pst.workingPlant (u.modeDelivered m).sta := State.changeMode_sta m u
  refine ⟨?_, fun ch ram => ?_, fun pl plant ch _ grate => ?_⟩
  · rw [sta]
    exact grantDropped_of (array.copyHanded _) (State.modeDelivered_grant (m := m) nofun held)
  · have isARam : isRam ch = true := by
      simp only [List.mem_cons, List.not_mem_nil, or_false] at ram
      rcases ram with rfl | rfl <;> rfl
    rw [sta, takeMode_channel]
    exact deactivated_of_gate (array.channel ch) (by simp [active, allowed, isARam])
  · rw [kept, sta, takeMode_channel, Option.mem_toList.1 plant]
    exact grateRunsOn_of_gate grate (.inl rfl) (array.copyHanded (some pl))

/-- The envelope's terms at an entry into HOLD. -/
theorem goHold_terms (c : HoldCauses) (u : State) :
    (u.goHold c).feu.request = u.feu.request ∧ (u.goHold c).feu.boilerLimit = u.feu.boilerLimit := by
  let m : ModeCtl := { enterMode .hold u.mode with causes := c }
  obtain ⟨-, feu, -, -⟩ := State.changeMode_blocks m u
  have released : (u.entering m).releaseHeldPlant = u.entering m := State.releaseHeldPlant_kept (by simp [m, enterMode])
  rw [State.goHold, feu, State.modeDelivered, released]
  simp [retargeted]

/-! ## The samples go stale (R48) -/

/-- The emission unit's items at the second at which the condition begins. -/
def State.staleEau (s : State) : Emission := { s.agedEau with staleInFiring := true }

/-- The envelope as the condition's begin leaves it in FIRING. -/
def cutToFloor (lim : Option Limits) (em : Emission) (e : Envelope) : Envelope := retargeted .firing (recomputed lim em e)

/-- The target under the cap F. -/
def floorTarget (l : Limits) (e : Envelope) : Nat := min (min e.request l.floor) e.boilerLimit

theorem cutToFloor_eq {l : Limits} {em : Emission} {e : Envelope} (on : em.staleInFiring = true) (law : l.floor ≤ e.effectiveCap) :
    let x := cutToFloor (some l) em e
    x.computedCap = l.floor ∧ x.effectiveCap = l.floor ∧ x.target = floorTarget l e ∧ x.grant = min e.grant (floorTarget l e)
      ∧ x.request = e.request ∧ x.boilerLimit = e.boilerLimit ∧ x.figures = capFigures (some l) em
      ∧ x.capping = cappingOf x.figures em x.computedCap ∧ x.demand = demandsOf (some l) em := by
  have cap : computedCapOf (some l) em = l.floor := computedCapOf_stale on
  simp [cutToFloor, retargeted, recomputed, targetOf, floorTarget, cap, Nat.min_eq_right law]

/-- The grant a second later: up by at most the ramp, or down to a lower target. -/
def grantFor (pl : Plant) (grant target : Nat) : Nat := if target ≤ grant then target else min target (grant + pl.grantRamp)

theorem emissionAge_cut {s : State} {l : Limits} (firing : s.mode.mode = .firing) (limits : s.pst.workingLimits = some l)
    (stale : l.sampleStale ≤ min 65535 (s.eau.sampleAge + 1)) (off : s.eau.staleInFiring = false) :
    s.emissionAge = (s.setEau s.agedEau).beginStale ∧ s.emissionAge.eau = s.staleEau
      ∧ s.emissionAge.feu = cutToFloor (some l) s.staleEau s.feu
      ∧ s.emissionAge.sta = (if s.emissionAge.feu.grant = s.feu.grant then s.sta
          else takeGrant .firing s.pst.workingPlant s.emissionAge.feu.grant s.sta) := by
  have begins := State.emissionAge_begins firing (by rw [limits]; simpa [samplesStale, satAdd] using stale) off
  have feu : s.emissionAge.feu = cutToFloor (some l) s.staleEau s.feu := by
    rw [begins, State.beginStale_feu]
    simp [firing, limits, cutToFloor, State.staleEau]
  refine ⟨begins, ?_, feu, ?_⟩
  · rw [begins]
    simp [State.staleEau]
  · rw [feu, begins]
    simp [State.beginStale, State.recompute_sta, firing, limits, State.limits, State.plant, cutToFloor, retargeted, recomputed,
      State.staleEau]

/-- The array is handed one last grant, after another one of the same event at most. -/
def LastHanded (pl : Plant) (grant : Nat) (a b : StrokeArray) : Prop :=
  ∃ c, (c = a ∨ ∃ g, c = takeGrant .firing (some pl) g a) ∧ b = takeGrant .firing (some pl) grant c

/-- The array follows the grant's change in one step. -/
def OnceHanded (pl : Plant) (old grant : Nat) (a b : StrokeArray) : Prop :=
  b = if grant = old then a else takeGrant .firing (some pl) grant a

theorem OnceHanded.last {pl : Plant} {old grant : Nat} {a b : StrokeArray} (h : OnceHanded pl old grant a b) (changed : grant ≠ old) :
    LastHanded pl grant a b := ⟨a, .inl rfl, by rw [h, if_neg changed]⟩

theorem OnceHanded.follows {s t : State} {pl : Plant} (h : OnceHanded pl s.feu.grant t.feu.grant s.sta t.sta) (firing : t.mode.mode = .firing)
    (plant : t.pst.workingPlant = some pl) : GrantFollows s t := by
  refine ⟨fun same => by rw [h, if_pos same], fun changed pl' held => ?_⟩
  rw [plant, Option.mem_toList, Option.some.injEq] at held
  subst held
  rw [h, if_neg changed, firing]
  exact takeGrant_taken .firing pl t.feu.grant s.sta

theorem retargeted_retargeted (mode : Mode) (e : Envelope) : retargeted mode (retargeted mode e) = retargeted mode e := by
  simp [retargeted, targetOf, limitingFlag]

/-- An effective cap at the computed cap does not rise. -/
theorem recoveredCap_of_level {lim : Option Limits} {e : Envelope} (level : e.effectiveCap = e.computedCap) :
    recoveredCap lim e = e.effectiveCap := by
  cases lim <;> simp [recoveredCap, level]

/-- What the two units leave at the second at which the condition begins. -/
structure StaleBegun (l : Limits) (pl : Plant) (s u : State) : Prop where
  eau       : u.eau = s.staleEau
  formed    : FormedLaw u
  computed  : u.feu.computedCap = l.floor
  effective : u.feu.effectiveCap = l.floor
  target    : u.feu.target = floorTarget l s.feu
  grant     : u.feu.grant = grantFor pl s.feu.grant (floorTarget l s.feu)
  once      : min s.feu.request s.feu.boilerLimit ≤ l.floor → OnceHanded pl s.feu.grant u.feu.grant s.sta u.sta
  last      : u.feu.grant ≠ s.feu.grant → LastHanded pl u.feu.grant s.sta u.sta
  notices   : u.holds .pf .sampleStale = true ∧ u.holds .pg .sampleStale = true

section Begins

variable {s : State} {l : Limits} {pl : Plant} (firing : s.mode.mode = .firing) (limits : s.pst.workingLimits = some l)
  (plant : s.pst.workingPlant = some pl) (stale : l.sampleStale ≤ min 65535 (s.eau.sampleAge + 1)) (off : s.eau.staleInFiring = false)
  (law : GrantLaw s) (cap : CapLaw s)
include firing limits plant stale off law cap

/-- The emission unit first: the cap falls to F, the grant with it, and rises toward the target that is left. -/
theorem staleBegun_emissionFirst : StaleBegun l pl s s.emissionAge.envelopeSecond := by
  obtain ⟨-, -, floor, -⟩ := cap
  replace floor : l.floor ≤ s.feu.effectiveCap := floor l (by simp [limits])
  obtain ⟨begins, eau, feu, sta⟩ := emissionAge_cut firing limits stale off
  obtain ⟨computed, effective, target, grant, request, boiler, figures, capping, demand⟩ :=
    cutToFloor_eq (l := l) (em := s.staleEau) (e := s.feu) rfl floor
  have level : recovered .firing (some l) s.emissionAge.feu = s.emissionAge.feu := by
    rw [recovered, recoveredCap_of_level (by rw [feu, computed, effective]), feu]
    exact retargeted_retargeted .firing (recomputed (some l) s.staleEau s.feu)
  have risen : s.emissionAge.envelopeSecond.feu = { s.emissionAge.feu with grant := rampedGrant (some pl) s.emissionAge.feu } := by
    simp [State.envelopeSecond_feu, firing, limits, plant, level]
  have low : s.emissionAge.feu.grant ≤ targetOf s.emissionAge.mode.mode s.emissionAge.feu := by
    rw [feu, grant]
    simp [firing, targetOf, request, boiler, effective, floorTarget]
  have array := State.envelopeSecond_sta low
  have ramped : rampedGrant (some pl) s.emissionAge.feu = grantFor pl s.feu.grant (floorTarget l s.feu) := by
    rw [feu]
    simp only [rampedGrant, grantFor, grant, target]
    split <;> split <;> omega
  obtain ⟨pf, pg⟩ := State.holds_beginStale (s.setEau s.agedEau)
  have grow : PortsGrow (s.setEau s.agedEau).beginStale s.emissionAge.envelopeSecond := by
    rw [begins]
    exact (PortsGrow.refl _).envelopeSecond
  have once : OnceHanded pl s.feu.grant s.emissionAge.envelopeSecond.feu.grant s.sta s.emissionAge.envelopeSecond.sta := by
    have cut : s.emissionAge.feu.grant = min s.feu.grant (floorTarget l s.feu) := by rw [feu, grant]
    have grown : s.emissionAge.envelopeSecond.feu.grant = grantFor pl s.feu.grant (floorTarget l s.feu) := by rw [risen, ramped]
    rw [OnceHanded, array, sta, grown, cut]
    simp only [grantFor, State.emissionAge_frame, firing, plant]
    by_cases falls : floorTarget l s.feu ≤ s.feu.grant
    · simp [falls]
    · simp [falls, Nat.min_eq_left (Nat.le_of_not_le falls)]
  exact {
    eau := by simpa using eau
    formed := by
      simp only [FormedLaw, risen, feu, State.envelopeSecond_frame, State.emissionAge_frame, limits, eau]
      exact ⟨figures, computed.trans (computedCapOf_stale rfl).symm, capping, demand⟩
    computed := by rw [risen, feu, computed]
    effective := by rw [risen, feu, effective]
    target := by rw [risen, feu, target]
    grant := by rw [risen, ramped]
    once := fun _ => once
    last := once.last
    notices := ⟨grow.holds pf, grow.holds pg⟩ }

/-- The envelope first: the grant rises toward the target of the higher cap, and falls with the cap. -/
theorem staleBegun_envelopeFirst : StaleBegun l pl s s.envelopeSecond.emissionAge := by
  obtain ⟨-, -, floor, -⟩ := cap
  replace floor : l.floor ≤ s.feu.effectiveCap := floor l (by simp [limits])
  obtain ⟨-, formed, -, held, -⟩ := law
  rw [formed, firing] at held
  let x := recovered .firing (some l) s.feu
  have rises : s.feu.effectiveCap ≤ x.effectiveCap := recoveredCap_ge (some l) s.feu
  have xgrant : x.grant = s.feu.grant := recovered_grant held
  have xtarget : x.target = min (min s.feu.request x.effectiveCap) s.feu.boilerLimit := by simp [x, recovered, retargeted, targetOf]
  have before : s.envelopeSecond.feu = { x with grant := rampedGrant (some pl) x } := by
    rw [State.envelopeSecond_feu, firing, limits, plant]
  have array := State.envelopeSecond_sta (s := s) (by rwa [firing])
  obtain ⟨begins, eau, feu, sta⟩ := emissionAge_cut (s := s.envelopeSecond) (l := l) (by simpa using firing) (by simpa using limits)
    (by simpa using stale) (by simpa using off)
  have terms : floorTarget l s.envelopeSecond.feu = floorTarget l s.feu := by
    rw [before]
    rfl
  have same : s.envelopeSecond.staleEau = s.staleEau := by simp [State.staleEau, State.agedEau, State.plantMode]
  obtain ⟨computed, effective, target, grant, request, boiler, figures, capping, demand⟩ :=
    cutToFloor_eq (l := l) (em := s.staleEau) (e := s.envelopeSecond.feu) rfl (by rw [before]; exact floor.trans rises)
  rw [same] at feu eau
  rw [terms] at target grant
  have low : s.feu.grant ≤ x.target := by
    rw [xtarget]
    simp only [targetOf, if_pos] at held
    omega
  have ramped : s.envelopeSecond.feu.grant = if s.feu.grant < x.target then min x.target (s.feu.grant + pl.grantRamp) else s.feu.grant := by
    rw [before]
    simp only [rampedGrant, xgrant]
  have above : floorTarget l s.feu ≤ x.target := by
    rw [xtarget, floorTarget]
    omega
  obtain ⟨pf, pg⟩ := State.holds_beginStale (s.envelopeSecond.setEau s.envelopeSecond.agedEau)
  rw [firing, plant] at array
  simp only [State.envelopeSecond_frame, plant] at sta
  exact {
    eau := eau
    formed := by
      simp only [FormedLaw, feu, State.envelopeSecond_frame, State.emissionAge_frame, limits, eau]
      exact ⟨figures, computed.trans (computedCapOf_stale rfl).symm, capping, demand⟩
    computed := by rw [feu, computed]
    effective := by rw [feu, effective]
    target := by rw [feu, target]
    grant := by
      rw [feu, grant, ramped, grantFor]
      split <;> split <;> omega
    once := fun uncut => by
      have kept : s.envelopeSecond.emissionAge.feu.grant = s.envelopeSecond.feu.grant := by
        rw [feu, grant, ramped]
        unfold floorTarget
        split <;> omega
      rw [OnceHanded, sta, if_pos kept, array, kept]
    last := fun changed => by
      by_cases kept : s.envelopeSecond.emissionAge.feu.grant = s.envelopeSecond.feu.grant
      · rw [sta, if_pos kept, array, if_neg (by rwa [← kept]), ← kept]
        exact ⟨s.sta, .inl rfl, rfl⟩
      · rw [sta, if_neg kept, array]
        split
        · exact ⟨s.sta, .inl rfl, rfl⟩
        · exact ⟨_, .inr ⟨_, rfl⟩, rfl⟩
    notices := by
      rw [begins]
      exact ⟨pf, pg⟩ }

theorem staleBegun (b : Bool) : StaleBegun l pl s (s.unitsSecond b) := by
  cases b with
  | true => exact staleBegun_emissionFirst firing limits plant stale off law cap
  | false => exact staleBegun_envelopeFirst firing limits plant stale off law cap

end Begins

/-- The ledger's second beside it, and the controller's after it, leave what the two units did. -/
theorem StaleBegun.of_same {l : Limits} {pl : Plant} {s v u t : State} (h : StaleBegun l pl v u) (before : SameUnits s v) (eau : t.eau = u.eau)
    (feu : t.feu = u.feu) (sta : t.sta = u.sta) (pst : t.pst = u.pst) (grow : PortsGrow u t) : StaleBegun l pl s t := by
  obtain ⟨aged, formed, computed, effective, target, grant, once, last, pf, pg⟩ := h
  rw [before.feu] at target grant once last
  rw [before.sta] at once last
  refine ⟨?_, ?_, ?_, ?_, ?_, ?_, ?_, ?_, grow.holds pf, grow.holds pg⟩
  · rw [eau, aged]
    simp [State.staleEau, State.agedEau, State.plantMode, before.eau, before.mode]
  · simpa only [FormedLaw, eau, feu, pst] using formed
  all_goals simpa only [feu, sta]

/-! ## The channels after the last grant of the event (R106, R109, R110) -/

/-- The array after the last of one or two grants. -/
theorem LastHanded.effect {pl : Plant} {grant : Nat} {a b : StrokeArray} (h : LastHanded pl grant a b) :
    LaneLaw b ∧ b = { a with grant := b.grant, laneA := b.laneA, laneB := b.laneB, channels := b.channels } ∧ ∀ ch,
      let r := a.channels.get ch
      let x := b.channels.get ch
      let period := autoPeriod .firing pl b ch
      (r.source = .fixed ∨ r.state = .off ∨ r.state = .jammed → x = r)
        ∧ (r.source = .auto → (isRam ch = true → 50 ≤ laneGrant b ch) →
          (r.state = .dwell ∨ r.state = .stroke → x = { r with preload := some period })
          ∧ (r.state = .wait → x.state = .dwell ∧ x.counter = 0 ∧ x.preload.getD x.period = period ∧ x.limit = (timingOf pl ch).ls)) := by
  obtain ⟨c, first, rfl⟩ := h
  have second := takeGrant_handed .firing (some pl) grant c
  obtain ⟨-, taken⟩ := takeGrant_taken .firing pl grant c
  have handed : GrantsHanded a c := by
    rcases first with rfl | ⟨g, rfl⟩
    · exact .refl _
    · exact takeGrant_handed _ _ _ _
  have whole := handed.trans second
  refine ⟨relane_lanes _ _ _, whole.items, fun ch => ⟨fun rests => ?_, fun auto above => ?_⟩⟩
  · rcases rests with fixed | off | jammed
    · exact whole.fixed ch fixed
    · exact (whole.channel ch).eq_of_still (.inr off)
    · exact (whole.channel ch).eq_of_still (.inl jammed)
  · have between := handed.channel ch
    have step := taken ch (StrokeChannel.mem_all ch)
    obtain ⟨-, source, -, -, -⟩ := between.kept
    have runs : ¬ ((c.channels.get ch).source = .fixed ∨ (isRam ch = true ∧ laneGrant (takeGrant .firing (some pl) grant c) ch < 50)) := by
      rintro (fixed | ⟨ram, below⟩)
      · cases (source.trans auto).symm.trans fixed
      · exact absurd (above ram) (by omega)
    dsimp only at step
    rw [if_neg runs] at step
    refine ⟨fun cycles => ?_, fun waits => ?_⟩
    · have same := between.eq_of_cycling cycles
      have state : (c.channels.get ch).state = (a.channels.get ch).state := by rw [same]
      rw [if_neg (by rw [state]; rcases cycles with h | h <;> simp [h]), if_pos (by rwa [state])] at step
      rw [step, same]
    · have limitOf : c.channels.get ch = a.channels.get ch ∨ ∃ p, c.channels.get ch =
          { a.channels.get ch with state := .dwell, counter := 0, preload := none, period := p, limit := (timingOf pl ch).ls } := by
        rcases first with rfl | ⟨g, rfl⟩
        · exact .inl rfl
        · obtain ⟨-, before⟩ := takeGrant_taken .firing pl g a
          have start := before ch (StrokeChannel.mem_all ch)
          dsimp only at start
          rw [if_pos waits] at start
          split at start
          · exact .inl start
          · exact .inr ⟨_, start⟩
      rcases limitOf with same | ⟨p, released⟩
      · rw [same, if_pos waits] at step
        rw [step]
        exact ⟨rfl, rfl, rfl, rfl⟩
      · rw [released, if_neg nofun, if_pos (.inl rfl)] at step
        rw [step]
        exact ⟨rfl, rfl, rfl, rfl⟩

/-! ## The samples stay fresh, or the condition is on (R82, R84, R86) -/

/-- The envelope's second in FIRING: the cap, the target and the grant, and the array after the grant. -/
theorem envelopeSecond_rises {s : State} {l : Limits} {pl : Plant} (firing : s.mode.mode = .firing) (limits : s.pst.workingLimits = some l)
    (plant : s.pst.workingPlant = some pl) (law : GrantLaw s) :
    let cap := if s.feu.effectiveCap < s.feu.computedCap then min s.feu.computedCap (s.feu.effectiveCap + l.recovery)
      else s.feu.effectiveCap
    let target := min (min s.feu.request cap) s.feu.boilerLimit
    s.envelopeSecond.feu = { s.feu with
        effectiveCap := cap, target := target, grant := grantFor pl s.feu.grant target, limiting := s.envelopeSecond.feu.limiting }
      ∧ OnceHanded pl s.feu.grant s.envelopeSecond.feu.grant s.sta s.envelopeSecond.sta := by
  intro cap target
  obtain ⟨-, formed, -, held, -⟩ := law
  rw [formed, firing] at held
  have kept := recovered_grant (lim := some l) held
  have reached : (recovered .firing (some l) s.feu).target = target := by simp [recovered, retargeted, targetOf, recoveredCap, target, cap]
  have low : s.feu.grant ≤ target := by
    rw [← reached, ← kept]
    exact Nat.min_le_right _ _
  have ramped : rampedGrant (some pl) (recovered .firing (some l) s.feu) = grantFor pl s.feu.grant target := by
    simp only [rampedGrant, grantFor, kept, reached]
    split <;> split <;> omega
  have feu := s.envelopeSecond_feu
  rw [firing, limits, plant, ramped] at feu
  refine ⟨?_, ?_⟩
  · rw [feu]
    simp [recovered, retargeted, targetOf, recoveredCap, target, cap]
  · rw [OnceHanded, State.envelopeSecond_sta (by rwa [firing]), firing, plant]

/-! ## The statement -/

/-- Settles O22: fresh samples or the condition on, the samples going stale, and the temperature going stale. -/
theorem firingSecondRaisesCapAndGrant : Obligations.FiringSecondRaisesCapAndGrant := by
  unfold Obligations.FiringSecondRaisesCapAndGrant
  intro l pl s running inside firing limits plant law
  obtain ⟨v, b, before, after, grow⟩ := State.secondEvent_inside inside
  have vlaw : GrantLaw v := before.grantLaw law
  have vfiring : v.mode.mode = .firing := by rw [before.mode, firing]
  have vlimits : v.pst.workingLimits = some l := by rw [before.pst, limits]
  have vplant : v.pst.workingPlant = some pl := by rw [before.pst, plant]
  have mode : (v.unitsSecond b).mode = s.mode := by simpa using before.mode
  have pst : (v.unitsSecond b).pst = s.pst := by simpa using before.pst
  obtain ⟨accounts, request, boiler, held, handed⟩ := State.unitsSecond_kept b vlaw.grantHeld
  rw [before.eau] at accounts
  rw [before.feu] at request boiler
  rw [before.sta] at handed
  rw [limits, modeSecond_firing (by rw [mode, firing]), mode] at after grow
  refine ⟨fun w temp fresh kept => ?_, fun w temp fresh stale off cap => ?_, fun stale => ?_⟩
  · have good : ¬ (s.mode.temp = none ∨ l.tempStale ≤ min 65535 (s.mode.tempAge + 1)) :=
      not_or.2 ⟨by simp [temp], Nat.not_le.2 fresh⟩
    rw [if_neg good] at after grow
    have same : v.mode.mode ≠ .firing ∨ samplesStale v.pst.workingLimits (satAdd 65535 1 v.eau.sampleAge) = false
        ∨ v.eau.staleInFiring = true := by
      rw [before.eau, vlimits]
      exact .inr (kept.imp (fun h => decide_eq_false (Nat.not_le.2 h)) id)
    have low : v.feu.grant ≤ targetOf v.mode.mode v.feu := by
      obtain ⟨-, target, -, grant, -⟩ := vlaw
      rwa [← target]
    obtain ⟨eau, feu, sta⟩ := State.unitsSecond_aged b low same
    obtain ⟨risen, once⟩ := envelopeSecond_rises vfiring vlimits vplant vlaw
    have tfeu := after.feu.trans (feu.trans risen)
    rw [before.feu] at tfeu
    rw [before.feu, before.sta] at once
    have handedOnce : OnceHanded pl s.feu.grant s.secondEvent.feu.grant s.sta s.secondEvent.sta := by
      rw [after.feu, after.sta]
      simpa [feu, sta] using once
    have tgrant : s.secondEvent.sta.grant = s.secondEvent.feu.grant := after.grantHeld held
    have tpst : s.secondEvent.pst = s.pst := after.pst.trans pst
    have teau : s.secondEvent.eau = s.agedEau :=
      after.eau.trans (eau.trans (by simp [State.agedEau, State.plantMode, before.eau, before.mode]))
    refine ⟨s.secondEvent, exec_secondEvent_running running, after.mode, by rw [tfeu], by rw [tfeu], by rw [tfeu]; rfl, tgrant,
      handedOnce.follows (by rw [after.mode]; exact firing) (by rw [tpst, plant]), by rw [tfeu], by rw [tfeu], by rw [tfeu], by rw [tfeu],
      by rw [tfeu], by rw [teau]; rfl, by rw [teau]; rfl, by rw [teau]; rfl, tpst⟩
  · have good : ¬ (s.mode.temp = none ∨ l.tempStale ≤ min 65535 (s.mode.tempAge + 1)) :=
      not_or.2 ⟨by simp [temp], Nat.not_le.2 fresh⟩
    rw [if_neg good] at after grow
    have vcap : CapLaw v := by simpa only [CapLaw, before.feu, before.pst] using cap
    have begun := staleBegun vfiring vlimits vplant (by rwa [before.eau]) (by rwa [before.eau]) vlaw vcap b
    have done : StaleBegun l pl s s.secondEvent := begun.of_same before after.eau after.feu after.sta after.pst grow
    have tgrant : s.secondEvent.sta.grant = s.secondEvent.feu.grant := after.grantHeld held
    have tpst : s.secondEvent.pst = s.pst := after.pst.trans pst
    obtain ⟨pf, pg⟩ := done.notices
    refine ⟨s.secondEvent, exec_secondEvent_running running, after.mode, ?_, done.formed, done.computed, done.effective, done.target,
      done.grant, tgrant, fun uncut => (done.once uncut).follows (by rw [after.mode]; exact firing) (by rw [tpst, plant]),
      fun changed => (done.last changed).effect, pg, pf, ?_, ?_, ?_, tpst⟩
    · rw [done.eau]
      rfl
    · rw [after.feu]
      exact request
    · rw [after.feu]
      exact boiler
    · rw [done.eau]
      rfl
  · rw [if_pos stale] at after grow
    let x := (v.unitsSecond b).setMode { s.mode with tempAge := min 65535 (s.mode.tempAge + 1) }
    have xheld : GrantHeld x := held
    obtain ⟨xmode, stopped, -, notices, eau, -, -, -, xpst⟩ := goHold_effect (s := x) onlyTempStale xheld firing
    obtain ⟨xrequest, xboiler⟩ := goHold_terms onlyTempStale x
    have ends : FeedEnds s (x.goHold onlyTempStale) := goHold_feedEnds onlyTempStale handed pst xheld
    have tpst : s.secondEvent.pst = s.pst := after.pst.trans (xpst.trans pst)
    refine ⟨s.secondEvent, exec_secondEvent_running running, after.mode.trans xmode, ?_, ?_, fun q => grow.holds (notices q), ?_, ?_, ?_, ?_,
      tpst⟩
    · simpa only [FeedStopped, after.feu, after.sta] using stopped
    · simpa only [FeedEnds, after.sta, after.pst] using ends
    · rw [after.eau, eau]
    · rw [after.eau, eau]
      exact accounts
    · rw [after.feu, xrequest]
      exact request
    · rw [after.feu, xboiler]
      exact boiler

end Sys2Proof.Machine
end

section
/-! SUPPORT and CERTIFICATES. POST_SAMPLES: the values that a set is read from, the refusals in the order of the checks, the normalised value,
and an accepted set joined channel by channel (R38 to R45). -/

namespace Sys2Proof.Machine

/-! ## Reading a set (R38, R166) -/

/-- The sample status of a code in range. -/
abbrev statusAt (b : Byte) : SampleStatus := [SampleStatus.valid, .cal, .fault, .maint].getD b.toNat .valid

/-- An entry's channel id and status are assigned codes. -/
abbrev EntryInRange (e : SampleEntry) : Prop := e.channel.toNat ≤ 5 ∧ e.status.toNat ≤ 3

/-- The sample that an entry in range spells. -/
abbrev sampleAt (e : SampleEntry) : Sample := ⟨Pollutant.all.getD e.channel.toNat .dust, e.raw.toNat, statusAt e.status⟩

theorem Pollutant.ofCode_eq (b : Byte) :
    Pollutant.ofCode b = if b.toNat ≤ 5 then some (Pollutant.all.getD b.toNat .dust) else none := by
  rw [Pollutant.ofCode]
  generalize b.toNat = n
  by_cases inRange : n ≤ 5
  · rw [if_pos inRange]
    interval_cases n <;> rfl
  · rw [if_neg inRange]
    obtain ⟨k, rfl⟩ : ∃ k, n = k + 6 := ⟨n - 6, by omega⟩
    rfl

theorem sampleStatusOf_eq (b : Byte) : sampleStatusOf b = if b.toNat ≤ 3 then some (statusAt b) else none := by
  rw [sampleStatusOf, statusAt]
  generalize b.toNat = n
  by_cases inRange : n ≤ 3
  · rw [if_pos inRange]
    interval_cases n <;> rfl
  · rw [if_neg inRange]
    obtain ⟨k, rfl⟩ : ∃ k, n = k + 4 := ⟨n - 4, by omega⟩
    rfl

theorem sampleOf_eq (e : SampleEntry) : sampleOf e = if EntryInRange e then some (sampleAt e) else none := by
  rw [sampleOf, Pollutant.ofCode_eq, sampleStatusOf_eq]
  by_cases channel : e.channel.toNat ≤ 5
  · by_cases status : e.status.toNat ≤ 3
    · simp [channel, status, EntryInRange]
    · simp [status]
  · simp [channel]

/-- A list of entries is read where each of them is in range. -/
theorem samplesOf_eq (es : List SampleEntry) : samplesOf es = if ∀ e ∈ es, EntryInRange e then some (es.map sampleAt) else none := by
  induction es with
  | nil => simp [samplesOf]
  | cons e es ih =>
    rw [samplesOf, sampleOf_eq, ih]
    by_cases first : EntryInRange e
    · by_cases rest : ∀ e ∈ es, EntryInRange e
      · rw [if_pos first, if_pos rest, if_pos (List.forall_mem_cons.2 ⟨first, rest⟩), List.map_cons]
      · rw [if_pos first, if_neg rest, if_neg fun all => rest (List.forall_mem_cons.1 all).2]
    · rw [if_neg first, if_neg fun all => first (List.forall_mem_cons.1 all).1]

/-- The values of a set in range (R38, check 3). -/
abbrev SetInRange (o2 : BitVec 16) (o2Status : BitVec 8) (entries : List SampleEntry) : Prop :=
  o2.toNat ≤ 2100 ∧ o2Status.toNat ≤ 3 ∧ ∀ e ∈ entries, EntryInRange e

theorem sampleSetOf_eq (o2 : BitVec 16) (o2Status : BitVec 8) (entries : List SampleEntry) :
    sampleSetOf o2 o2Status entries =
      if SetInRange o2 o2Status entries then some ⟨o2.toNat, statusAt o2Status, entries.map sampleAt⟩ else none := by
  rw [sampleSetOf, sampleStatusOf_eq, samplesOf_eq]
  by_cases status : o2Status.toNat ≤ 3
  · by_cases all : ∀ e ∈ entries, EntryInRange e
    · have same : SetInRange o2 o2Status entries ↔ o2.toNat ≤ 2100 := ⟨And.left, fun value => ⟨value, status, all⟩⟩
      simp only [if_pos status, if_pos all, same]
    · rw [if_pos status, if_neg all, if_neg fun ⟨_, _, every⟩ => all every]
  · simp [status, SetInRange]

/-- A set is refused for a value out of its range, and for no other (R38). -/
theorem sampleSetOf_eq_none_iff (o2 : BitVec 16) (o2Status : BitVec 8) (entries : List SampleEntry) :
    sampleSetOf o2 o2Status entries = none ↔
      2100 < o2.toNat ∨ 3 < o2Status.toNat ∨ ∃ e ∈ entries, 5 < e.channel.toNat ∨ 3 < e.status.toNat := by
  simp only [sampleSetOf_eq, ite_eq_right_iff, reduceCtorEq, imp_false, SetInRange, EntryInRange, not_and_or, not_le, not_forall,
    exists_prop]

/-- A set that is read holds the values sent. -/
theorem sampleSetOf_values {o2 : BitVec 16} {o2Status : BitVec 8} {entries : List SampleEntry} {x : SampleSet}
    (read : sampleSetOf o2 o2Status entries = some x) :
    x.o2 = o2.toNat ∧ x.o2Status = statusAt o2Status ∧ x.entries = entries.map sampleAt := by
  rw [sampleSetOf_eq] at read
  split at read
  · cases read
    exact ⟨rfl, rfl, rfl⟩
  · cases read

/-! ## Refusals (R38) -/

section Refused

variable {o2 : BitVec 16} {o2Status : BitVec 8} {entries : List SampleEntry} {s : State}

/-- A sample set that its checks refuse is answered, and changes nothing else. -/
theorem exec_postSamples_refused {status : Status} (ready : Ready .pg s)
    (refused : (s.beginTake .pg).doPostSamples .pg o2 o2Status entries = refuse status (s.beginTake .pg)) :
    exec (.postSamples .pg o2 o2Status entries) s = .next (s.replied .pg (.plain status)) := by
  simpa using exec_ready rfl ready rfl refused

/-- By its count or a value out of range (checks 2 and 3). -/
theorem doPostSamples_range (bad : entries.length = 0 ∨ 6 < entries.length ∨ sampleSetOf o2 o2Status entries = none) :
    s.doPostSamples .pg o2 o2Status entries = refuse .range s := by
  by_cases count : entries.length = 0 ∨ 6 < entries.length
  · simp only [State.doPostSamples, ne_eq, not_true_eq_false, if_false, if_pos count]
  · have unread : sampleSetOf o2 o2Status entries = none := (or_assoc.2 bad).resolve_left count
    simp only [State.doPostSamples, ne_eq, not_true_eq_false, if_false, if_neg count, unread]

/-- A set of one to six entries in range goes on to checks 4 to 7. -/
theorem doPostSamples_of_read {x : SampleSet} (some : 1 ≤ entries.length) (most : entries.length ≤ 6)
    (read : sampleSetOf o2 o2Status entries = .some x) : s.doPostSamples .pg o2 o2Status entries = s.doSampleSet x := by
  have count : ¬ (entries.length = 0 ∨ 6 < entries.length) := by omega
  simp only [State.doPostSamples, ne_eq, not_true_eq_false, if_false, if_neg count, read]

end Refused

theorem channelsDistinct_iff (xs : List Sample) : channelsDistinct xs = true ↔ (xs.map Sample.channel).Nodup := by
  simp [channelsDistinct]

/-- Settles O34: each check on the state at the take of the frame, and what a set is read from. -/
theorem refusedSamplesChangeNothing : Obligations.RefusedSamplesChangeNothing := by
  unfold Obligations.RefusedSamplesChangeNothing
  intro o2 o2Status entries s ready
  refine ⟨fun bad => exec_postSamples_refused ready (doPostSamples_range bad), sampleSetOf_eq_none_iff _ _ _,
    fun x read => sampleSetOf_values read, fun x some most read => ?_⟩
  have checks := doPostSamples_of_read (s := s.beginTake .pg) some most read
  refine ⟨fun twice => ?_, fun once stopped => ?_, fun once running noCopy => ?_, fun l once running copy marked => ?_⟩
  all_goals refine exec_postSamples_refused ready (checks.trans ?_)
  · simp [State.doSampleSet, channelsDistinct_iff, twice]
  · simp [State.doSampleSet, channelsDistinct_iff, once, stopped]
  · have copy' : (s.beginTake .pg).periodCopy = none := by simpa [State.periodCopy] using noCopy
    simp [State.doSampleSet, channelsDistinct_iff, once, running, copy']
  · have copy' : (s.beginTake .pg).periodCopy = .some l := by simpa [State.periodCopy] using copy
    simp [State.doSampleSet, channelsDistinct_iff, once, running, copy', marked]

/-! ## The normalised value (R41, R42) -/

/-- A quotient rounded half up reaches a number where twice the numerator and one half more does. -/
theorem le_roundHalfUp_iff {d : Nat} (pos : 0 < d) (e n : Nat) : n ≤ (e + d / 2) / d ↔ 2 * d * n ≤ 2 * e + d := by
  rw [Nat.le_div_iff_mul_le pos, Nat.mul_assoc, Nat.mul_comm d n]
  omega

/-- Settles O35: the quotient before it saturates is the one rounded half up. -/
theorem normalisationRoundsHalfUp : Obligations.NormalisationRoundsHalfUp := by
  unfold Obligations.NormalisationRoundsHalfUp
  intro l o2 raw _ clamp exact deficit
  have pos : 0 < deficit := by omega
  have reaches (n : Nat) : n ≤ normQuotient l o2 raw ↔ 2 * deficit * n ≤ 2 * exact + deficit := le_roundHalfUp_iff pos exact n
  have value : normalised l o2 raw = min 999999 (normQuotient l o2 raw) := rfl
  refine ⟨value ▸ Nat.min_le_left _ _, fun below => ?_, (reaches 999999).symm.trans ?_⟩
  · have same : normalised l o2 raw = normQuotient l o2 raw := by omega
    rw [same]
    exact ⟨(reaches _).1 le_rfl, Nat.lt_of_not_le fun more => Nat.not_succ_le_self _ ((reaches _).2 more)⟩
  · omega

/-! ## An accepted set (R40 to R45) -/

/-- What one entry makes of its channel's account (R40 to R44). -/
def joined (l : Limits) (o2 : Nat) (o2Status : SampleStatus) (e : Sample) (a : Accumulator) : Accumulator :=
  if entryValid o2Status e then accumulateValid l o2 e.raw a else countInvalid (countedUnder o2Status e) a

section Set

variable (l : Limits) (o2 : Nat) (o2Status : SampleStatus)

theorem takeEntry_get (e : Sample) (acc : PerPollutant Accumulator) :
    (takeEntry l o2 o2Status e acc).get e.channel = joined l o2 o2Status e (acc.get e.channel) := by
  simp [takeEntry, joined]

theorem takeEntry_get_ne {e : Sample} {ch : Pollutant} (other : ch ≠ e.channel) (acc : PerPollutant Accumulator) :
    (takeEntry l o2 o2Status e acc).get ch = acc.get ch := PerPollutant.get_set_ne _ _ other

theorem takeEntries_cons (e : Sample) (es : List Sample) (acc : PerPollutant Accumulator) :
    takeEntries l o2 o2Status (e :: es) acc = takeEntries l o2 o2Status es (takeEntry l o2 o2Status e acc) := rfl

/-- A channel that is not in the set keeps its account. -/
theorem takeEntries_get_of_not_mem {es : List Sample} {ch : Pollutant} (absent : ch ∉ es.map Sample.channel)
    (acc : PerPollutant Accumulator) : (takeEntries l o2 o2Status es acc).get ch = acc.get ch := by
  induction es generalizing acc with
  | nil => rfl
  | cons e es ih =>
    obtain ⟨other, rest⟩ := not_or.1 (mt List.mem_cons.2 absent)
    rw [takeEntries_cons, ih rest, takeEntry_get_ne l o2 o2Status other]

/-- Where no channel stands twice each entry joins its own, once. -/
theorem takeEntries_get_of_mem {es : List Sample} (once : (es.map Sample.channel).Nodup) {e : Sample} (mem : e ∈ es)
    (acc : PerPollutant Accumulator) :
    (takeEntries l o2 o2Status es acc).get e.channel = joined l o2 o2Status e (acc.get e.channel) := by
  induction es generalizing acc with
  | nil => cases mem
  | cons x es ih =>
    obtain ⟨absent, rest⟩ := List.nodup_cons.1 once
    rw [takeEntries_cons]
    rcases List.mem_cons.1 mem with rfl | later
    · rw [takeEntries_get_of_not_mem l o2 o2Status absent, takeEntry_get]
    · have other : e.channel ≠ x.channel := fun same => absent (same ▸ List.mem_map_of_mem later)
      rw [ih rest later, takeEntry_get_ne l o2 o2Status other]

/-- The reply of an entry depends on its own channel's account alone. -/
theorem entryReply_congr {e : Sample} {acc acc' : PerPollutant Accumulator} (same : acc.get e.channel = acc'.get e.channel) :
    entryReply l o2 o2Status e acc = entryReply l o2 o2Status e acc' := by
  simp only [entryReply, same]

/-- Where no channel stands twice each entry is answered from the accounts before the set. -/
theorem entriesReply_eq {es : List Sample} (once : (es.map Sample.channel).Nodup) (acc : PerPollutant Accumulator) :
    entriesReply l o2 o2Status es acc = es.flatMap fun e => entryReply l o2 o2Status e acc := by
  induction es generalizing acc with
  | nil => rfl
  | cons x es ih =>
    obtain ⟨absent, rest⟩ := List.nodup_cons.1 once
    rw [entriesReply, ih rest, List.flatMap_cons]
    refine congrArg _ (List.flatMap_congr fun e later => entryReply_congr l o2 o2Status ?_)
    exact takeEntry_get_ne l o2 o2Status (fun same => absent (same ▸ List.mem_map_of_mem later)) acc

end Set

theorem entryValid_iff (o2Status : SampleStatus) (e : Sample) : entryValid o2Status e = true ↔ e.status = .valid ∧ o2Status = .valid := by
  simp [entryValid]

/-- An addition is taken where the sum and the count both have room (R44). -/
theorem additionTaken_eq (a : Accumulator) (v : Nat) : additionTaken a v = decide (a.sum + v ≤ 4294967295 ∧ a.valid < 65535) := by
  simp only [additionTaken, Bool.decide_and]
  rfl

@[simp] theorem State.takeSamples_eau (l : Limits) (x : SampleSet) (s : State) :
    (s.takeSamples l x).eau = { s.eau with
      accounts := takeEntries l x.o2 x.o2Status x.entries s.eau.accounts
      sampleAge := 0, marker := some s.clock.latched.time, staleInFiring := false } := by
  simp [State.takeSamples]

/-- An accepted set recomputes the envelope from the new accounts (R80). -/
theorem State.takeSamples_recomputed (l : Limits) (x : SampleSet) {s : State} (held : s.sta.grant = s.feu.grant) :
    RecomputedFrom s (s.takeSamples l x) :=
  recomputedFrom_of (u := s.setEau (s.takeSamples l x).eau) rfl rfl held (by simp [State.takeSamples]) (by simp [State.takeSamples])
    (by simp) (by simp) (by simp)

/-- A set that passes checks 4 to 7. -/
theorem doSampleSet_accepted {l : Limits} {x : SampleSet} {s : State} (once : (x.entries.map Sample.channel).Nodup)
    (running : s.clock.run = .running) (copy : s.periodCopy = some l) (unmarked : s.eau.marker ≠ some s.clock.latched.time) :
    s.doSampleSet x = (s.takeSamples l x, ⟨.ok, x.entries.flatMap fun e => entryReply l x.o2 x.o2Status e s.eau.accounts⟩) := by
  simp [State.doSampleSet, channelsDistinct_iff, once, running, copy, unmarked, entriesReply_eq]

/-- Settles O33: the accepted set from the state at the take of the frame, entry by entry. -/
theorem samplesJoinTheAccounts : Obligations.SamplesJoinTheAccounts := by
  unfold Obligations.SamplesJoinTheAccounts
  intro o2 o2Status entries x l s ready some most read once running copy unmarked law counted deficit quotient v room saturates
  have copy' : (s.beginTake .pg).periodCopy = .some l := by simpa [State.periodCopy] using copy
  have done := (doPostSamples_of_read (s := s.beginTake .pg) some most read).trans
    (doSampleSet_accepted once (by simpa using running) copy' (by simpa using unmarked))
  obtain ⟨-, -, -, -, held⟩ := law
  have recomputed := State.takeSamples_recomputed l x (s := s.beginTake .pg) held
  have value (e : Sample) : normalised l x.o2 e.raw = v e := rfl
  have quot (e : Sample) : normQuotient l x.o2 e.raw = quotient e := rfl
  have taken (e : Sample) : additionTaken (s.eau.accounts.get e.channel) (v e) = decide (room e) := additionTaken_eq _ _
  have top : normTop = 999999 := rfl
  refine ⟨_, exec_ready rfl ready rfl done, ?_, fun e mem => ?_, fun ch absent => ?_, ?_, recomputed.of_take _, ?_, ?_, ?_, ?_, ?_⟩
  · rw [State.answer_slot]
    refine congrArg (fun data => Option.some (Reply.mk .ok data)) (List.flatMap_congr fun e _ => ?_)
    by_cases counts : counted e
    · rw [if_pos counts, entryReply, if_pos ((entryValid_iff _ _).2 counts)]
      simp only [State.beginTake_frame, value, quot, taken, top, List.append_assoc, saturates]
    · rw [if_neg counts, entryReply, if_neg (mt (entryValid_iff _ _).1 counts)]
      simp only [List.append_assoc]
  · have account := takeEntries_get_of_mem l x.o2 x.o2Status once mem s.eau.accounts
    simp only [State.answer_frame, State.takeSamples_eau, State.beginTake_frame, account, joined]
    by_cases counts : counted e
    · rw [if_pos counts, if_pos ((entryValid_iff _ _).2 counts)]
      simp only [accumulateValid, value, quot, taken, top, decide_eq_true_eq, Bool.or_assoc, satAdd, saturates]
    · rw [if_neg counts, if_neg (mt (entryValid_iff _ _).1 counts)]
      rfl
  · simp [takeEntries_get_of_not_mem _ _ _ absent]
  · simp
  · simp
  · simp
  · simp
  · simp
  · simp

end Sys2Proof.Machine
end

section
/-! CERTIFICATE. SET_REAGENTS: the three settings taken together (R51). -/

namespace Sys2Proof.Machine

theorem reagentSettingOf_none {r : ReagentArgs} (high : 2 ≤ r.availability.toNat) : reagentSettingOf r = none := by
  simp [reagentSettingOf, Availability.ofCode_none high]

theorem reagentSettingOf_some {r : ReagentArgs} {x : Availability} (known : Availability.ofCode r.availability = some x) :
    reagentSettingOf r = some ⟨x, min 1000 r.base.toNat⟩ := by
  simp [reagentSettingOf, known, perMilleTop]

/-- One code out of its list refuses all three settings. -/
theorem doSetReagents_range {a b c : ReagentArgs} {s : State}
    (high : 2 ≤ a.availability.toNat ∨ 2 ≤ b.availability.toNat ∨ 2 ≤ c.availability.toNat) :
    s.doSetReagents .pg a b c = refuse .range s := by
  rcases high with ha | hb | hc
  · simp [State.doSetReagents, reagentSettingOf_none ha]
  · cases ha : reagentSettingOf a <;> simp [State.doSetReagents, ha, reagentSettingOf_none hb]
  · cases ha : reagentSettingOf a <;> cases hb : reagentSettingOf b <;> simp [State.doSetReagents, ha, hb, reagentSettingOf_none hc]

/-- The unit with its three reagents set. -/
abbrev withReagents (x y z : ReagentSetting) (e : Emission) : Emission := { e with reagents := ⟨x, y, z⟩ }

/-- Three codes in their list are taken together, each base demand at most 1000. -/
theorem doSetReagents_taken {a b c : ReagentArgs} {x y z : Availability} {s : State} (sorbent : Availability.ofCode a.availability = some x)
    (carbon : Availability.ofCode b.availability = some y) (reductant : Availability.ofCode c.availability = some z) :
    s.doSetReagents .pg a b c =
      ((s.setEau (withReagents ⟨x, min 1000 a.base.toNat⟩ ⟨y, min 1000 b.base.toNat⟩ ⟨z, min 1000 c.base.toNat⟩ s.eau)).recompute,
        .plain (if 1000 < a.base.toNat ∨ 1000 < b.base.toNat ∨ 1000 < c.base.toNat then .clamped else .ok)) := by
  simp only [State.doSetReagents, ne_eq, not_true_eq_false, if_false, reagentSettingOf_some sorbent, reagentSettingOf_some carbon,
    reagentSettingOf_some reductant, Reply.done, Bool.or_eq_true, decide_eq_true_eq, or_assoc]
  rfl

/-- Other reagents at the unit recompute the envelope (R80). -/
theorem withReagents_recomputed (x y z : ReagentSetting) {s : State} (held : s.sta.grant = s.feu.grant) :
    RecomputedFrom s (s.setEau (withReagents x y z s.eau)).recompute :=
  recomputedFrom_of (u := s.setEau (withReagents x y z s.eau)) rfl rfl held rfl rfl (by simp) (by simp) (by simp)

/-- Settles O38: the settings taken on the state at the take of the frame, and the envelope formed again from it. -/
theorem setReagentsRecomputes : Obligations.SetReagentsRecomputes := by
  unfold Obligations.SetReagentsRecomputes
  intro a b c s ready
  refine ⟨fun high => ?_, fun x y z sorbent carbon reductant law => ?_⟩
  · simpa using exec_ready rfl ready rfl (doSetReagents_range (s := s.beginTake .pg) high)
  · obtain ⟨-, -, -, -, held⟩ := law
    refine ⟨_, exec_ready rfl ready rfl (doSetReagents_taken sorbent carbon reductant), ?_, State.answer_slot _ _ _,
      (withReagents_recomputed _ _ _ (s := s.beginTake .pg) held).of_take _, ?_, ?_, ?_, ?_, ?_⟩
    all_goals simp

end Sys2Proof.Machine
end

section
/-! SUPPORT. The emission unit's law in two parts, the open period's number against the clock and the rest of the unit, and the operations of
the other blocks under it: most leave the unit, and a change of mode moves the stale-in-FIRING condition alone (R46, R48, R49, R54, R55). -/

namespace Sys2Proof.Machine

/-! ## The law in two parts -/

/-- The number of the open period, none where no period is open. -/
abbrev periodNumber (e : Emission) : Option Nat := e.period.map OpenPeriod.number

/-- The period number that a running clock gives, none while it is STOPPED. -/
abbrev numberNow (c : Clock) : Option Nat := if c.run = .running then some c.latched.period else none

/-- The part of the unit's law that the clock is no part of. -/
abbrev UnitLaw (s : State) : Prop :=
  (s.eau.period = none → s.eau.accounts = accountsZero) ∧ (∀ a ∈ s.eau.accounts.toList, AccumulatorLaw a)
    ∧ (s.eau.staleInFiring = true → s.mode.mode = .firing) ∧ s.eau.sampleAge ≤ 65535 ∧ s.eau.halfHours.length ≤ 48
    ∧ s.eau.days.length ≤ 8

theorem emissionLaw_iff (s : State) : EmissionLaw s ↔ periodNumber s.eau = numberNow s.clock ∧ UnitLaw s := by
  have number : ((s.eau.period.isSome = true ↔ s.clock.run = .running) ∧ ∀ p ∈ s.eau.period.toList, p.number = s.clock.latched.period) ↔
      periodNumber s.eau = numberNow s.clock := by
    cases hp : s.eau.period <;> cases hr : s.clock.run <;> simp [periodNumber, numberNow, hp, hr]
  rw [← number, EmissionLaw, UnitLaw, and_assoc]

/-- A law of every account, channel by channel. -/
theorem PerPollutant.forall_toList {α : Type} {P : α → Prop} (x : PerPollutant α) : (∀ a ∈ x.toList, P a) ↔ ∀ ch, P (x.get ch) := by
  refine ⟨fun all ch => all _ ?_, fun all a mem => ?_⟩
  · cases ch <;> simp [PerPollutant.toList, PerPollutant.get]
  · simp only [PerPollutant.toList, List.mem_cons, List.not_mem_nil, or_false] at mem
    rcases mem with rfl | rfl | rfl | rfl | rfl | rfl
    exacts [all .dust, all .hcl, all .so2, all .nox, all .co, all .toc]

/-- Cleared accounts are within their ranges (R46). -/
theorem accountsZero_law : ∀ a ∈ accountsZero.toList, AccumulatorLaw a := by decide

/-- The unit with its accounts cleared, its condition and its age as they were, its rings within their depths. -/
theorem UnitLaw.cleared {s t : State} (law : UnitLaw s) (accounts : t.eau.accounts = accountsZero)
    (stale : t.eau.staleInFiring = s.eau.staleInFiring) (mode : t.mode = s.mode) (age : t.eau.sampleAge = s.eau.sampleAge)
    (halfHours : t.eau.halfHours.length ≤ 48) (days : t.eau.days.length ≤ 8) : UnitLaw t := by
  obtain ⟨-, -, firing, aged, -, -⟩ := law
  exact ⟨fun _ => accounts, accounts ▸ accountsZero_law, by rwa [stale, mode], age ▸ aged, halfHours, days⟩

/-! ## What an event leaves of the unit -/

/-- The clock and the open period's number stay, and the rest of the unit keeps its law. -/
structure UnitKept (s t : State) : Prop where
  clock  : t.clock = s.clock
  number : periodNumber t.eau = periodNumber s.eau
  law    : UnitLaw s → UnitLaw t

theorem UnitKept.refl (s : State) : UnitKept s s := ⟨rfl, rfl, id⟩

theorem UnitKept.trans {s t u : State} (h : UnitKept s t) (k : UnitKept t u) : UnitKept s u :=
  ⟨k.clock.trans h.clock, k.number.trans h.number, k.law ∘ h.law⟩

/-- An event that moves the stale-in-FIRING condition alone, and leaves it on in FIRING only (R48, R49). -/
theorem UnitKept.of_stale {s t : State} {on : Bool} (clock : t.clock = s.clock) (eau : t.eau = { s.eau with staleInFiring := on })
    (firing : (s.eau.staleInFiring = true → s.mode.mode = .firing) → on = true → t.mode.mode = .firing) : UnitKept s t := by
  refine ⟨clock, by rw [eau], fun ⟨cleared, accounts, stale, rest⟩ => ?_⟩
  rw [UnitLaw, eau]
  exact ⟨cleared, accounts, firing stale, rest⟩

/-- An event that leaves the unit and the mode. -/
theorem UnitKept.of_eau {s t : State} (clock : t.clock = s.clock) (mode : t.mode.mode = s.mode.mode) (eau : t.eau = s.eau) :
    UnitKept s t :=
  .of_stale clock eau fun firing on => mode.trans (firing on)

/-- New items of the controller in the same mode. -/
theorem setMode_unitKept {s : State} {m : ModeCtl} (mode : m.mode = s.mode.mode) : UnitKept s (s.setMode m) := .of_eau rfl mode rfl

/-! ## A change of mode (R48, R49) -/

/-- A change of mode at the unit moves the condition alone: off as FIRING is left, on in FIRING only. -/
theorem State.emissionMode_stale (old : Mode) (s : State) :
    ∃ on, (s.emissionMode old).eau = { s.eau with staleInFiring := on }
      ∧ ((s.eau.staleInFiring = true → old = .firing) → on = true → s.mode.mode = .firing) := by
  unfold State.emissionMode
  split
  · exact ⟨false, s.endStale_eau, fun _ => nofun⟩
  · next stays =>
    split
    · next begins =>
      obtain ⟨-, firing, -⟩ := begins
      exact ⟨true, s.beginStale_eau, fun _ _ => firing⟩
    · exact ⟨_, rfl, fun firing on => by_contra fun left => stays ⟨firing on, left, on⟩⟩

theorem changeMode_unitKept (m : ModeCtl) (s : State) : UnitKept s (s.changeMode m) := by
  obtain ⟨on, eau, firing⟩ := ((s.setMode m).postAll .mode).releaseHeldPlant.emissionMode_stale s.mode.mode
  simp only [State.releaseHeldPlant_frame, State.postAll_frame, State.setMode_eau, State.setMode_mode] at eau firing
  refine .of_stale (on := on) (by simp) ?_ (by simpa using firing)
  simpa [State.changeMode, State.deliverMode] using eau

theorem entryCheckWith_unitKept (lim : Option Limits) (s : State) : UnitKept s (s.entryCheckWith lim) := by
  unfold State.entryCheckWith
  split
  · exact changeMode_unitKept _ s
  · exact .refl s

theorem holdArises_unitKept (alone : HoldCauses) (add : HoldCauses → HoldCauses) (s : State) : UnitKept s (s.holdArises alone add) := by
  unfold State.holdArises
  split
  · exact changeMode_unitKept _ s
  · exact setMode_unitKept rfl
  · exact .refl s

theorem holdClears_unitKept (remove : HoldCauses → HoldCauses) (s : State) : UnitKept s (s.holdClears remove) := by
  unfold State.holdClears
  split
  · exact setMode_unitKept rfl
  · exact .refl s

theorem takeCleaning_unitKept (a : Availability) (s : State) : UnitKept s (s.takeCleaning a) := by
  have told : UnitKept s (s.setMode { s.mode with cleaning := a }) := setMode_unitKept rfl
  cases a with
  | unavailable => exact (told.trans (holdArises_unitKept _ _ _)).trans (entryCheckWith_unitKept _ _)
  | available => exact (told.trans (holdClears_unitKept _ _)).trans (entryCheckWith_unitKept _ _)

theorem putChannel_unitKept (ch : StrokeChannel) (r : StrokeRecord) (s : State) : UnitKept s (s.putChannel ch r) := by
  have put : UnitKept s (s.setSta (setRecord ch r s.sta)) := .of_eau rfl rfl rfl
  have told (u : State) : UnitKept u (u.setMode { u.mode with rams := u.sta.rams }) := setMode_unitKept rfl
  unfold State.putChannel State.handRams
  dsimp only
  split
  · exact put
  split
  · exact ((put.trans (told _)).trans (holdArises_unitKept _ _ _)).trans (entryCheckWith_unitKept _ _)
  · exact ((put.trans (told _)).trans (holdClears_unitKept _ _)).trans (entryCheckWith_unitKept _ _)

/-! ## Temperature (R20 to R23) -/

theorem compareTmin_unitKept (l : Limits) (t : Nat) (s : State) : UnitKept s (s.compareTmin l t) := by
  unfold State.compareTmin
  split
  · split
    · exact setMode_unitKept rfl
    · exact .refl s
  · split
    · exact changeMode_unitKept _ s
    · exact .refl s
  · split
    · exact setMode_unitKept rfl
    · exact setMode_unitKept rfl
  · exact .refl s

theorem compareTemperature_unitKept (l : Limits) (t : Nat) (s : State) : UnitKept s (s.compareTemperature l t) := by
  unfold State.compareTemperature
  split
  · exact .refl s
  · split
    · exact setMode_unitKept rfl
    · exact .refl s
  · split
    · exact changeMode_unitKept _ s
    split
    · exact changeMode_unitKept _ s
    · exact .refl s
  · split
    · exact changeMode_unitKept _ s
    · exact compareTmin_unitKept l t s

theorem takeTemperature_unitKept (t : Nat) (s : State) : UnitKept s (s.takeTemperature t) := by
  have recorded : UnitKept s (s.setMode { s.mode with temp := some t, tempAge := 0 }) := setMode_unitKept rfl
  unfold State.takeTemperature
  refine .trans ?_ (entryCheckWith_unitKept _ _)
  split
  · exact recorded.trans (compareTemperature_unitKept _ _ _)
  · exact recorded

/-- The qualification timer leaves the mode. -/
theorem qualify_mode (lim : Option Limits) (m : ModeCtl) : (qualify lim m).mode = m.mode := by
  obtain ⟨timer, same, -⟩ := qualify_eq lim m
  rw [same]

theorem qualified_unitKept (lim : Option Limits) {s : State} {m : ModeCtl} (mode : m.mode = s.mode.mode) :
    UnitKept s ((s.setMode (qualify lim m)).entryCheckWith lim) :=
  .trans (setMode_unitKept ((qualify_mode lim m).trans mode)) (entryCheckWith_unitKept lim _)

theorem modeSecond_unitKept (lim : Option Limits) (s : State) : UnitKept s (s.modeSecond lim) := by
  have aged : UnitKept s (s.setMode { s.mode with tempAge := satAdd 65535 1 s.mode.tempAge }) := setMode_unitKept rfl
  dsimp only [State.modeSecond]
  split
  · split
    · exact aged.trans (changeMode_unitKept _ _)
    · exact aged
  · exact qualified_unitKept lim rfl
  · exact qualified_unitKept lim rfl
  · exact aged

/-! ## The stroke channels (R98 to R102) -/

theorem grateJamTrip_unitKept (s : State) : UnitKept s s.grateJamTrip := by
  unfold State.grateJamTrip
  split
  · exact changeMode_unitKept _ s
  · exact changeMode_unitKept _ s
  · exact changeMode_unitKept _ s
  · exact .refl s

theorem expireLimit_unitKept (ch : StrokeChannel) (s : State) : UnitKept s (s.expireLimit ch) := by
  unfold State.expireLimit
  split
  · split
    · exact .trans (.of_eau (by simp) (by simp) (by simp)) (putChannel_unitKept _ _ _)
    · dsimp only [State.jamGrate]
      split
      · exact .of_eau (by simp) (by simp) (by simp)
      · exact .trans (.of_eau (by simp) (by simp) (by simp)) (grateJamTrip_unitKept _)
  · exact .refl s

theorem strokeUnit_unitKept (s : State) : UnitKept s s.strokeUnit := by
  have drawn (u : State) : UnitKept u u.draw.2 := .of_eau rfl rfl rfl
  have expired (u : State) (ch : StrokeChannel) : UnitKept u (u.expire ch) :=
    .trans (.of_eau (by simp) (by simp) (by simp)) (expireLimit_unitKept ch (u.expirePeriod ch))
  exact (State.expireAll_related UnitKept.refl UnitKept.trans drawn expired s).trans (.of_eau rfl rfl rfl)

end Sys2Proof.Machine
end

section
/-! SUPPORT. The emission unit's own events under its law: the accounts that a set joins, the age and the fired flag of a second, the close of a
half-hour and of a day, and the second event in every order of the blocks (R40 to R48, R54 to R58, R63, R67). -/

namespace Sys2Proof.Machine

/-! ## Accounts (R40 to R44) -/

/-- A reading joins within the ranges of the account: the average stays at or below the saturation value (R42, R44). -/
theorem accumulateValid_law (l : Limits) (o2 raw : Nat) {a : Accumulator} (law : AccumulatorLaw a) :
    AccumulatorLaw (accumulateValid l o2 raw a) := by
  obtain ⟨sum, average, valid, cal, fault, maint, highO2, maximum⟩ := law
  have top : normalised l o2 raw ≤ normTop := Nat.min_le_left _ _
  have high : (if l.o2clamp < o2 then satAdd 65535 1 a.highO2 else a.highO2) ≤ 65535 := by
    split
    · exact Nat.min_le_left _ _
    · exact highO2
  simp only [normTop] at average maximum top
  by_cases taken : additionTaken a (normalised l o2 raw) = true
  · have room := taken
    simp only [additionTaken_eq, decide_eq_true_eq] at room
    simp only [AccumulatorLaw, accumulateValid, taken, if_true, sumTop, normTop]
    refine ⟨?_, ?_, ?_, cal, fault, maint, high, ?_⟩ <;> omega
  · simp only [AccumulatorLaw, accumulateValid, taken, Bool.false_eq_true, if_false, normTop]
    exact ⟨sum, average, valid, cal, fault, maint, high, max_le maximum top⟩

theorem countInvalid_law (st : SampleStatus) {a : Accumulator} (law : AccumulatorLaw a) : AccumulatorLaw (countInvalid st a) := by
  obtain ⟨sum, average, valid, cal, fault, maint, rest⟩ := law
  have top (n : Nat) : satAdd 65535 1 n ≤ 65535 := Nat.min_le_left _ _
  cases st with
  | valid => exact ⟨sum, average, valid, cal, fault, maint, rest⟩
  | cal => exact ⟨sum, average, valid, top _, fault, maint, rest⟩
  | fault => exact ⟨sum, average, valid, cal, top _, maint, rest⟩
  | maint => exact ⟨sum, average, valid, cal, fault, top _, rest⟩

theorem joined_law (l : Limits) (o2 : Nat) (o2Status : SampleStatus) (e : Sample) {a : Accumulator} (law : AccumulatorLaw a) :
    AccumulatorLaw (joined l o2 o2Status e a) := by
  unfold joined
  split
  · exact accumulateValid_law _ _ _ law
  · exact countInvalid_law _ law

/-- A set leaves every account within its ranges. -/
theorem takeEntries_law (l : Limits) (o2 : Nat) (o2Status : SampleStatus) (es : List Sample) {acc : PerPollutant Accumulator}
    (law : ∀ ch, AccumulatorLaw (acc.get ch)) (ch : Pollutant) : AccumulatorLaw ((takeEntries l o2 o2Status es acc).get ch) := by
  induction es generalizing acc with
  | nil => exact law ch
  | cons e es ih =>
    refine ih fun c => ?_
    by_cases same : c = e.channel
    · rw [same, takeEntry_get]
      exact joined_law _ _ _ _ (law _)
    · rw [takeEntry_get_ne _ _ _ same]
      exact law c

/-- An accepted set has a period open, whose copy it is taken under (R57). -/
theorem takeSamples_unitKept {l : Limits} {s : State} (copy : s.periodCopy = some l) (x : SampleSet) : UnitKept s (s.takeSamples l x) := by
  have isOpen : s.eau.period ≠ none := fun none => by simp [State.periodCopy, none] at copy
  refine ⟨by simp, by simp, fun ⟨_, accounts, _, _, halfHours, days⟩ => ?_⟩
  rw [UnitLaw, State.takeSamples_eau]
  rw [PerPollutant.forall_toList] at accounts
  exact ⟨fun none => absurd none isOpen, (PerPollutant.forall_toList _).2 (takeEntries_law _ _ _ _ accounts), nofun, Nat.zero_le _,
    halfHours, days⟩

/-! ## The second event of the unit (R47, R48, R56) -/

/-- The age, the fired flag and the condition alone move; the condition begins in FIRING only. -/
theorem State.emissionAge_eau (s : State) :
    ∃ on, s.emissionAge.eau = { s.eau with
        sampleAge := satAdd 65535 1 s.eau.sampleAge
        period := s.eau.period.map fun p => { p with fired := p.fired || s.plantMode == .firing }, staleInFiring := on }
      ∧ (on = true → s.eau.staleInFiring = true ∨ s.mode.mode = .firing) := by
  dsimp only [State.emissionAge]
  split
  · next begins => exact ⟨true, State.beginStale_eau _, fun _ => .inr begins.1⟩
  · exact ⟨s.eau.staleInFiring, rfl, .inl⟩

theorem emissionAge_unitKept (s : State) : UnitKept s s.emissionAge := by
  obtain ⟨on, eau, begins⟩ := s.emissionAge_eau
  refine ⟨by simp, by simp [eau, periodNumber, Function.comp_def], fun ⟨cleared, accounts, stale, _, rings⟩ => ?_⟩
  rw [UnitLaw, eau]
  refine ⟨fun none => cleared (Option.map_eq_none_iff.1 none), accounts, fun isOn => ?_, Nat.min_le_left _ _, rings⟩
  simpa using (begins isOn).elim stale id

/-! ## The close of a period (R54, R58, R62, R63, R67) -/

/-- A ring never holds more than its depth. -/
theorem pushRing_length_le {α : Type} {depth : Nat} (pos : 0 < depth) (ring : List α) (x : α) : (pushRing depth ring x).length ≤ depth := by
  unfold pushRing
  split
  · simp
    omega
  · simp
    omega

@[simp] theorem State.openPeriod_eau (p : Option OpenPeriod) (s : State) :
    (s.openPeriod p).eau = { s.eau with accounts := accountsZero, period := p } := by
  simp [State.openPeriod]

@[simp] theorem State.recordPeriod_eau (p : OpenPeriod) (atStop : Bool) (s : State) :
    (s.recordPeriod p atStop).eau =
      { s.eau with halfHours := pushRing 48 s.eau.halfHours (halfHourRecord p s.eau.accounts atStop) } := rfl

/-- The close of a day moves the day ring alone, within its depth (R65, R67). -/
theorem State.closeDay_eau (p : OpenPeriod) (s : State) :
    ∃ days, (s.closeDay p).eau = { s.eau with days := days } ∧ days.length ≤ 8 := by
  refine ⟨_, ?_, pushRing_length_le (by decide) s.eau.days (dayRecord p.copy (p.number / 48)
    (s.eau.halfHours.filter fun x => x.day == p.number / 48))⟩
  simp [State.closeDay]

/-- The unit after a period has been closed and the next one opened, or none: cleared accounts, both rings within their depths. -/
structure PeriodTurned (next : Option Nat) (s t : State) : Prop where
  accounts  : t.eau.accounts = accountsZero
  number    : periodNumber t.eau = next
  stale     : t.eau.staleInFiring = s.eau.staleInFiring
  age       : t.eau.sampleAge = s.eau.sampleAge
  mode      : t.mode = s.mode
  halfHours : s.eau.halfHours.length ≤ 48 → t.eau.halfHours.length ≤ 48
  days      : s.eau.days.length ≤ 8 → t.eau.days.length ≤ 8

theorem PeriodTurned.law {next : Option Nat} {s t : State} (h : PeriodTurned next s t) (law : UnitLaw s) : UnitLaw t := by
  have ⟨_, _, _, _, halfHours, days⟩ := law
  exact law.cleared h.accounts h.stale h.mode h.age (h.halfHours halfHours) (h.days days)

theorem openPeriod_turned (p : Option OpenPeriod) (s : State) : PeriodTurned (p.map OpenPeriod.number) s (s.openPeriod p) := by
  constructor <;> simp

/-- A half-hour boundary closes the open period where there is one, and opens that of the clock (R58). -/
theorem closeHalfHour_turned (dayBoundary : Bool) (s : State) :
    PeriodTurned (some s.clock.latched.period) s (s.closeHalfHour dayBoundary) := by
  dsimp only [State.closeHalfHour]
  split
  · constructor <;> simp
  · next p _ =>
    have ring := pushRing_length_le (by decide : 0 < 48) s.eau.halfHours (halfHourRecord p s.eau.accounts false)
    obtain ⟨days, eau, depth⟩ := (s.recordPeriod p false).closeDay_eau p
    cases dayBoundary
    · constructor <;> simp [ring]
    · constructor <;> simp [eau, ring, depth]

/-- STOP_CLOCK closes the open period where there is one, and opens none (R62). -/
theorem closeAtStop_turned (s : State) : PeriodTurned none s s.closeAtStop := by
  unfold State.closeAtStop
  split
  · exact openPeriod_turned none s
  · next p _ =>
    have ring := pushRing_length_le (by decide : 0 < 48) s.eau.halfHours (halfHourRecord p s.eau.accounts true)
    constructor <;> simp [ring]

/-! ## One part of a second event -/

/-- Every part of a second event but the turn of the period leaves its number. -/
theorem subEvent_unitKept {k : EventKind} {e : SubEvent} (inside : ¬ (e = .emission ∧ isHalfHour k.time = true)) (old : Bool)
    (s : State) : UnitKept s (s.subEvent k old e) := by
  cases e with
  | emission =>
    have within : isHalfHour k.time = false := by simpa using inside
    simpa [State.subEvent, State.emissionSecond, within] using emissionAge_unitKept s
  | envelope => exact .of_eau (by simp [State.subEvent]) (by simp [State.subEvent]) (by simp [State.subEvent])
  | install =>
    dsimp only [State.subEvent]
    split
    · exact .of_eau (by simp) (by simp) (by simp)
    · exact .refl s
  | activation =>
    dsimp only [State.subEvent]
    split
    · exact .of_eau (by simp) (by simp) (by simp)
    · exact .refl s
  | mode => exact modeSecond_unitKept _ s

/-- At a half-hour boundary the unit's part turns the period (R58). -/
theorem subEvent_turned {k : EventKind} (boundary : isHalfHour k.time = true) (old : Bool) (s : State) :
    PeriodTurned (some s.clock.latched.period) s.emissionAge (s.subEvent k old .emission) := by
  have turned := closeHalfHour_turned (isDayBoundary k.time) s.emissionAge
  rw [(State.emissionAge_frame s).1] at turned
  simpa [State.subEvent, State.emissionSecond, boundary] using turned

theorem subEvent_unitLaw (k : EventKind) (old : Bool) (e : SubEvent) (s : State) : UnitLaw s → UnitLaw (s.subEvent k old e) := by
  by_cases turns : e = .emission ∧ isHalfHour k.time = true
  · obtain ⟨rfl, boundary⟩ := turns
    exact (subEvent_turned boundary old s).law ∘ (emissionAge_unitKept s).law
  · exact (subEvent_unitKept turns old s).law

/-! ## The second event -/

/-- The open period's number after the parts of a second event in an order: the clock's, where the unit's part turns the period. -/
theorem State.subEvents_number (k : EventKind) (old : Bool) (order : List SubEvent) (s : State) :
    periodNumber (s.subEvents k old order).eau =
      if .emission ∈ order ∧ isHalfHour k.time = true then some s.clock.latched.period else periodNumber s.eau := by
  induction order generalizing s with
  | nil => simp [State.subEvents]
  | cons e es ih =>
    have clock : (s.subEvent k old e).clock = s.clock := (s.subEvent_frame k old e).1
    refine (ih (s.subEvent k old e)).trans ?_
    rw [clock]
    by_cases turns : e = .emission ∧ isHalfHour k.time = true
    · obtain ⟨rfl, boundary⟩ := turns
      rw [(subEvent_turned boundary old s).number]
      simp [boundary]
    · rw [(subEvent_unitKept turns old s).number]
      refine if_congr ?_ rfl rfl
      simp only [List.mem_cons]
      grind

/-- The same for all the blocks, in an order in which the unit takes the event. -/
theorem State.blocksSecond_number (k : EventKind) {o : EventOrder} (takes : .emission ∈ o.order) (s : State) :
    periodNumber (s.blocksSecond k o).eau =
      if isHalfHour k.time = true then some s.clock.latched.period else periodNumber s.eau := by
  unfold State.blocksSecond
  split <;> simp [State.subEvents_number, takes]

/-- Inside a half-hour the period number stays as the time advances (R3, R4). -/
theorem periodOf_advance {t : ClockTime} (inside : isHalfHour (advance t) = false) : periodOf (advance t) = periodOf t := by
  unfold advance at inside ⊢
  split
  · rfl
  · next carry =>
    rw [if_neg carry] at inside
    split
    · next minute =>
      rw [if_pos minute] at inside
      simp [isHalfHour, isMinute] at inside
      simp only [periodOf]
      congr 2
      exact propext ⟨by omega, by omega⟩
    · next minute =>
      rw [if_neg minute] at inside
      split at inside <;> simp [isHalfHour, isMinute] at inside

end Sys2Proof.Machine
end

section
/-! CERTIFICATE. Every step keeps the emission unit's law: the clock's own rows, which the open period follows, the commands and the events of the
blocks, then every row. -/

namespace Sys2Proof.Machine

/-! ## The clock and the open period -/

/-- The law is kept where the clock still gives the number of the period that stays open. -/
theorem EmissionLaw.of_now {s t : State} (law : EmissionLaw s) (now : numberNow t.clock = numberNow s.clock)
    (number : periodNumber t.eau = periodNumber s.eau) (unit : UnitLaw s → UnitLaw t) : EmissionLaw t := by
  obtain ⟨same, held⟩ := (emissionLaw_iff s).1 law
  exact (emissionLaw_iff t).2 ⟨by rw [number, now, same], unit held⟩

/-- The law is kept where the period is turned to the one that the clock gives. -/
theorem EmissionLaw.of_turned {s t : State} {next : Option Nat} (law : EmissionLaw s) (turned : PeriodTurned next s t)
    (now : numberNow t.clock = next) : EmissionLaw t := by
  obtain ⟨-, held⟩ := (emissionLaw_iff s).1 law
  exact (emissionLaw_iff t).2 ⟨turned.number.trans now.symm, turned.law held⟩

/-- The number that a clock under its law gives is that of its time. -/
theorem numberNow_of_law {c : Clock} (law : ClockLaw c) : numberNow c = if c.run = .running then some (periodOf c.time) else none := by
  obtain ⟨-, -, -, -, -, -, -, -, -, latched⟩ := law
  rw [numberNow, latched]
  rfl

/-- SET_TIME of a STOPPED clock, which has no period open (R8). -/
theorem doSetTime_emissionLaw (p : Port) (day : BitVec 16) (hour minute second : BitVec 8) (divisor : BitVec 24) (offset : BitVec 8)
    {s : State} (law : EmissionLaw s) : EmissionLaw (s.doSetTime p day hour minute second divisor offset).1 := by
  unfold State.doSetTime
  split
  · exact law
  split
  · exact law
  split
  · next stopped _ => exact law.of_now (by simp [State.loadTime, latch, numberNow, stopped]) rfl id
  · exact law

/-- START_CLOCK opens the period of the loaded time (R54). -/
theorem startRunning_turned (s : State) : PeriodTurned (some (periodOf s.clock.time)) s s.startRunning := by
  constructor <;> simp [State.started_eau, periodNumber]

theorem doStartClock_emissionLaw (p : Port) {s : State} (law : EmissionLaw s) : EmissionLaw (s.doStartClock p).1 := by
  unfold State.doStartClock
  split
  · exact law
  split
  · exact law
  split
  · exact law
  · exact law.of_turned (startRunning_turned s) (by simp [numberNow, latch, latchedOf])

/-- STOP_CLOCK leaves no period open (R62). -/
theorem doStopClock_emissionLaw (p : Port) {s : State} (law : EmissionLaw s) : EmissionLaw (s.doStopClock p).1 := by
  have turned : PeriodTurned none s s.stopRunning := by
    have closed := closeAtStop_turned (s.setClock (latch { s.clock with run := .stopped, scaler := 0 }))
    exact ⟨closed.accounts, closed.number, closed.stale, closed.age, closed.mode, closed.halfHours, closed.days⟩
  unfold State.doStopClock
  split
  · exact law
  split
  · exact law
  split
  · exact law
  · exact law.of_turned turned (by simp [numberNow, State.stopRunning, latch])

/-- A step inside the period leaves its number (R12). -/
theorem periodOf_steppedTime {t : ClockTime} {shift : Int} (range : TimeInRange t)
    (inside : ((absoluteSecond t : Int) + shift) / 1800 = (absoluteSecond t / 1800 : Nat)) :
    periodOf (steppedTime t shift) = periodOf t := by
  obtain ⟨-, hour, minute, second⟩ := range
  simp only [steppedTime, periodOf, absoluteSecond, secondOfDay] at inside ⊢
  congr 2
  exact propext ⟨by omega, by omega⟩

/-- An accepted step moves the time inside the open period, and of the unit its marker alone (R13). -/
theorem stepClock_emissionLaw {shift : Int} {s : State} (clock : ClockLaw s.clock) (running : s.clock.run = .running)
    (inside : crossesPeriod s.clock.latched.time shift = false) (law : EmissionLaw s) : EmissionLaw (s.stepClock shift) := by
  have ⟨range, _, _, _, _, _, _, _, _, latched⟩ := clock
  have time : s.clock.latched.time = s.clock.time := by rw [latched]; rfl
  rw [time, crossesPeriod_eq_false_iff] at inside
  have now : numberNow (s.stepped shift).clock = numberNow s.clock := by
    rw [numberNow_of_law clock, if_pos running, ← periodOf_steppedTime range inside, ← time]
    simp [State.stepped, numberNow, latch, latchedOf, running]
  by_cases forward : 0 < shift
  · have same : numberNow (s.steppedForward shift).clock = numberNow (s.stepped shift).clock := by
      rw [State.steppedForward_clock]
      rfl
    rw [State.stepClock_forward s forward]
    refine law.of_now (by simpa [same] using now) (by simp [periodNumber]) fun unit => ?_
    simpa [UnitLaw] using unit
  · rw [State.stepClock_backward s forward]
    exact law.of_now now rfl id

theorem doAdjustClock_emissionLaw (p : Port) (shift : BitVec 8) {s : State} (clock : ClockLaw s.clock) (law : EmissionLaw s) :
    EmissionLaw (s.doAdjustClock p shift).1 := by
  unfold State.doAdjustClock
  split
  · exact law
  split
  · exact law
  split
  · exact law
  split
  · exact law
  split
  · exact law
  · next notStopped _ inside _ =>
    have running : s.clock.run = .running := by
      rcases h : s.clock.run with _ | _
      · exact absurd h notStopped
      · rfl
    exact stepClock_emissionLaw clock running (by simpa using inside) law

theorem doSetLead_emissionLaw (p : Port) (lead : BitVec 16) {s : State} (law : EmissionLaw s) : EmissionLaw (s.doSetLead p lead).1 := by
  unfold State.doSetLead
  split
  · exact law
  · exact law.of_now rfl rfl id

/-! ## The edges of REFCK -/

/-- A second event turns the period at a half-hour boundary, and only there (R58). -/
theorem secondEvent_emissionLaw {s : State} (running : s.clock.run = .running) (clock : ClockLaw s.clock) (law : EmissionLaw s) :
    EmissionLaw s.secondEvent := by
  obtain ⟨k, free, time, -, second⟩ := s.secondEvent_eq
  have takes : .emission ∈ (eventOrder free).order := List.count_pos_iff.1 (by rw [(eventOrder_once free).1]; decide)
  have ticked := s.secondTicked_clock
  have now : numberNow s.secondTicked.clock = some (periodOf k.time) := by
    rw [ticked, time]
    simp [numberNow, tickClock, latch, latchedOf, running]
  obtain ⟨number, unit⟩ := (emissionLaw_iff s).1 law
  rw [numberNow_of_law clock, if_pos running] at number
  rw [second, emissionLaw_iff, State.blocksSecond_number k takes, (State.blocksSecond_frame _ _ _).1, now]
  have ledger (u : State) : UnitLaw u → UnitLaw u.ledgerSecond := UnitKept.law (.of_eau (by simp) (by simp) (by simp))
  refine ⟨?_, State.blocksSecond_related (R := fun u v => UnitLaw u → UnitLaw v) (fun _ => id) (fun h k => k ∘ h) subEvent_unitLaw
    ledger k _ _ (by simpa [UnitLaw] using unit)⟩
  split
  · rw [ticked, time]
    rfl
  · next inside =>
    rw [time, Bool.not_eq_true] at inside
    rw [time, periodOf_advance inside, ← number]
    simp [periodNumber]

theorem refckEdge_emissionLaw {s : State} (clock : ClockLaw s.clock) (law : EmissionLaw s) : EmissionLaw s.refckEdge := by
  unfold State.refckEdge
  split
  · exact law
  · next running =>
    split
    · exact law.of_now rfl rfl id
    · exact secondEvent_emissionLaw running clock law

/-! ## The resets (R46, R48, R73, R74) -/

/-- Power-on leaves no period open under a STOPPED clock (R16, R46, R73). -/
theorem powerOn_emissionLaw (s : State) : EmissionLaw s.powerOn := by
  have eau : s.powerOn.eau = .reset := rfl
  have clock : s.powerOn.clock = .reset := rfl
  rw [emissionLaw_iff, UnitLaw, eau, clock]
  exact ⟨rfl, fun _ => rfl, accountsZero_law, nofun, Nat.zero_le _, Nat.zero_le _, Nat.zero_le _⟩

/-- The fall of RSTN keeps the accounts, the open period and the rings, and ends the condition (R46, R49, R74). -/
theorem pinReset_emissionLaw {s : State} (law : EmissionLaw s) : EmissionLaw s.pinReset := by
  unfold State.pinReset
  split
  · exact law
  · refine law.of_now (by simp [State.pinResetBlocks, numberNow]) (by simp [State.pinResetBlocks, resetEmission, periodNumber])
      fun ⟨cleared, accounts, _, rest⟩ => ?_
    simpa [UnitLaw, State.pinResetBlocks, resetEmission] using And.intro cleared (And.intro accounts rest)

/-! ## The unit's commands -/

theorem doPostSamples_unitKept (p : Port) (o2 : BitVec 16) (o2Status : BitVec 8) (entries : List SampleEntry) (s : State) :
    UnitKept s (s.doPostSamples p o2 o2Status entries).1 := by
  have set (x : SampleSet) : UnitKept s (s.doSampleSet x).1 := by
    unfold State.doSampleSet
    split
    · split
      · exact .refl s
      split
      · exact .refl s
      · next copy =>
        split
        · exact .refl s
        · exact takeSamples_unitKept copy x
    · exact .refl s
  unfold State.doPostSamples
  split
  · exact .refl s
  split
  · exact .refl s
  split
  · exact .refl s
  · exact set _

theorem doSetCleaning_unitKept (p : Port) (a : BitVec 8) (s : State) : UnitKept s (s.doSetCleaning p a).1 := by
  unfold State.doSetCleaning
  split
  · exact .refl s
  split
  · exact .refl s
  split
  · exact .refl s
  · next a _ _ =>
    have told : UnitKept s (s.setEau { s.eau with cleaning := a }) := ⟨rfl, rfl, id⟩
    exact told.trans (takeCleaning_unitKept a _)

theorem doSetReagents_unitKept (p : Port) (a b c : ReagentArgs) (s : State) : UnitKept s (s.doSetReagents p a b c).1 := by
  unfold State.doSetReagents
  split
  · exact .refl s
  split
  · next x y z _ _ _ =>
    have set : UnitKept s (s.setEau (withReagents x y z s.eau)) := ⟨rfl, rfl, id⟩
    exact set.trans (.of_eau (by simp) (by simp) (by simp))
  · exact .refl s

theorem doClearHistory_unitKept (p : Port) (s : State) : UnitKept s (s.doClearHistory p).1 := by
  unfold State.doClearHistory
  split
  · exact .refl s
  split
  · exact .refl s
  · exact ⟨rfl, rfl, fun ⟨cleared, accounts, stale, age, _, _⟩ => ⟨cleared, accounts, stale, age, Nat.zero_le _, Nat.zero_le _⟩⟩

/-! ## The mode controller's commands, and those that reach it -/

theorem doStart_unitKept (p : Port) (s : State) : UnitKept s (s.doStart p).1 := by
  unfold State.doStart
  split
  · exact .refl s
  split
  · exact .refl s
  split
  · exact .refl s
  split
  · exact .refl s
  · exact changeMode_unitKept _ s

theorem doFeed_unitKept (p : Port) (s : State) : UnitKept s (s.doFeed p).1 := by
  have armed : UnitKept s (s.setMode { s.mode with feedArmed := true }) := setMode_unitKept rfl
  unfold State.doFeed
  split
  · exact .refl s
  split
  · exact .refl s
  · exact armed.trans (entryCheckWith_unitKept _ _)

theorem doStop_unitKept (s : State) : UnitKept s s.doStop.1 := by
  unfold State.doStop
  split
  · exact changeMode_unitKept _ s
  · exact changeMode_unitKept _ s
  · exact changeMode_unitKept _ s
  · exact .refl s
  · exact .refl s
  · exact .refl s

theorem doTrip_unitKept (p : Port) (cause : BitVec 8) (s : State) : UnitKept s (s.doTrip p cause).1 := by
  have taken (code : Nat) : UnitKept s (s.takeTrip p code) := by
    unfold State.takeTrip
    split
    · exact setMode_unitKept rfl
    · exact changeMode_unitKept _ s
  unfold State.doTrip
  split
  · exact .refl s
  split
  · exact .refl s
  · exact taken _

theorem doClearTrip_unitKept (p : Port) (s : State) : UnitKept s (s.doClearTrip p).1 := by
  unfold State.doClearTrip
  split
  · exact .refl s
  split
  · exact .refl s
  split
  · exact .refl s
  · exact changeMode_unitKept _ s

theorem doPostTemperature_unitKept (p : Port) (value : BitVec 16) (s : State) : UnitKept s (s.doPostTemperature p value).1 := by
  unfold State.doPostTemperature
  split
  · exact .refl s
  · exact takeTemperature_unitKept _ s

theorem doSetChannel_unitKept (p : Port) (number enabled source : BitVec 8) (fixedPeriod : BitVec 16) (s : State) :
    UnitKept s (s.doSetChannel p number enabled source fixedPeriod).1 := by
  unfold State.doSetChannel
  split
  · exact .refl s
  split
  · exact putChannel_unitKept _ _ s
  · exact .refl s

theorem doClearJam_unitKept (p : Port) (number : BitVec 8) (s : State) : UnitKept s (s.doClearJam p number).1 := by
  unfold State.doClearJam
  split
  · exact .refl s
  split
  · exact .refl s
  split
  · exact putChannel_unitKept _ _ s
  · exact .refl s

/-! ## Commands that leave the unit -/

section Quiet

variable (s : State)

@[simp] theorem doSetBoilerLimit_eau (p : Port) (limit : BitVec 16) : (s.doSetBoilerLimit p limit).1.eau = s.eau := by
  unfold State.doSetBoilerLimit
  split <;> simp

@[simp] theorem doSetLanes_eau (p : Port) (split massA massB : BitVec 16) : (s.doSetLanes p split massA massB).1.eau = s.eau := by
  unfold State.doSetLanes
  split <;> simp

@[simp] theorem doPostSteam_eau (p : Port) (flow : BitVec 16) : (s.doPostSteam p flow).1.eau = s.eau := by
  unfold State.doPostSteam
  split <;> simp

@[simp] theorem doSetAuxDemand_eau (p : Port) (demand : BitVec 16) : (s.doSetAuxDemand p demand).1.eau = s.eau := by
  unfold State.doSetAuxDemand
  split <;> simp

@[simp] theorem doSetConsumers_eau (p : Port) (turbine extraction : BitVec 8) :
    (s.doSetConsumers p turbine extraction).1.eau = s.eau := by
  unfold State.doSetConsumers
  (repeat' split) <;> simp

@[simp] theorem doPostOrder_eau (p : Port) (args : OrderArgs) : (s.doPostOrder p args).1.eau = s.eau := by
  have placed (o : Order) (clamped : Bool) : (s.placeOrder o clamped).1.eau = s.eau := by
    dsimp only [State.placeOrder]
    (repeat' split) <;> simp
  unfold State.doPostOrder
  (repeat' split) <;> simp [placed]

@[simp] theorem doCancelOrders_eau (p : Port) (tag : BitVec 16) : (s.doCancelOrders p tag).1.eau = s.eau := by
  unfold State.doCancelOrders
  split <;> simp

@[simp] theorem doPostEnergy_eau (p : Port) (exported heat : BitVec 32) : (s.doPostEnergy p exported heat).1.eau = s.eau := by
  unfold State.doPostEnergy
  split <;> simp

@[simp] theorem doRestoreMeters_eau (p : Port) (totals : MeterArgs) : (s.doRestoreMeters p totals).1.eau = s.eau := by
  unfold State.doRestoreMeters
  (repeat' split) <;> simp

@[simp] theorem doFreshMeters_eau (p : Port) : (s.doFreshMeters p).1.eau = s.eau := by
  unfold State.doFreshMeters
  (repeat' split) <;> simp

@[simp] theorem refuseStore_eau (p : Port) (status : Status) : (s.refuseStore p status).1.eau = s.eau := by
  simp [State.refuseStore]

@[simp] theorem doProgramSection_eau (p : Port) (number : BitVec 8) (image : List Byte) :
    (s.doProgramSection p number image).1.eau = s.eau := by
  have programmed (sec : PermitSection) : (s.programSection p sec image).1.eau = s.eau := by
    unfold State.programSection
    (repeat' split) <;> simp
  unfold State.doProgramSection
  split <;> simp [programmed]

@[simp] theorem doLockSection_eau (p : Port) (number : BitVec 8) : (s.doLockSection p number).1.eau = s.eau := by
  have locked (sec : PermitSection) : (s.lockSection p sec).1.eau = s.eau := by
    unfold State.lockSection
    (repeat' split) <;> simp
  unfold State.doLockSection
  split <;> simp [locked]

end Quiet

/-! ## The statement -/

/-- A change of state keeps the clock's law, and under it the emission unit's. -/
structure EmissionKept (s t : State) : Prop where
  clock : ClockLaw s.clock → ClockLaw t.clock
  law   : ClockLaw s.clock → EmissionLaw s → EmissionLaw t

theorem EmissionKept.refl (s : State) : EmissionKept s s := ⟨id, fun _ => id⟩

theorem EmissionKept.trans {s t u : State} (h : EmissionKept s t) (k : EmissionKept t u) : EmissionKept s u :=
  ⟨k.clock ∘ h.clock, fun clock law => k.law (h.clock clock) (h.law clock law)⟩

theorem UnitKept.emissionKept {s t : State} (h : UnitKept s t) : EmissionKept s t :=
  ⟨fun law => h.clock ▸ law, fun _ law => law.of_now (congrArg numberNow h.clock) h.number h.law⟩

/-- A row that leaves the clock, the mode controller and the unit. -/
theorem EmissionKept.of_eau {s t : State} (frame : t.clock = s.clock ∧ t.mode = s.mode) (eau : t.eau = s.eau) : EmissionKept s t :=
  UnitKept.emissionKept (.of_eau frame.1 (congrArg ModeCtl.mode frame.2) eau)

theorem rowWork_emissionKept (i : Instr) (s : State) : EmissionKept s (rowWork i s) := by
  cases i with
  | powerOn => exact ⟨(powerOn_clockKept s).law, fun _ _ => powerOn_emissionLaw s⟩
  | pinReset => exact ⟨(pinReset_clockKept s).law, fun _ => pinReset_emissionLaw⟩
  | pinResetRelease =>
    dsimp only [rowWork, State.releaseReset]
    split
    · exact .of_eau ⟨rfl, rfl⟩ rfl
    · exact .refl s
  | refckEdge => exact ⟨(refckEdge_clockKept s).law, refckEdge_emissionLaw⟩
  | secondEvent =>
    dsimp only [rowWork]
    split
    · next running => exact ⟨(secondEvent_clockKept running).law, secondEvent_emissionLaw running⟩
    · exact .refl s
  | strokeUnitTick => exact (strokeUnit_unitKept s).emissionKept
  | periodExpiry ch => exact .of_eau (by simp [rowWork]) (by simp [rowWork])
  | strokeLimitExpiry ch => exact (expireLimit_unitKept ch s).emissionKept
  | eosArrival ch => exact .of_eau (by simp [rowWork]) (by simp [rowWork])
  | programmingCompletion => exact .of_eau (by simp [rowWork]) (by simp [rowWork])
  | lockCompletion => exact .of_eau (by simp [rowWork]) (by simp [rowWork])
  | setTime => exact ⟨(doSetTime_clockKept _ _ _ _ _ _ _ s).law, fun _ => doSetTime_emissionLaw _ _ _ _ _ _ _⟩
  | startClock => exact ⟨(doStartClock_clockKept _ s).law, fun _ => doStartClock_emissionLaw _⟩
  | stopClock => exact ⟨(doStopClock_clockKept _ s).law, fun _ => doStopClock_emissionLaw _⟩
  | adjustClock => exact ⟨(doAdjustClock_clockKept _ _ s).law, doAdjustClock_emissionLaw _ _⟩
  | setLead => exact ⟨(doSetLead_clockKept _ _ s).law, fun _ => doSetLead_emissionLaw _ _⟩
  | start => exact (doStart_unitKept _ s).emissionKept
  | feed => exact (doFeed_unitKept _ s).emissionKept
  | stop => exact (doStop_unitKept s).emissionKept
  | trip => exact (doTrip_unitKept _ _ s).emissionKept
  | clearTrip => exact (doClearTrip_unitKept _ s).emissionKept
  | postTemperature => exact (doPostTemperature_unitKept _ _ s).emissionKept
  | postSamples => exact (doPostSamples_unitKept _ _ _ _ s).emissionKept
  | setCleaning => exact (doSetCleaning_unitKept _ _ s).emissionKept
  | setReagents => exact (doSetReagents_unitKept _ _ _ _ s).emissionKept
  | clearHistory => exact (doClearHistory_unitKept _ s).emissionKept
  | setBoilerLimit p limit => exact .of_eau (doSetBoilerLimit_frame p limit s) (doSetBoilerLimit_eau s p limit)
  | setChannel => exact (doSetChannel_unitKept _ _ _ _ _ s).emissionKept
  | setLanes p split massA massB => exact .of_eau (doSetLanes_frame p split massA massB s) (doSetLanes_eau s p split massA massB)
  | clearJam => exact (doClearJam_unitKept _ _ s).emissionKept
  | postSteam p flow => exact .of_eau (doPostSteam_frame p flow s) (doPostSteam_eau s p flow)
  | setAuxDemand p demand => exact .of_eau (doSetAuxDemand_frame p demand s) (doSetAuxDemand_eau s p demand)
  | setConsumers p turbine extraction =>
    exact .of_eau (doSetConsumers_frame p turbine extraction s) (doSetConsumers_eau s p turbine extraction)
  | postOrder p order => exact .of_eau (doPostOrder_frame p order s) (doPostOrder_eau s p order)
  | cancelOrders p tag => exact .of_eau (doCancelOrders_frame p tag s) (doCancelOrders_eau s p tag)
  | postEnergy p exported heat => exact .of_eau (doPostEnergy_frame p exported heat s) (doPostEnergy_eau s p exported heat)
  | restoreMeters p totals => exact .of_eau (doRestoreMeters_frame p totals s) (doRestoreMeters_eau s p totals)
  | freshMeters p => exact .of_eau (doFreshMeters_frame p s) (doFreshMeters_eau s p)
  | enableWrite => exact .of_eau ⟨rfl, rfl⟩ rfl
  | programSection p number image => exact .of_eau (doProgramSection_frame p number image s) (doProgramSection_eau s p number image)
  | lockSection p number => exact .of_eau (doLockSection_frame p number s) (doLockSection_eau s p number)
  | portReset => exact .of_eau ⟨rfl, rfl⟩ rfl
  | _ => exact .refl s

/-- The two laws are kept by rows: the ports and the queue do not matter to them. -/
theorem emissionKept_byRows : KeptByRows EmissionKept :=
  ⟨EmissionKept.refl, EmissionKept.trans, fun _ _ => .of_eau ⟨rfl, rfl⟩ rfl, fun _ _ => .of_eau ⟨rfl, rfl⟩ rfl, rowWork_emissionKept⟩

/-- Settles O40: each row's own work keeps the unit's law under the clock's, so every step does. -/
theorem emissionLawKept : Obligations.EmissionLawKept := by
  unfold Obligations.EmissionLawKept
  intro s t clock law h
  exact (emissionKept_byRows.step h).law clock law

end Sys2Proof.Machine
end

section
/-! CERTIFICATE. CLEAR_HISTORY: its two checks, and both rings emptied (R72). -/

namespace Sys2Proof.Machine

/-- Settles O39: each check on the state at the take of the frame, then the rings. -/
theorem clearHistoryEmptiesTheRings : Obligations.ClearHistoryEmptiesTheRings := by
  unfold Obligations.ClearHistoryEmptiesTheRings
  intro p s ready
  by_cases owner : p = .pg
  · subst owner
    by_cases running : s.clock.run = .running
    · have done : (s.beginTake .pg).doClearHistory .pg = refuse .state (s.beginTake .pg) := by
        simp [State.doClearHistory, running]
      simpa [running] using exec_ready rfl ready rfl done
    · have done : (s.beginTake .pg).doClearHistory .pg =
          ((s.beginTake .pg).setEau { s.eau with halfHours := [], days := [] }, .plain .ok) := by
        simp [State.doClearHistory, running]
      simpa [running] using exec_ready rfl ready rfl done
  · have done : (s.beginTake p).doClearHistory p = refuse .notOwner (s.beginTake p) := by
      simp [State.doClearHistory, owner]
    simpa [owner] using exec_ready rfl ready rfl done

end Sys2Proof.Machine
end

section
/-! CERTIFICATE. The closing average of a period, the day's average, and the turn of a ring (R59, R60, R63, R66, R67). -/

namespace Sys2Proof.Machine

/-! ## Averages (R59, R66) -/

/-- A quotient rounded half up is the nearest integer, the upper one of two as near. -/
theorem roundHalfUp_bounds {d : Nat} (pos : 0 < d) (e : Nat) :
    2 * d * ((e + d / 2) / d) ≤ 2 * e + d ∧ 2 * e + d < 2 * d * ((e + d / 2) / d + 1) :=
  ⟨(le_roundHalfUp_iff pos e _).1 le_rfl, Nat.lt_of_not_le fun more => Nat.not_succ_le_self _ ((le_roundHalfUp_iff pos e _).2 more)⟩

/-- An average is above a limit where it is present and above it. -/
theorem above_iff (limit : Nat) (x : Option Nat) : above limit x = true ↔ ∃ v, x = some v ∧ limit < v := by
  cases x <;> simp [above]

/-! ## The half-hour record (R59 to R61) -/

section Closing

variable {p : OpenPeriod} {l : Limits} (copy : p.copy = some l) (acc : PerPollutant Accumulator) (ch : Pollutant)
include copy

/-- Below V the closing average is absent. -/
theorem halfHourChannel_average_absent (few : (acc.get ch).valid < l.minValid) : (halfHourChannel p acc ch).average = none := by
  simp [halfHourChannel, closingAverage, copy, few]

/-- From V on it is the sum over the count rounded half up. -/
theorem halfHourChannel_average_present (enough : l.minValid ≤ (acc.get ch).valid) :
    (halfHourChannel p acc ch).average = some (((acc.get ch).sum + (acc.get ch).valid / 2) / (acc.get ch).valid) := by
  simp [halfHourChannel, closingAverage, copy, enough]

/-- The channel is EXCEEDED in a fired period with a present average above L (R60). -/
theorem halfHourChannel_exceeded_iff : (halfHourChannel p acc ch).exceeded = true ↔
    p.fired = true ∧ ∃ v, (halfHourChannel p acc ch).average = some v ∧ (l.channels.get ch).limit < v := by
  rw [← above_iff]
  simp [halfHourChannel, copy]

end Closing

/-! ## The day record (R65 to R67) -/

/-- Each channel's entry of a day record is made from that channel's half-hours. -/
theorem dayRecord_channel (copy : Option Limits) (day : Nat) (rs : List HalfHourRecord) (ch : Pollutant) :
    (dayRecord copy day rs).channels.get ch = dayChannel copy rs ch := by
  cases ch <;> rfl

section Day

variable (l : Limits) (rs : List HalfHourRecord) (ch : Pollutant)

theorem dayChannel_average_absent (few : (dayAverages ch rs).length < l.minHalves) : (dayChannel (some l) rs ch).average = none := by
  simp [dayChannel, few]

theorem dayChannel_average_present (enough : l.minHalves ≤ (dayAverages ch rs).length) :
    (dayChannel (some l) rs ch).average =
      some (((dayAverages ch rs).sum + (dayAverages ch rs).length / 2) / (dayAverages ch rs).length) := by
  simp [dayChannel, enough]

theorem dayChannel_exceeded_iff : (dayChannel (some l) rs ch).exceeded = true ↔
    ∃ v, (dayChannel (some l) rs ch).average = some v ∧ (l.channels.get ch).dayLimit < v :=
  above_iff _ _

/-- A day in which no half-hour fired is not operated. -/
theorem dayRecord_notOperated_iff (copy : Option Limits) (day : Nat) :
    (dayRecord copy day rs).notOperated = true ↔ ∀ x ∈ rs, x.fired = false := by
  simp [dayRecord]

end Day

/-! ## The turn of a ring (R63, R67) -/

theorem pushRing_of_room {α : Type} {depth : Nat} {ring : List α} (room : ring.length < depth) (x : α) :
    pushRing depth ring x = ring ++ [x] := by
  simp [pushRing, room]

/-- A full ring drops its oldest record. -/
theorem pushRing_of_full {α : Type} {depth : Nat} {ring : List α} (full : ring.length = depth) (x : α) :
    pushRing depth ring x = ring.tail ++ [x] := by
  simp [pushRing, full, List.drop_one]

/-- Settles O36: the two averages as quotients rounded half up, and the ring with room and full. -/
theorem recordsAverageAndRingsTurn : Obligations.RecordsAverageAndRingsTurn := by
  unfold Obligations.RecordsAverageAndRingsTurn
  refine ⟨fun p acc ch => ⟨fun l copy least => ?_, fun noCopy => ?_, rfl, rfl, rfl, rfl, rfl, rfl, ?_⟩, fun l day rs ch least => ?_,
    fun depth ring r _ _ => ⟨fun room => pushRing_of_room room r, fun full => pushRing_of_full full r⟩⟩
  · refine ⟨halfHourChannel_average_absent copy acc ch, fun enough => ?_, halfHourChannel_exceeded_iff copy acc ch⟩
    exact ⟨_, halfHourChannel_average_present copy acc ch enough, roundHalfUp_bounds (least.trans enough) _⟩
  · simp [halfHourChannel, closingAverage, noCopy]
  · simp [halfHourChannel]
  · dsimp only
    rw [dayRecord_channel]
    refine ⟨rfl, rfl, List.countP_eq_length_filter.symm, rfl, dayRecord_notOperated_iff rs _ day, rfl,
      List.countP_eq_length_filter.symm, dayChannel_average_absent l rs ch, fun enough => ?_, dayChannel_exceeded_iff l rs ch⟩
    exact ⟨_, dayChannel_average_present l rs ch enough, roundHalfUp_bounds (least.trans enough) _⟩

end Sys2Proof.Machine
end

section
/-! SUPPORT and CERTIFICATE. The take of a read on a ready port, the two histories' records as lists of fields, and READ_HISTORY and READ_DAYS
over their rings (R61, R67, R69 to R71, R165, R177). -/

namespace Sys2Proof.Machine

/-! ## The take of a read (R177) -/

/-- A read on a ready port that leaves the blocks: its reply, and the port armed where the flag asks for it, but not by RANGE. -/
theorem exec_read_ready {i : Instr} {p : Port} {s : State} {rep : Bool} {cmd : ReadCmd} {r : Reply} (command : i.port? = some p)
    (ready : Ready p s) (take : s.takeFrame i = s.takeRead p rep cmd) (done : (s.beginTake p).runRead p cmd = (s.beginTake p, r)) :
    exec i s = .next (if r.status = .range then s.replied p r else s.readReplied p rep cmd r) := by
  have unarmed (x : Reply) : s.readReplied p false cmd x = s.replied p x := by cases p <;> rfl
  have armed (x : Reply) : (s.replied p x).setArm p cmd = s.readReplied p true cmd x := by cases p <;> rfl
  rw [exec_command command, State.arrive_ready ready, take, State.takeRead]
  simp only [done, State.answer_beginTake]
  by_cases range : r.status = .range
  · simp [range]
  · cases rep <;> simp [range, unarmed, armed]

/-! ## The data of a record (R61, R67, R165) -/

@[simp] theorem fieldsOf_nil : fieldsOf [] = [] := rfl

@[simp] theorem fieldsOf_cons (f : Nat × Nat) (fs : List (Nat × Nat)) : fieldsOf (f :: fs) = be f.1 f.2 ++ fieldsOf fs := rfl

@[simp] theorem fieldsOf_append (fs gs : List (Nat × Nat)) : fieldsOf (fs ++ gs) = fieldsOf fs ++ fieldsOf gs :=
  List.flatMap_append

/-- An optional field is its flag and its value. -/
theorem optional_eq (width : Nat) (x : Option Nat) : optional width x = fieldsOf (optionalField width x) := by
  simp [optional, flag, optionalField]

/-- The channels' data in id order. -/
theorem flatMap_toList {α : Type} {data : α → List Byte} {fields : α → List (Nat × Nat)} (same : ∀ a, data a = fieldsOf (fields a))
    (x : PerPollutant α) : x.toList.flatMap data = fieldsOf (Pollutant.all.flatMap fun ch => fields (x.get ch)) := by
  simp [PerPollutant.toList, Pollutant.all, PerPollutant.get, same]

/-- A channel's fields of a half-hour record in the order of R61. -/
def halfHourChannelFields (c : HalfHourChannel) : List (Nat × Nat) :=
  optionalField 3 c.average ++ [(2, c.valid), (2, c.cal), (2, c.fault), (2, c.maint), (3, c.maximum), (1, c.saturated.toNat),
    (1, c.highO2.toNat), (1, c.exceeded.toNat)]

theorem halfHourChannelData_eq (c : HalfHourChannel) : halfHourChannelData c = fieldsOf (halfHourChannelFields c) := by
  simp [halfHourChannelData, halfHourChannelFields, optional_eq, flag]

/-- The fields of a half-hour record in the order of R61. -/
def halfHourFields (r : HalfHourRecord) : List (Nat × Nat) :=
  [(3, r.period), (1, r.isPart.toNat), (1, r.fired.toNat), (1, r.closedAtStop.toNat)] ++ optionalField 2 r.serial ++ [(2, r.expected)]
    ++ Pollutant.all.flatMap fun ch => halfHourChannelFields (r.channels.get ch)

theorem halfHourData_eq (r : HalfHourRecord) : halfHourData r = fieldsOf (halfHourFields r) := by
  simp [halfHourData, halfHourFields, flatMap_toList halfHourChannelData_eq, optional_eq, flag]

/-- A channel's fields of a day record in the order of R67. -/
def dayChannelFields (c : DayChannel) : List (Nat × Nat) :=
  [(1, c.halves)] ++ optionalField 3 c.average ++ [(1, c.exceededCount), (1, c.exceeded.toNat)]

theorem dayChannelData_eq (c : DayChannel) : dayChannelData c = fieldsOf (dayChannelFields c) := by
  simp [dayChannelData, dayChannelFields, optional_eq, flag]

/-- The fields of a day record in the order of R67. -/
def dayFields (r : DayRecord) : List (Nat × Nat) :=
  [(2, r.day), (1, r.notOperated.toNat), (1, r.held), (1, r.fired)] ++ optionalField 2 r.serial
    ++ Pollutant.all.flatMap fun ch => dayChannelFields (r.channels.get ch)

theorem dayData_eq (r : DayRecord) : dayData r = fieldsOf (dayFields r) := by
  simp [dayData, dayFields, flatMap_toList dayChannelData_eq, optional_eq, flag]

/-! ## The scan of a ring (R69 to R71) -/

section Ring

variable {α : Type} {width : Nat} {number : α → Nat} {encode : α → List Byte}

theorem ringReply_nil (start count : Nat) :
    ringReply width number encode [] start count = ⟨.ok, be 1 0 ++ be width 0 ++ be width 0 ++ be 1 0⟩ := by
  simp [ringReply, scanRing]

/-- A ring with records answers GONE below its oldest, and else what the scan finds, behind its figures. -/
theorem ringReply_of_ends {ring : List α} {oldest newest : α} (first : ring.head? = some oldest) (last : ring.getLast? = some newest)
    (start count : Nat) :
    ringReply width number encode ring start count =
      let figures := be 1 ring.length ++ be width (number oldest) ++ be width (number newest)
      let found := (ring.dropWhile fun r => number r < start).take count
      if start < number oldest then ⟨.gone, figures ++ be 1 0⟩ else ⟨.ok, figures ++ be 1 found.length ++ found.flatMap encode⟩ := by
  obtain ⟨rest, rfl⟩ : ∃ rest, ring = oldest :: rest := List.head?_eq_some_iff.1 first
  simp only [ringReply, scanRing, first, last, Option.map_some, Option.getD_some]
  by_cases below : start < number oldest
  · simp only [if_pos below]
  · simp only [if_neg below]

/-- What a scan answers is no RANGE, which is left to the arguments. -/
theorem ringReply_status (ring : List α) (start count : Nat) : (ringReply width number encode ring start count).status ≠ .range := by
  unfold ringReply
  dsimp only
  split <;> nofun

end Ring

/-! ## The two reads -/

section Reads

variable {p : Port} {s : State} (ready : Ready p s) (rep : Bool) {count : BitVec 8}
include ready

/-- READ_HISTORY with its arguments in range (R69). -/
theorem exec_readHistory {period : BitVec 24} (inRange : period.toNat ≤ 3145727) (least : 1 ≤ count.toNat) (most : count.toNat ≤ 8) :
    exec (.readHistory p rep period count) s = .next (s.readReplied p rep (.history period count)
      (ringReply 3 HalfHourRecord.period halfHourData s.eau.halfHours period.toNat count.toNat)) := by
  have done : (s.beginTake p).runRead p (.history period count) =
      (s.beginTake p, ringReply 3 HalfHourRecord.period halfHourData s.eau.halfHours period.toNat count.toNat) := by
    simp [State.runRead, historyReply, lastPeriod, countInRange, Nat.not_lt.2 inRange, least, most]
  rw [exec_read_ready rfl ready rfl done, if_neg (ringReply_status _ _ _)]

/-- READ_HISTORY with an argument out of range. -/
theorem exec_readHistory_range {period : BitVec 24} (bad : 3145727 < period.toNat ∨ count.toNat = 0 ∨ 8 < count.toNat) :
    exec (.readHistory p rep period count) s = .next (s.replied p (.plain .range)) := by
  have done : (s.beginTake p).runRead p (.history period count) = (s.beginTake p, .plain .range) := by
    by_cases high : lastPeriod < period.toNat
    · simp [State.runRead, historyReply, high]
    · have outside : countInRange count = false := by
        simp only [countInRange, Bool.and_eq_false_iff, decide_eq_false_iff_not, lastPeriod] at high ⊢
        omega
      simp [State.runRead, historyReply, high, outside]
  rw [exec_read_ready rfl ready rfl done, Reply.plain, if_pos rfl]

/-- READ_DAYS with its count in range (R71). -/
theorem exec_readDays (day : BitVec 16) (least : 1 ≤ count.toNat) (most : count.toNat ≤ 8) :
    exec (.readDays p rep day count) s = .next (s.readReplied p rep (.days day count)
      (ringReply 2 DayRecord.day dayData s.eau.days day.toNat count.toNat)) := by
  have done : (s.beginTake p).runRead p (.days day count) =
      (s.beginTake p, ringReply 2 DayRecord.day dayData s.eau.days day.toNat count.toNat) := by
    simp [State.runRead, daysReply, countInRange, least, most]
  rw [exec_read_ready rfl ready rfl done, if_neg (ringReply_status _ _ _)]

/-- READ_DAYS with its count out of range. -/
theorem exec_readDays_range (day : BitVec 16) (bad : count.toNat = 0 ∨ 8 < count.toNat) :
    exec (.readDays p rep day count) s = .next (s.replied p (.plain .range)) := by
  have outside : countInRange count = false := by
    simp only [countInRange, Bool.and_eq_false_iff, decide_eq_false_iff_not]
    omega
  have done : (s.beginTake p).runRead p (.days day count) = (s.beginTake p, .plain .range) := by
    simp [State.runRead, daysReply, outside]
  rw [exec_read_ready rfl ready rfl done, Reply.plain, if_pos rfl]

end Reads

/-- Settles O14: each read from its ring, empty and not, and the arguments out of range. -/
theorem historyReadsScanTheRing : Obligations.HistoryReadsScanTheRing := by
  unfold Obligations.HistoryReadsScanTheRing
  intro p rep period day count s ready halfHours days
  have halfHour : halfHourData = halfHours := funext halfHourData_eq
  have dayBytes : dayData = days := funext dayData_eq
  refine ⟨fun inRange least most empty => ?_, fun oldest newest first last inRange least most => ?_,
    exec_readHistory_range ready rep, fun least most empty => ?_, fun oldest newest first last least most => ?_,
    exec_readDays_range ready rep day⟩
  · rw [exec_readHistory ready rep inRange least most, empty, ringReply_nil]
  · rw [exec_readHistory ready rep inRange least most, ringReply_of_ends first last, halfHour]
  · rw [exec_readDays ready rep day least most, empty, ringReply_nil]
  · rw [exec_readDays ready rep day least most, ringReply_of_ends first last, dayBytes]

end Sys2Proof.Machine
end

section
/-! SUPPORT and CERTIFICATE. A half-hour boundary in every order of the blocks: in each the emission unit closes the period once, before the mode
controller's second and on one side or the other of the installation, which gives the next period the same copy (R55 to R58, R63 to R68,
R83, R159). -/

namespace Sys2Proof.Machine

/-! ## The pending copies (R57, R159) -/

/-- The store with its pending LIMITS and TARIFF copies in force. -/
def installed (p : PermitStore) : PermitStore :=
  { p with
    workingLimits := p.pendingLimits.or p.workingLimits, pendingLimits := none
    workingTariff := p.pendingTariff.or p.workingTariff, pendingTariff := none }

/-- Once in force the copies wait no more. -/
@[simp] theorem installed_installed (p : PermitStore) : installed (installed p) = installed p := by simp [installed]

/-- Where no copy waits the store stays. -/
theorem installed_of_none {p : PermitStore} (limits : p.pendingLimits = none) (tariff : p.pendingTariff = none) : installed p = p := by
  cases p
  simp_all [installed]

theorem State.installPending_pst (s : State) : s.installPending.pst = installed s.pst := by
  dsimp only [State.installPending]
  rcases tariff : s.pst.pendingTariff with _ | t
  · rcases limits : s.pst.pendingLimits with _ | l
    · simp [installed_of_none limits tariff]
    · simp [installed, tariff, limits]
  · rcases limits : s.pst.pendingLimits with _ | l
    · simp [installed, tariff, limits]
    · simp [installed, tariff, limits]

/-! ## The close of the period (R58, R61, R63 to R68) -/

/-- The record of a period that closes at a half-hour boundary. -/
abbrev closingRecord (p : OpenPeriod) (e : Emission) : HalfHourRecord := halfHourRecord p e.accounts false

/-- The half-hour ring with that record. -/
abbrev closingRing (p : OpenPeriod) (e : Emission) : List HalfHourRecord := pushRing 48 e.halfHours (closingRecord p e)

/-- The record of the day that closes with the period. -/
abbrev closingDay (p : OpenPeriod) (e : Emission) : DayRecord :=
  dayRecord p.copy (p.number / 48) ((closingRing p e).filter fun r => r.period / 48 == p.number / 48)

/-- What the close of a period makes of the unit, and its notices. -/
structure PeriodClosed (p next : OpenPeriod) (midnight : Bool) (e : Emission) (t : State) : Prop where
  halfHours : t.eau.halfHours = closingRing p e
  accounts  : t.eau.accounts = accountsZero
  period    : t.eau.period = some next
  days      : t.eau.days = if midnight then pushRing 8 e.days (closingDay p e) else e.days
  closed    : t.holds .pg .periodClosed = true
  exceeded  : (closingRecord p e).anyExceeded = true → t.holds .pg .exceedance = true ∧ t.holds .pd .exceedance = true
  dayClosed : midnight = true → t.holds .pg .dayClosed = true
  dayExceeded : midnight = true → (closingDay p e).anyExceeded = true → t.holds .pg .exceedance = true ∧ t.holds .pd .exceedance = true

/-- The day ring after the close of a day, and its notices (R65, R67, R68). -/
theorem State.closeDay_days (p : OpenPeriod) (s : State) :
    let day := dayRecord p.copy (p.number / 48) (s.eau.halfHours.filter fun r => r.period / 48 == p.number / 48)
    (s.closeDay p).eau = { s.eau with days := pushRing 8 s.eau.days day } ∧ (s.closeDay p).holds .pg .dayClosed = true
      ∧ (day.anyExceeded = true → (s.closeDay p).holds .pg .exceedance = true ∧ (s.closeDay p).holds .pd .exceedance = true) := by
  refine ⟨?_, ?_, fun exceeded => ⟨?_, ?_⟩⟩
  · simp [State.closeDay, HalfHourRecord.day]
  · exact State.holds_postIf_of_held (State.holds_postIf_of_held (State.holds_post _ _ _) _ _ _) _ _ _
  · exact State.holds_postIf_of_held ((State.holds_postIf _ _ _ _).trans (Bool.or_eq_true_iff.2 (.inr exceeded))) _ _ _
  · exact (State.holds_postIf _ _ _ _).trans (Bool.or_eq_true_iff.2 (.inr exceeded))

/-- The period that a boundary opens on a clock and a store. -/
def nextPeriod (c : Clock) (store : PermitStore) : OpenPeriod :=
  { number := c.latched.period, fired := false, isPart := false, copy := (installed store).workingLimits }

/-- The machine with the closing period on its rings. -/
def State.periodRecorded (p : OpenPeriod) (midnight : Bool) (s : State) : State :=
  if midnight then (s.recordPeriod p false).closeDay p else s.recordPeriod p false

/-- The unit's boundary work with a period open: the rings, then the accounts and the next period, then the notices. -/
theorem State.closeHalfHour_eq {p : OpenPeriod} {s : State} (isOpen : s.eau.period = some p) (midnight : Bool) :
    s.closeHalfHour midnight =
      ((s.periodRecorded p midnight).openPeriod (some (nextPeriod s.clock s.pst))).postClose (closingRecord p s.eau) := by
  simp only [State.closeHalfHour, isOpen]
  rfl

theorem State.closeHalfHour_closed {p : OpenPeriod} {s : State} (isOpen : s.eau.period = some p) (midnight : Bool) :
    PeriodClosed p (nextPeriod s.clock s.pst) midnight s.eau (s.closeHalfHour midnight) := by
  rw [State.closeHalfHour_eq isOpen]
  generalize nextPeriod s.clock s.pst = next
  obtain ⟨closed, exceeded⟩ := State.postClose_notices (closingRecord p s.eau) ((s.periodRecorded p midnight).openPeriod (some next))
  have later : PortsGrow (s.periodRecorded p midnight)
      (((s.periodRecorded p midnight).openPeriod (some next)).postClose (closingRecord p s.eau)) :=
    ((PortsGrow.refl _).openPeriod _).postClose _
  obtain ⟨dayEau, dayClosed, dayExceeded⟩ := (s.recordPeriod p false).closeDay_days p
  cases midnight with
  | false => exact ⟨by simp [State.periodRecorded], by simp, by simp, by simp [State.periodRecorded], closed, exceeded, nofun, nofun⟩
  | true =>
    exact ⟨by simp [State.periodRecorded, dayEau], by simp, by simp, by simp [State.periodRecorded, dayEau], closed, exceeded,
      fun _ => later.holds dayClosed, fun _ any => (dayExceeded any).imp later.holds later.holds⟩

/-! ## The parts of the event that close nothing (R48, R49) -/

/-- Of the emission unit at most the stale-in-FIRING condition moves, and the clock stays. -/
structure StaleMoved (s t : State) : Prop where
  clock : t.clock = s.clock
  eau   : ∃ on, t.eau = { s.eau with staleInFiring := on }

theorem StaleMoved.of_eau {s t : State} (clock : t.clock = s.clock) (eau : t.eau = s.eau) : StaleMoved s t := ⟨clock, _, eau⟩

theorem StaleMoved.trans {s t u : State} (h : StaleMoved s t) (k : StaleMoved t u) : StaleMoved s u := by
  obtain ⟨clock, on, eau⟩ := h
  obtain ⟨clock', on', eau'⟩ := k
  exact ⟨clock'.trans clock, on', by rw [eau', eau]⟩

theorem changeMode_staleMoved (m : ModeCtl) (s : State) : StaleMoved s (s.changeMode m) := by
  obtain ⟨on, eau, -⟩ := ((s.setMode m).postAll .mode).releaseHeldPlant.emissionMode_stale s.mode.mode
  exact ⟨by simp, on, by simpa [State.changeMode, State.deliverMode] using eau⟩

theorem entryCheckWith_staleMoved (lim : Option Limits) (s : State) : StaleMoved s (s.entryCheckWith lim) := by
  unfold State.entryCheckWith
  split
  · exact changeMode_staleMoved _ s
  · exact .of_eau rfl rfl

theorem modeSecond_staleMoved (lim : Option Limits) (s : State) : StaleMoved s (s.modeSecond lim) := by
  have items (m : ModeCtl) : StaleMoved s (s.setMode m) := .of_eau rfl rfl
  dsimp only [State.modeSecond]
  split
  · split
    · exact (items _).trans (changeMode_staleMoved _ _)
    · exact items _
  · exact (items _).trans (entryCheckWith_staleMoved lim _)
  · exact (items _).trans (entryCheckWith_staleMoved lim _)
  · exact items _

/-! ## One part of the event, and the parts in an order -/

section Boundary

variable {k : EventKind} (old : Bool)

theorem subEvent_staleMoved {e : SubEvent} (other : e ≠ .emission) (s : State) : StaleMoved s (s.subEvent k old e) := by
  cases e with
  | emission => exact absurd rfl other
  | envelope => exact .of_eau (by simp) (by simp [State.subEvent])
  | install =>
    refine .of_eau (by simp) ?_
    dsimp only [State.subEvent]
    split <;> simp
  | activation =>
    refine .of_eau (by simp) ?_
    dsimp only [State.subEvent]
    split <;> simp
  | mode => exact modeSecond_staleMoved _ s

theorem subEvents_staleMoved {order : List SubEvent} (others : .emission ∉ order) (s : State) :
    StaleMoved s (s.subEvents k old order) := by
  induction order generalizing s with
  | nil => exact .of_eau rfl rfl
  | cons e es ih =>
    obtain ⟨other, rest⟩ := not_or.1 (mt List.mem_cons.2 others)
    exact (subEvent_staleMoved old (Ne.symm other) s).trans (ih rest _)

/-- The mode is the controller's own part of the event. -/
theorem subEvent_mode {e : SubEvent} (other : e ≠ .mode) (s : State) : (s.subEvent k old e).mode = s.mode := by
  cases e with
  | emission => simp [State.subEvent]
  | envelope => simp [State.subEvent]
  | install =>
    dsimp only [State.subEvent]
    split <;> simp
  | activation =>
    dsimp only [State.subEvent]
    split <;> simp
  | mode => exact absurd rfl other

theorem subEvents_mode {order : List SubEvent} (others : .mode ∉ order) (s : State) : (s.subEvents k old order).mode = s.mode := by
  induction order generalizing s with
  | nil => rfl
  | cons e es ih =>
    obtain ⟨other, rest⟩ := not_or.1 (mt List.mem_cons.2 others)
    exact (ih rest _).trans (subEvent_mode old (Ne.symm other) s)

variable (boundary : isHalfHour k.time = true)
include boundary

/-- The store is the installation's part of the event at a boundary. -/
theorem subEvent_pst (e : SubEvent) (s : State) : (s.subEvent k old e).pst = if e = .install then installed s.pst else s.pst := by
  cases e with
  | emission => simp [State.subEvent]
  | envelope => simp [State.subEvent]
  | install => simp [State.subEvent, boundary, State.installPending_pst]
  | activation =>
    dsimp only [State.subEvent]
    split <;> simp
  | mode => simp [State.subEvent, State.modeSecond_kept]

theorem subEvents_pst (order : List SubEvent) (s : State) :
    (s.subEvents k old order).pst = if .install ∈ order then installed s.pst else s.pst := by
  induction order generalizing s with
  | nil => rfl
  | cons e es ih =>
    refine (ih (s.subEvent k old e)).trans ?_
    rw [subEvent_pst old boundary]
    by_cases now : e = .install
    · simp [now]
    · simp [now, Ne.symm now]

/-- The copies that a boundary puts in force are the same whether the installation has been or is to come. -/
theorem subEvents_installed (order : List SubEvent) (s : State) : installed (s.subEvents k old order).pst = installed s.pst := by
  rw [subEvents_pst old boundary]
  split <;> simp

/-- The emission unit's part of a boundary: the period closes as one that the plant fired in, if it fires (R56). -/
theorem subEvent_emission_closed {p : OpenPeriod} {e : Emission} {s : State} (isOpen : e.period = some p)
    (eau : ∃ on, s.eau = { e with staleInFiring := on }) :
    PeriodClosed { p with fired := p.fired || s.mode.mode == .firing } (nextPeriod s.clock s.pst) (isDayBoundary k.time) e
      (s.subEvent k old .emission) := by
  obtain ⟨before, eau⟩ := eau
  obtain ⟨on, aged, -⟩ := s.emissionAge_eau
  rw [eau] at aged
  have fired : s.emissionAge.eau.period = some { p with fired := p.fired || s.mode.mode == .firing } := by
    simp [aged, isOpen, State.plantMode]
  have closed := State.closeHalfHour_closed fired (isDayBoundary k.time)
  simp only [aged, State.emissionAge_frame] at closed
  have work : s.subEvent k old .emission = s.emissionAge.closeHalfHour (isDayBoundary k.time) := by
    simp [State.subEvent, State.emissionSecond, boundary]
  rw [work]
  exact ⟨closed.halfHours, closed.accounts, closed.period, closed.days, closed.closed, closed.exceeded, closed.dayClosed,
    closed.dayExceeded⟩

end Boundary

/-- What comes after the close leaves it. -/
theorem PeriodClosed.later {p next : OpenPeriod} {midnight : Bool} {e : Emission} {t u : State} (h : PeriodClosed p next midnight e t)
    (moved : StaleMoved t u) (grow : PortsGrow t u) : PeriodClosed p next midnight e u := by
  obtain ⟨-, on, eau⟩ := moved
  exact ⟨by rw [eau, h.halfHours], by rw [eau, h.accounts], by rw [eau, h.period], by rw [eau, h.days], grow.holds h.closed,
    fun any => (h.exceeded any).imp grow.holds grow.holds, fun day => grow.holds (h.dayClosed day),
    fun day any => (h.dayExceeded day any).imp grow.holds grow.holds⟩

/-! ## Every order drawn -/

/-- An order in which the unit takes the event once, before the mode controller, and the installation has its place. -/
def closesOnce (order : List SubEvent) : Bool :=
  let first := order.takeWhile (· != .emission)
  let rest := order.drop (first.length + 1)
  order == first ++ .emission :: rest && !first.contains .mode && !rest.contains .emission && order.contains .install

theorem eventOrder_closesOnce (free : Nat) : closesOnce (eventOrder free).order = true := by
  have orders : ∀ base < 7, ∀ pos < 5, closesOnce (insertActivation pos (orderBases.getD base [])) = true := by decide
  exact orders _ (Nat.mod_lt _ (by decide)) _ (Nat.mod_lt _ (by decide))

theorem closesOnce_split {order : List SubEvent} (h : closesOnce order = true) :
    ∃ first rest, order = first ++ .emission :: rest ∧ .emission ∉ first ∧ .mode ∉ first ∧ .emission ∉ rest ∧ .install ∈ order := by
  simp only [closesOnce, Bool.and_eq_true, beq_iff_eq, Bool.not_eq_true', List.contains_eq_mem, decide_eq_false_iff_not,
    decide_eq_true_eq] at h
  obtain ⟨⟨⟨split, mode⟩, rest⟩, install⟩ := h
  exact ⟨_, _, split, fun mem => by simpa using List.mem_takeWhile_imp mem, mode, rest, install⟩

/-- The parts of a boundary in such an order. -/
theorem subEvents_closed {k : EventKind} (boundary : isHalfHour k.time = true) (old : Bool) {order : List SubEvent}
    (once : closesOnce order = true) {p : OpenPeriod} {s : State} (isOpen : s.eau.period = some p) :
    PeriodClosed { p with fired := p.fired || s.mode.mode == .firing } (nextPeriod s.clock s.pst) (isDayBoundary k.time) s.eau
        (s.subEvents k old order)
      ∧ (s.subEvents k old order).pst = installed s.pst := by
  obtain ⟨first, rest, split, noEmission, noMode, noMore, install⟩ := closesOnce_split once
  refine ⟨?_, by rw [subEvents_pst old boundary, if_pos install]⟩
  have parts : s.subEvents k old order = ((s.subEvents k old first).subEvent k old .emission).subEvents k old rest := by
    rw [split]
    exact List.foldl_append
  obtain ⟨clock, eau⟩ := subEvents_staleMoved (k := k) old noEmission s
  have closed := subEvent_emission_closed old boundary isOpen eau
  have next : nextPeriod (s.subEvents k old first).clock (s.subEvents k old first).pst = nextPeriod s.clock s.pst := by
    rw [nextPeriod, clock, subEvents_installed old boundary]
    rfl
  rw [subEvents_mode old noMode, next] at closed
  rw [parts]
  exact closed.later (subEvents_staleMoved old noMore _) ((PortsGrow.refl _).subEvents _ _ _)

/-- The same of all the blocks, the ledger's own second before or after the rest. -/
theorem State.blocksSecond_closed {k : EventKind} (boundary : isHalfHour k.time = true) {o : EventOrder}
    (once : closesOnce o.order = true) {p : OpenPeriod} {s : State} (isOpen : s.eau.period = some p) :
    PeriodClosed { p with fired := p.fired || s.mode.mode == .firing } (nextPeriod s.clock s.pst) (isDayBoundary k.time) s.eau
        (s.blocksSecond k o)
      ∧ (s.blocksSecond k o).pst = installed s.pst := by
  unfold State.blocksSecond
  split
  · have parts := subEvents_closed boundary o.modeSeesOld once (s := s.ledgerSecond) (p := p) (by simpa using isOpen)
    simpa only [State.ledgerSecond_frame] using parts
  · obtain ⟨closed, pst⟩ := subEvents_closed boundary o.modeSeesOld once isOpen
    exact ⟨closed.later (.of_eau (by simp) (by simp)) (PortsGrow.refl _).ledgerSecond, by simpa using pst⟩

/-! ## The statement -/

/-- One second after second 59 of minute 29 or 59 is a half-hour boundary (R3). -/
theorem isHalfHour_advance {t : ClockTime} (last : t.second = 59) (minute : t.minute = 29 ∨ t.minute = 59) :
    isHalfHour (advance t) = true := by
  rcases minute with half | full
  · simp [advance, last, half, isHalfHour, isMinute]
  · by_cases hour : t.hour + 1 < 24 <;> simp [advance, last, full, hour, isHalfHour, isMinute]

/-- It is a day boundary one second after 23:59:59 (R3). -/
theorem isDayBoundary_advance_iff {t : ClockTime} (range : TimeInRange t) (last : t.second = 59)
    (minute : t.minute = 29 ∨ t.minute = 59) : isDayBoundary (advance t) = true ↔ t.hour = 23 ∧ t.minute = 59 := by
  obtain ⟨-, hour, -, -⟩ := range
  rcases minute with half | full
  · simp [advance, last, half, isDayBoundary]
  · by_cases day : t.hour + 1 < 24
    · simp [advance, last, full, day, isDayBoundary]
      omega
    · simp [advance, last, full, day, isDayBoundary, isHalfHour, isMinute]
      omega

/-- Settles O24: the close of the period in whatever order was drawn. -/
theorem halfHourBoundaryClosesAndOpens : Obligations.HalfHourBoundaryClosesAndOpens := by
  unfold Obligations.HalfHourBoundaryClosesAndOpens
  intro p s running range last minute isOpen closing record ring day midnight
  obtain ⟨k, free, time, -, second⟩ := s.secondEvent_eq
  have boundary : isHalfHour k.time = true := time ▸ isHalfHour_advance last minute
  have dayBoundary : isDayBoundary k.time = true ↔ midnight := time ▸ isDayBoundary_advance_iff range last minute
  have clock : s.secondTicked.clock.latched.period = periodOf (advance s.clock.time) := by
    rw [State.secondTicked_clock]
    rfl
  obtain ⟨closed, pst⟩ := State.blocksSecond_closed boundary (eventOrder_closesOnce free) (s := s.secondTicked) (p := p)
    (by simpa using isOpen)
  simp only [nextPeriod, clock, State.secondTicked_frame] at closed pst
  rw [← second] at closed pst
  refine ⟨_, exec_secondEvent_running running, closed.halfHours, closed.accounts, closed.period, ?_, pst, closed.closed,
    closed.exceeded, fun h => closed.dayClosed (dayBoundary.2 h), fun h => closed.dayExceeded (dayBoundary.2 h)⟩
  exact closed.days.trans (if_congr dayBoundary rfl rfl)

end Sys2Proof.Machine
end

section
/-! SUPPORT. The events that reach the mode controller and the stroke channels, for any relation between the blocks before and after: once it holds
of new items in the same mode, of a change of mode and of other stroke records, it holds of each of those events (R20 to R35, R98 to R105). -/

namespace Sys2Proof.Machine

/-- A relation that the parts of those events keep. -/
structure KeptByController (R : State → State → Prop) : Prop where
  refl     : ∀ s, R s s
  trans    : ∀ {s t u}, R s t → R t u → R s u
  ports    : ∀ s ports, R s (s.setPorts ports)
  items    : ∀ {s : State} {m : ModeCtl}, m.mode = s.mode.mode → R s (s.setMode m)
  change   : ∀ m s, R s (s.changeMode m)
  records  : ∀ (s : State) channels rams, R s (s.setSta { s.sta with channels := channels, rams := rams })
  cleaning : ∀ (s : State) a, R s (s.setEau { s.eau with cleaning := a })
  draw     : ∀ s : State, R s s.draw.2

namespace KeptByController

variable {R : State → State → Prop} (k : KeptByController R)
include k

/-! ## Conditions from the other blocks (R24, R26 to R28, R105) -/

theorem entryCheckWith (lim : Option Limits) (s : State) : R s (s.entryCheckWith lim) := by
  unfold State.entryCheckWith
  split
  · exact k.change _ s
  · exact k.refl s

theorem holdArises (alone : HoldCauses) (add : HoldCauses → HoldCauses) (s : State) : R s (s.holdArises alone add) := by
  unfold State.holdArises
  split
  · exact k.change _ s
  · exact k.items rfl
  · exact k.refl s

theorem holdClears (remove : HoldCauses → HoldCauses) (s : State) : R s (s.holdClears remove) := by
  unfold State.holdClears
  split
  · exact k.items rfl
  · exact k.refl s

theorem takeCleaning (a : Availability) (s : State) : R s (s.takeCleaning a) := by
  have told : R s (s.setMode { s.mode with cleaning := a }) := k.items rfl
  cases a with
  | unavailable => exact k.trans (k.trans told (k.holdArises _ _ _)) (k.entryCheckWith _ _)
  | available => exact k.trans (k.trans told (k.holdClears _ _)) (k.entryCheckWith _ _)

theorem handRams (before : Nat) (s : State) : R s (s.handRams before) := by
  have told : R s (s.setMode { s.mode with rams := s.sta.rams }) := k.items rfl
  unfold State.handRams
  split
  · exact k.refl s
  dsimp only
  split
  · exact k.trans (k.trans told (k.holdArises _ _ _)) (k.entryCheckWith _ _)
  · exact k.trans (k.trans told (k.holdClears _ _)) (k.entryCheckWith _ _)

theorem putChannel (ch : StrokeChannel) (r : StrokeRecord) (s : State) : R s (s.putChannel ch r) :=
  k.trans (k.records s _ _) (k.handRams _ _)

/-! ## Temperature (R20 to R23) -/

theorem compareTmin (l : Limits) (t : Nat) (s : State) : R s (s.compareTmin l t) := by
  unfold State.compareTmin
  split
  · split
    · exact k.items rfl
    · exact k.refl s
  · split
    · exact k.change _ s
    · exact k.refl s
  · split
    · exact k.items rfl
    · exact k.items rfl
  · exact k.refl s

theorem compareTemperature (l : Limits) (t : Nat) (s : State) : R s (s.compareTemperature l t) := by
  unfold State.compareTemperature
  split
  · exact k.refl s
  · split
    · exact k.items rfl
    · exact k.refl s
  · split
    · exact k.change _ s
    split
    · exact k.change _ s
    · exact k.refl s
  · split
    · exact k.change _ s
    · exact k.compareTmin l t s

theorem takeTemperature (t : Nat) (s : State) : R s (s.takeTemperature t) := by
  have recorded : R s (s.setMode { s.mode with temp := some t, tempAge := 0 }) := k.items rfl
  unfold State.takeTemperature
  refine k.trans ?_ (k.entryCheckWith _ _)
  split
  · exact k.trans recorded (k.compareTemperature _ _ _)
  · exact recorded

/-- The controller's second event: in WARMING and HOLD the timer, in every mode the age. -/
theorem modeSecond (lim : Option Limits) (s : State) : R s (s.modeSecond lim) := by
  have aged : R s (s.setMode { s.mode with tempAge := satAdd 65535 1 s.mode.tempAge }) := k.items rfl
  have counted {m : ModeCtl} (mode : m.mode = s.mode.mode) : R s ((s.setMode (qualify lim m)).entryCheckWith lim) :=
    k.trans (k.items ((qualify_mode lim m).trans mode)) (k.entryCheckWith lim _)
  dsimp only [State.modeSecond]
  split
  · split
    · exact k.trans aged (k.change _ _)
    · exact aged
  · exact counted rfl
  · exact counted rfl
  · exact aged

/-! ## The stroke channels (R98 to R102) -/

theorem putRecord (ch : StrokeChannel) (r : StrokeRecord) (s : State) : R s (s.putRecord ch r) := k.records s _ _

theorem grateJamTrip (s : State) : R s s.grateJamTrip := by
  unfold State.grateJamTrip
  split
  · exact k.change _ s
  · exact k.change _ s
  · exact k.change _ s
  · exact k.refl s

theorem expirePeriod (ch : StrokeChannel) (s : State) : R s (s.expirePeriod ch) := by
  dsimp only [State.expirePeriod]
  split
  · exact k.putRecord _ _ s
  · exact k.refl s

theorem expireLimit (ch : StrokeChannel) (s : State) : R s (s.expireLimit ch) := by
  have posted (u : State) : R u (u.post .jam .pf) := k.ports u _
  unfold State.expireLimit
  split
  · split
    · exact k.trans (posted s) (k.putChannel _ _ _)
    · dsimp only [State.jamGrate]
      split
      · exact k.putRecord _ _ s
      · exact k.trans (k.trans (k.putRecord _ _ s) (posted _)) (k.grateJamTrip _)
  · exact k.refl s

theorem strokeUnit (s : State) : R s s.strokeUnit :=
  k.trans (State.expireAll_related k.refl k.trans k.draw (fun u ch => k.trans (k.expirePeriod ch u) (k.expireLimit ch _)) s)
    (k.records _ _ _)

/-! ## The commands -/

theorem doStart (p : Port) (s : State) : R s (s.doStart p).1 := by
  unfold State.doStart
  split
  · exact k.refl s
  split
  · exact k.refl s
  split
  · exact k.refl s
  split
  · exact k.refl s
  · exact k.change _ s

theorem doFeed (p : Port) (s : State) : R s (s.doFeed p).1 := by
  have armed : R s (s.setMode { s.mode with feedArmed := true }) := k.items rfl
  unfold State.doFeed
  split
  · exact k.refl s
  split
  · exact k.refl s
  · exact k.trans armed (k.entryCheckWith _ _)

theorem doStop (s : State) : R s s.doStop.1 := by
  unfold State.doStop
  split
  · exact k.change _ s
  · exact k.change _ s
  · exact k.change _ s
  · exact k.refl s
  · exact k.refl s
  · exact k.refl s

theorem doTrip (p : Port) (cause : BitVec 8) (s : State) : R s (s.doTrip p cause).1 := by
  have taken (code : Nat) : R s (s.takeTrip p code) := by
    unfold State.takeTrip
    split
    · exact k.items rfl
    · exact k.change _ s
  unfold State.doTrip
  split
  · exact k.refl s
  split
  · exact k.refl s
  · exact taken _

theorem doClearTrip (p : Port) (s : State) : R s (s.doClearTrip p).1 := by
  unfold State.doClearTrip
  split
  · exact k.refl s
  split
  · exact k.refl s
  split
  · exact k.refl s
  · exact k.change _ s

theorem doPostTemperature (p : Port) (value : BitVec 16) (s : State) : R s (s.doPostTemperature p value).1 := by
  unfold State.doPostTemperature
  split
  · exact k.refl s
  · exact k.takeTemperature _ s

theorem doSetCleaning (p : Port) (code : BitVec 8) (s : State) : R s (s.doSetCleaning p code).1 := by
  unfold State.doSetCleaning
  split
  · exact k.refl s
  split
  · exact k.refl s
  split
  · exact k.refl s
  · exact k.trans (k.cleaning s _) (k.takeCleaning _ _)

theorem doSetChannel (p : Port) (number enabled source : BitVec 8) (fixedPeriod : BitVec 16) (s : State) :
    R s (s.doSetChannel p number enabled source fixedPeriod).1 := by
  unfold State.doSetChannel
  split
  · exact k.refl s
  split
  · exact k.putChannel _ _ s
  · exact k.refl s

theorem doClearJam (p : Port) (number : BitVec 8) (s : State) : R s (s.doClearJam p number).1 := by
  unfold State.doClearJam
  split
  · exact k.refl s
  split
  · exact k.refl s
  split
  · exact k.putChannel _ _ s
  · exact k.refl s

end KeptByController

end Sys2Proof.Machine
end

section
/-! SUPPORT. The grant's law and the lanes under the operations of the blocks: whatever forms the target again leaves the law, and what forms no
target leaves its terms (R75, R80 to R88, R106). -/

namespace Sys2Proof.Machine

/-! ## The lanes (R106) -/

/-- Lanes that stay, with the grant and the split, or that have been formed again. -/
theorem laneLaw_of_kept_or_formed {a b : StrokeArray} (split : b.split = a.split)
    (lanes : (b.grant = a.grant ∧ b.laneA = a.laneA ∧ b.laneB = a.laneB) ∨ LaneLaw b) (law : LaneLaw a) : LaneLaw b := by
  rcases lanes with ⟨grant, laneA, laneB⟩ | formed
  · simpa only [LaneLaw, grant, laneA, laneB, split] using law
  · exact formed

theorem GrantsHanded.laneLaw {a b : StrokeArray} (h : GrantsHanded a b) (law : LaneLaw a) : LaneLaw b :=
  laneLaw_of_kept_or_formed (by rw [h.items]) h.lanes law

theorem CopyHanded.laneLaw {pl : Option Plant} {new : Bool} {a b : StrokeArray} (h : CopyHanded pl new a b) (law : LaneLaw a) :
    LaneLaw b :=
  laneLaw_of_kept_or_formed (by rw [h.items]) h.lanes law

/-! ## What an event leaves of the two laws -/

/-- A change of state keeps the grant's law and the lanes. -/
structure GrantKept (s t : State) : Prop where
  law   : GrantLaw s → GrantLaw t
  lanes : LaneLaw s.sta → LaneLaw t.sta

theorem GrantKept.refl (s : State) : GrantKept s s := ⟨id, id⟩

theorem GrantKept.trans {s t u : State} (h : GrantKept s t) (k : GrantKept t u) : GrantKept s u := ⟨k.law ∘ h.law, k.lanes ∘ h.lanes⟩

/-- The mode, the envelope, the request and the array's own items stay. -/
theorem GrantKept.of_items {s t : State} (mode : t.mode.mode = s.mode.mode) (feu : t.feu = s.feu) (request : t.slg.request = s.slg.request)
    (sta : t.sta = { s.sta with channels := t.sta.channels, rams := t.sta.rams }) : GrantKept s t := by
  constructor
  · rw [GrantLaw, GrantLaw, mode, feu, request, sta]
    exact id
  · rw [LaneLaw, LaneLaw, sta]
    exact id

/-- The blocks that the two laws are about stay. -/
theorem GrantKept.of_blocks {s t : State} (h : t.mode = s.mode ∧ t.feu = s.feu ∧ t.slg.request = s.slg.request ∧ t.sta = s.sta) :
    GrantKept s t := by
  obtain ⟨mode, feu, request, sta⟩ := h
  exact .of_items (congrArg ModeCtl.mode mode) feu request (by rw [sta])

/-! ## The target formed again (R84, R85, R88) -/

/-- The law stands after the target has been formed again, whatever the target was. -/
theorem GrantLaw.of_retarget {s : State} (asked : s.feu.request = s.slg.request) (held : GrantHeld s) : GrantLaw s.retarget := by
  refine ⟨?_, ?_, ?_, ?_, held.retarget⟩
  · simpa [retargeted] using asked
  · simp [retargeted, targetOf]
  · simp [retargeted, limitingFlag]
  · simp [retargeted]

/-- Another figure or another cap, and the target formed again. -/
theorem retarget_grantKept {s : State} (e : Envelope) (request : e.request = s.feu.request) (grant : e.grant = s.feu.grant) :
    GrantKept s (s.setFeu e).retarget := by
  refine ⟨fun ⟨asked, _, _, _, held⟩ => ?_, (GrantsHanded.retarget (s := s.setFeu e) (.refl _)).laneLaw⟩
  exact GrantLaw.of_retarget (request.trans asked) (held.trans grant.symm)

theorem recompute_grantKept (s : State) : GrantKept s s.recompute := retarget_grantKept _ rfl rfl

theorem installLimits_grantKept (s : State) : GrantKept s s.installLimits := by
  unfold State.installLimits
  split
  · exact retarget_grantKept (s := s) _ rfl rfl
  · exact recompute_grantKept s

/-- The accounts, or other items of the emission unit, and the recomputation that they call for (R80). -/
theorem setEau_recompute_grantKept (e : Emission) (s : State) : GrantKept s (s.setEau e).recompute := by
  have set : GrantKept s (s.setEau e) := .of_blocks ⟨rfl, rfl, rfl, rfl⟩
  exact set.trans (recompute_grantKept _)

/-! ## The request (R75) -/

/-- The ledger's request, whatever it was before, is the envelope's once it has been written. -/
theorem writeRequest_grantKept (s : State) : GrantKept s s.writeRequest := by
  refine ⟨fun ⟨_, target, limiting, grant, held⟩ => ?_, (GrantsHanded.writeRequest (.refl _)).laneLaw⟩
  dsimp only [State.writeRequest, State.takeRequest]
  split
  · next same => exact ⟨same.symm, target, limiting, grant, held⟩
  · exact GrantLaw.of_retarget rfl held

theorem reallocate_grantKept (s : State) : GrantKept s s.reallocate := by
  refine .of_blocks ⟨by simp, by simp, ?_, by simp⟩
  rw [State.reallocate_slg]
  rfl

/-- Other items of the ledger but its request. -/
theorem setSlg_grantKept {s : State} {l : Ledger} (request : l.request = s.slg.request) : GrantKept s (s.setSlg l) :=
  .of_blocks ⟨rfl, rfl, request, rfl⟩

/-- New items of the ledger, the request that they call for, and the allocation (R118, R119, R126, R135). -/
theorem ledgerFormed_grantKept {s : State} {l : Ledger} (request : l.request = s.slg.request) :
    GrantKept s ((s.setSlg l).writeRequest).reallocate :=
  ((setSlg_grantKept request).trans (writeRequest_grantKept _)).trans (reallocate_grantKept _)

theorem activateOrder_grantKept (o : Order) (s : State) : GrantKept s (s.activateOrder o) := by
  have posted (u : State) : GrantKept u (u.post .orderActive .pd) := .of_blocks (by simp)
  exact (ledgerFormed_grantKept (by rfl)).trans (posted _)

theorem runActivation_grantKept (now : Nat) (s : State) : GrantKept s (s.runActivation now) := by
  rcases due : (s.slg.queue.filter (·.key ≤ now)).getLast? with _ | last
  · rw [State.runActivation_none (List.getLast?_eq_none_iff.1 due)]
    exact .refl s
  · have queued : GrantKept s (s.requeued now) := .of_blocks (by simp [State.requeued])
    rw [State.runActivation_some due]
    exact queued.trans (activateOrder_grantKept _ _)

theorem plantInForce_grantKept (pl : Plant) (s : State) : GrantKept s (s.plantInForce pl) := by
  have inForce : GrantKept s (s.setPst { s.pst with workingPlant := some pl }) := .of_blocks ⟨rfl, rfl, rfl, rfl⟩
  have taken (u : State) : GrantKept u (u.setSta (takePlant u.plantMode u.plant u.sta)) := .of_items rfl rfl rfl rfl
  exact (inForce.trans (taken _)).trans (ledgerFormed_grantKept (by rfl))

/-! ## The second event of the units (R82, R86, R117, R129) -/

/-- The grant rises to its target at most. -/
theorem rampedGrant_le {e : Envelope} (pl : Option Plant) (h : e.grant ≤ e.target) : rampedGrant pl e ≤ e.target := by
  unfold rampedGrant
  split
  · split
    · exact Nat.min_le_left _ _
    · exact h
  · exact h

theorem rampGrant_grantKept (s : State) :
    GrantKept s ((s.setFeu { s.feu with grant := rampedGrant s.plant s.feu }).handGrant s.feu.grant) := by
  have handed (e : Envelope) : GrantsHanded s.sta ((s.setFeu e).handGrant s.feu.grant).sta :=
    GrantsHanded.handGrant (s := s.setFeu e) (.refl _) _
  refine ⟨fun ⟨asked, target, limiting, grant, held⟩ => ?_, (handed _).laneLaw⟩
  have risen := rampedGrant_le s.plant grant
  refine ⟨by simpa using asked, by simpa [targetOf] using target, by simpa [limitingFlag] using limiting, by simpa using risen, ?_⟩
  simp only [State.handGrant_sta, State.handGrant_frame]
  split
  · next same => exact held.trans same.symm
  · rfl

theorem envelopeSecond_grantKept (s : State) : GrantKept s s.envelopeSecond :=
  (retarget_grantKept { s.feu with effectiveCap := recoveredCap s.limits s.feu } rfl rfl).trans (rampGrant_grantKept _)

theorem ledgerSecond_grantKept (s : State) : GrantKept s s.ledgerSecond := by
  have steam (u : State) : GrantKept u u.steamSecond := .of_blocks (by simp [State.steamSecond])
  have ramped (u : State) : GrantKept u u.rampSetpoints := by
    dsimp only [State.rampSetpoints]
    split
    · exact .refl u
    · exact (setSlg_grantKept (by rfl)).trans (reallocate_grantKept _)
  exact (steam s).trans (ramped _)

/-! ## The emission unit (R47 to R49, R54, R58, R62) -/

theorem beginStale_grantKept (s : State) : GrantKept s s.beginStale := by
  have posted (u : State) : GrantKept u ((u.post .sampleStale .pg).post .sampleStale .pf) := .of_blocks (by simp)
  exact (setEau_recompute_grantKept _ s).trans (posted _)

theorem emissionAge_grantKept (s : State) : GrantKept s s.emissionAge := by
  have aged (e : Emission) : GrantKept s (s.setEau e) := .of_blocks ⟨rfl, rfl, rfl, rfl⟩
  dsimp only [State.emissionAge]
  split
  · exact (aged _).trans (beginStale_grantKept _)
  · exact aged _

theorem postClose_grantKept (r : HalfHourRecord) (s : State) : GrantKept s (s.postClose r) := .of_blocks (by simp)

theorem closeHalfHour_grantKept (dayBoundary : Bool) (s : State) : GrantKept s (s.closeHalfHour dayBoundary) := by
  have recorded (p : OpenPeriod) : GrantKept s (s.periodRecorded p dayBoundary) := by
    unfold State.periodRecorded
    split <;> exact .of_blocks (by simp)
  rcases isOpen : s.eau.period with _ | p
  · simp only [State.closeHalfHour, isOpen]
    exact setEau_recompute_grantKept _ s
  · rw [State.closeHalfHour_eq isOpen]
    exact ((recorded p).trans (setEau_recompute_grantKept _ _)).trans (postClose_grantKept _ _)

theorem closeAtStop_grantKept (s : State) : GrantKept s s.closeAtStop := by
  unfold State.closeAtStop
  split
  · exact setEau_recompute_grantKept _ s
  · next p _ =>
    have recorded : GrantKept s (s.recordPeriod p true) := .of_blocks (by simp)
    exact (recorded.trans (setEau_recompute_grantKept _ _)).trans (postClose_grantKept _ _)

theorem installPending_grantKept (s : State) : GrantKept s s.installPending := by
  have put (u : State) (x : PermitStore) : GrantKept u (u.setPst x) := .of_blocks ⟨rfl, rfl, rfl, rfl⟩
  dsimp only [State.installPending]
  rcases s.pst.pendingTariff with _ | tariff
  · dsimp only
    split
    · exact (put s _).trans (installLimits_grantKept _)
    · exact .refl s
  · dsimp only
    split
    · exact ((put s _).trans (put _ _)).trans (installLimits_grantKept _)
    · exact put s _

end Sys2Proof.Machine
end

section
/-! CERTIFICATE. Every step keeps the grant's law and the lanes: a change of mode, the commands and the events of the blocks, then the rows (R75, R84,
R85, R87, R88, R106). -/

namespace Sys2Proof.Machine

/-! ## A change of mode (R87) -/

/-- A held copy put in force leaves the request of the ledger at the envelope. -/
theorem releaseHeldPlant_asked {s : State} (asked : s.feu.request = s.slg.request) :
    s.releaseHeldPlant.feu.request = s.releaseHeldPlant.slg.request := by
  unfold State.releaseHeldPlant
  split
  · split
    · obtain ⟨-, -, written⟩ := plantInForce_reaches _ (s.setPst { s.pst with heldPlant := none })
      exact written
    · exact asked
  · exact asked

/-- A change of mode forms the target again, whatever the mode entered. -/
theorem changeMode_grantKept (m : ModeCtl) (s : State) : GrantKept s (s.changeMode m) := by
  obtain ⟨-, feu, slg, -⟩ := State.changeMode_blocks m s
  have gates (mode : Mode) (pl : Option Plant) (a : StrokeArray) (law : LaneLaw a) : LaneLaw (takeMode mode pl a) := law
  refine ⟨fun ⟨asked, _, _, _, held⟩ => ?_, fun law => ?_⟩
  · have enters : GrantHeld (s.entering m) := by simpa [GrantHeld] using held
    have released := releaseHeldPlant_asked (s := s.entering m) (by simpa using asked)
    have delivered : GrantLaw (s.modeDelivered m) :=
      GrantLaw.of_retarget (by simpa using released) (enters.releaseHeldPlant.emissionMode _)
    have mode : (s.modeDelivered m).mode = m := by simp
    rw [GrantLaw, mode] at delivered
    rw [GrantLaw, feu, slg, State.changeMode_sta, State.changeMode_mode]
    exact delivered
  · rw [State.changeMode_sta]
    exact gates _ _ _ ((State.modeDelivered_copyHanded m s).laneLaw law)

theorem grantKept_byController : KeptByController GrantKept where
  refl := GrantKept.refl
  trans := GrantKept.trans
  ports _ _ := .of_blocks ⟨rfl, rfl, rfl, rfl⟩
  items mode := .of_items mode rfl rfl rfl
  change := changeMode_grantKept
  records _ _ _ := .of_items rfl rfl rfl rfl
  cleaning _ _ := .of_blocks ⟨rfl, rfl, rfl, rfl⟩
  draw _ := .of_blocks ⟨rfl, rfl, rfl, rfl⟩

/-! ## The second event (R82, R83, R86) -/

theorem subEvent_grantKept (k : EventKind) (old : Bool) (e : SubEvent) (s : State) : GrantKept s (s.subEvent k old e) := by
  cases e with
  | emission =>
    dsimp only [State.subEvent, State.emissionSecond]
    split
    · exact (emissionAge_grantKept s).trans (closeHalfHour_grantKept _ _)
    · exact emissionAge_grantKept s
  | envelope => exact envelopeSecond_grantKept s
  | install =>
    dsimp only [State.subEvent]
    split
    · exact installPending_grantKept s
    · exact .refl s
  | activation =>
    have minute : GrantKept s (s.ledgerMinute k.wrapped) := by
      unfold State.ledgerMinute
      refine .trans ?_ (runActivation_grantKept _ _)
      split
      · exact setSlg_grantKept rfl
      · exact .refl s
    dsimp only [State.subEvent]
    split
    · exact minute
    · exact .refl s
  | mode => exact grantKept_byController.modeSecond _ s

@[simp] theorem State.secondTicked_feu (s : State) : s.secondTicked.feu = s.feu := by simp [State.secondTicked]

theorem secondEvent_grantKept (s : State) : GrantKept s s.secondEvent := by
  obtain ⟨k, free, -, -, second⟩ := s.secondEvent_eq
  have ticked : GrantKept s s.secondTicked := .of_blocks (by simp)
  rw [second]
  exact ticked.trans (State.blocksSecond_related GrantKept.refl GrantKept.trans subEvent_grantKept ledgerSecond_grantKept k _ _)

theorem refckEdge_grantKept (s : State) : GrantKept s s.refckEdge := by
  unfold State.refckEdge
  split
  · exact .refl s
  split
  · exact .of_blocks ⟨rfl, rfl, rfl, rfl⟩
  · exact secondEvent_grantKept s

/-! ## The resets (R92, R115, R138) -/

/-- The values of a reset: no request, no grant, and a mode that is not FIRING. -/
theorem GrantKept.of_reset {s t : State} {lim : Option Limits} {em : Emission} (mode : t.mode.mode ≠ .firing)
    (feu : t.feu = resetEnvelope lim em) (slg : t.slg = .reset) (sta : t.sta = .reset) : GrantKept s t := by
  refine ⟨fun _ => ?_, fun _ => ?_⟩
  · rw [GrantLaw, feu, slg, sta, targetOf_not_firing mode, limitingFlag, beq_false_of_ne mode]
    exact ⟨rfl, rfl, rfl, Nat.le_refl _, rfl⟩
  · rw [sta]
    decide

theorem pinReset_grantKept (s : State) : GrantKept s s.pinReset := by
  have out (m : ModeCtl) (t : ClockTime) : (resetMode m t).mode ≠ .firing := by
    rw [resetMode]
    split <;> exact nofun
  unfold State.pinReset
  split
  · exact .refl s
  · exact .of_reset (out _ _) rfl rfl rfl

/-! ## The commands of the clock (R10, R11, R13) -/

theorem doStartClock_grantKept (p : Port) (s : State) : GrantKept s (s.doStartClock p).1 := by
  have loaded : GrantKept s (s.setClock (latch { s.clock with run := .running, scaler := 0 })) := .of_blocks ⟨rfl, rfl, rfl, rfl⟩
  have opened (u : State) : GrantKept u u.openAtStart := setEau_recompute_grantKept _ u
  have checked (u : State) : GrantKept u u.startActivation := by
    unfold State.startActivation
    refine .trans ?_ (runActivation_grantKept _ _)
    split
    · exact setSlg_grantKept rfl
    · exact .refl u
  unfold State.doStartClock
  split
  · exact .refl s
  split
  · exact .refl s
  split
  · exact .refl s
  · exact (loaded.trans (opened _)).trans (checked _)

theorem doStopClock_grantKept (p : Port) (s : State) : GrantKept s (s.doStopClock p).1 := by
  have stopped : GrantKept s (s.setClock (latch { s.clock with run := .stopped, scaler := 0 })) := .of_blocks ⟨rfl, rfl, rfl, rfl⟩
  unfold State.doStopClock
  split
  · exact .refl s
  split
  · exact .refl s
  split
  · exact .refl s
  · exact stopped.trans (closeAtStop_grantKept _)

theorem stepClock_grantKept (shift : Int) (s : State) : GrantKept s (s.stepClock shift) := by
  have passed (old : ClockTime) (u : State) : GrantKept u (u.passedMinute old) := by
    unfold State.passedMinute
    split
    · exact runActivation_grantKept _ u
    · exact .refl u
  by_cases forward : 0 < shift
  · have stepped : GrantKept s (s.steppedForward shift) := .of_blocks (by simp [State.steppedForward, State.stepped])
    rw [State.stepClock_forward s forward]
    exact stepped.trans (passed _ _)
  · rw [State.stepClock_backward s forward]
    exact .of_blocks ⟨rfl, rfl, rfl, rfl⟩

theorem doAdjustClock_grantKept (p : Port) (shift : BitVec 8) (s : State) : GrantKept s (s.doAdjustClock p shift).1 := by
  unfold State.doAdjustClock
  split
  · exact .refl s
  split
  · exact .refl s
  split
  · exact .refl s
  split
  · exact .refl s
  split
  · exact .refl s
  · exact stepClock_grantKept _ s

/-! ## The commands of the emission unit, the envelope and the array (R45, R51, R76, R113) -/

theorem doPostSamples_grantKept (p : Port) (o2 : BitVec 16) (o2Status : BitVec 8) (entries : List SampleEntry) (s : State) :
    GrantKept s (s.doPostSamples p o2 o2Status entries).1 := by
  have set (x : SampleSet) : GrantKept s (s.doSampleSet x).1 := by
    unfold State.doSampleSet
    split
    · split
      · exact .refl s
      split
      · exact .refl s
      split
      · exact .refl s
      · exact setEau_recompute_grantKept _ s
    · exact .refl s
  unfold State.doPostSamples
  split
  · exact .refl s
  split
  · exact .refl s
  split
  · exact .refl s
  · exact set _

theorem doSetReagents_grantKept (p : Port) (a b c : ReagentArgs) (s : State) : GrantKept s (s.doSetReagents p a b c).1 := by
  unfold State.doSetReagents
  split
  · exact .refl s
  split
  · exact setEau_recompute_grantKept _ s
  · exact .refl s

theorem doSetBoilerLimit_grantKept (p : Port) (limit : BitVec 16) (s : State) : GrantKept s (s.doSetBoilerLimit p limit).1 := by
  unfold State.doSetBoilerLimit
  split
  · exact .refl s
  · exact retarget_grantKept _ rfl rfl

theorem doSetLanes_grantKept (p : Port) (split massA massB : BitVec 16) (s : State) :
    GrantKept s (s.doSetLanes p split massA massB).1 := by
  unfold State.doSetLanes
  split
  · exact .refl s
  · exact ⟨id, fun _ => relane_lanes _ _ _⟩

/-! ## The commands of the ledger (R116, R118 to R120) -/

theorem takeSteam_grantKept (flow : Nat) (s : State) : GrantKept s (s.takeSteam flow) := by
  have posted (l : Ledger) (request : l.request = s.slg.request) : GrantKept s (s.setSlg l) := setSlg_grantKept request
  unfold State.takeSteam
  refine .trans ?_ (reallocate_grantKept _)
  dsimp only
  split
  · exact ((posted _ rfl).trans (setSlg_grantKept (by rfl))).trans (writeRequest_grantKept _)
  · exact posted _ rfl

theorem doPostSteam_grantKept (p : Port) (flow : BitVec 16) (s : State) : GrantKept s (s.doPostSteam p flow).1 := by
  unfold State.doPostSteam
  split
  · exact .refl s
  · exact takeSteam_grantKept _ s

theorem doSetAuxDemand_grantKept (p : Port) (demand : BitVec 16) (s : State) : GrantKept s (s.doSetAuxDemand p demand).1 := by
  have taken (d : Nat) : GrantKept s (s.takeAux d) := by
    unfold State.takeAux
    split
    · exact .refl s
    · exact ledgerFormed_grantKept rfl
  unfold State.doSetAuxDemand
  split
  · exact .refl s
  · exact taken _

theorem doSetConsumers_grantKept (p : Port) (turbine extraction : BitVec 8) (s : State) :
    GrantKept s (s.doSetConsumers p turbine extraction).1 := by
  have taken (a b : Availability) : GrantKept s (s.takeConsumers a b) := by
    unfold State.takeConsumers
    split
    · exact .refl s
    · exact ledgerFormed_grantKept (by rfl)
  unfold State.doSetConsumers
  split
  · exact .refl s
  split
  · exact taken _ _
  · exact .refl s

theorem doPostOrder_grantKept (p : Port) (args : OrderArgs) (s : State) : GrantKept s (s.doPostOrder p args).1 := by
  have placed (o : Order) (clamped : Bool) : GrantKept s (s.placeOrder o clamped).1 := by
    dsimp only [State.placeOrder]
    split
    · exact activateOrder_grantKept o s
    split
    · exact setSlg_grantKept rfl
    split
    · exact .refl s
    · exact setSlg_grantKept rfl
  unfold State.doPostOrder
  split
  · exact .refl s
  split
  · exact .refl s
  split
  · exact .refl s
  split
  · exact .refl s
  · exact placed _ _

/-! ## The completions of the store (R158 to R160) -/

theorem completeProgramming_grantKept (s : State) : GrantKept s s.completeProgramming := by
  have taken (sec : PermitSection) (image : List Byte) (u : State) : GrantKept u (u.takeImage sec image) := by
    unfold State.takeImage
    split
    · exact .of_blocks ⟨rfl, rfl, rfl, rfl⟩
    · exact .of_blocks ⟨rfl, rfl, rfl, rfl⟩
    split
    · exact .of_blocks ⟨rfl, rfl, rfl, rfl⟩
    · exact plantInForce_grantKept _ u
  unfold State.completeProgramming
  split
  · exact .trans (.of_blocks (by simp)) (taken _ _ _)
  · exact .refl s

/-! ## Rows that leave the envelope, the ledger's request and the array -/

section Quiet

variable (s : State)

theorem doSetTime_grantKept (p : Port) (day : BitVec 16) (hour minute second : BitVec 8) (divisor : BitVec 24) (offset : BitVec 8) :
    GrantKept s (s.doSetTime p day hour minute second divisor offset).1 := by
  unfold State.doSetTime
  (repeat' split) <;> exact .of_blocks ⟨rfl, rfl, rfl, rfl⟩

theorem doSetLead_grantKept (p : Port) (lead : BitVec 16) : GrantKept s (s.doSetLead p lead).1 := by
  unfold State.doSetLead
  split <;> exact .of_blocks ⟨rfl, rfl, rfl, rfl⟩

theorem doClearHistory_grantKept (p : Port) : GrantKept s (s.doClearHistory p).1 := by
  unfold State.doClearHistory
  (repeat' split) <;> exact .of_blocks ⟨rfl, rfl, rfl, rfl⟩

theorem doCancelOrders_grantKept (p : Port) (tag : BitVec 16) : GrantKept s (s.doCancelOrders p tag).1 := by
  unfold State.doCancelOrders
  split <;> exact .of_blocks ⟨rfl, rfl, rfl, rfl⟩

theorem doPostEnergy_grantKept (p : Port) (exported heat : BitVec 32) : GrantKept s (s.doPostEnergy p exported heat).1 := by
  unfold State.doPostEnergy
  split <;> exact .of_blocks (by simp)

theorem doRestoreMeters_grantKept (p : Port) (totals : MeterArgs) : GrantKept s (s.doRestoreMeters p totals).1 := by
  unfold State.doRestoreMeters
  (repeat' split) <;> exact .of_blocks (by simp)

theorem doFreshMeters_grantKept (p : Port) : GrantKept s (s.doFreshMeters p).1 := by
  unfold State.doFreshMeters
  (repeat' split) <;> exact .of_blocks (by simp)

theorem doProgramSection_grantKept (p : Port) (number : BitVec 8) (image : List Byte) :
    GrantKept s (s.doProgramSection p number image).1 := by
  have programmed (sec : PermitSection) : GrantKept s (s.programSection p sec image).1 := by
    unfold State.programSection
    (repeat' split) <;> exact .of_blocks ⟨rfl, rfl, rfl, rfl⟩
  unfold State.doProgramSection
  split
  · exact .of_blocks ⟨rfl, rfl, rfl, rfl⟩
  · exact programmed _

theorem doLockSection_grantKept (p : Port) (number : BitVec 8) : GrantKept s (s.doLockSection p number).1 := by
  have locked (sec : PermitSection) : GrantKept s (s.lockSection p sec).1 := by
    unfold State.lockSection
    (repeat' split) <;> exact .of_blocks ⟨rfl, rfl, rfl, rfl⟩
  unfold State.doLockSection
  split
  · exact .of_blocks ⟨rfl, rfl, rfl, rfl⟩
  · exact locked _

theorem releaseReset_grantKept : GrantKept s s.releaseReset := by
  unfold State.releaseReset
  split <;> exact .of_blocks ⟨rfl, rfl, rfl, rfl⟩

theorem arriveEos_grantKept (ch : StrokeChannel) : GrantKept s (s.arriveEos ch) := by
  have put (r : StrokeRecord) : GrantKept s (s.putRecord ch r) := grantKept_byController.putRecord ch r s
  have booked (kg : Nat) (u : State) : GrantKept u (u.bookWaste kg) := .of_blocks (by simp)
  dsimp only [State.arriveEos]
  split
  · split
    · exact (put _).trans (booked _ _)
    · exact put _
  · exact .refl s

end Quiet

/-! ## The statement -/

theorem rowWork_grantKept (i : Instr) (s : State) : GrantKept s (rowWork i s) := by
  have controller := grantKept_byController
  cases i with
  | powerOn => exact .of_reset (lim := s.loadStore.limits) (em := .reset) nofun rfl rfl rfl
  | pinReset => exact pinReset_grantKept s
  | pinResetRelease => exact releaseReset_grantKept s
  | refckEdge => exact refckEdge_grantKept s
  | secondEvent =>
    dsimp only [rowWork]
    split
    · exact secondEvent_grantKept s
    · exact .refl s
  | strokeUnitTick => exact controller.strokeUnit s
  | periodExpiry ch => exact controller.expirePeriod ch s
  | strokeLimitExpiry ch => exact controller.expireLimit ch s
  | eosArrival ch => exact arriveEos_grantKept s ch
  | programmingCompletion => exact completeProgramming_grantKept s
  | lockCompletion => exact .of_blocks (by simp [rowWork])
  | setTime => exact doSetTime_grantKept s ..
  | startClock => exact doStartClock_grantKept _ s
  | stopClock => exact doStopClock_grantKept _ s
  | adjustClock => exact doAdjustClock_grantKept _ _ s
  | setLead => exact doSetLead_grantKept s ..
  | start => exact controller.doStart _ s
  | feed => exact controller.doFeed _ s
  | stop => exact controller.doStop s
  | trip => exact controller.doTrip _ _ s
  | clearTrip => exact controller.doClearTrip _ s
  | postTemperature => exact controller.doPostTemperature _ _ s
  | postSamples => exact doPostSamples_grantKept _ _ _ _ s
  | setCleaning => exact controller.doSetCleaning _ _ s
  | setReagents => exact doSetReagents_grantKept _ _ _ _ s
  | clearHistory => exact doClearHistory_grantKept s ..
  | setBoilerLimit => exact doSetBoilerLimit_grantKept _ _ s
  | setChannel => exact controller.doSetChannel _ _ _ _ _ s
  | setLanes => exact doSetLanes_grantKept _ _ _ _ s
  | clearJam => exact controller.doClearJam _ _ s
  | postSteam => exact doPostSteam_grantKept _ _ s
  | setAuxDemand => exact doSetAuxDemand_grantKept _ _ s
  | setConsumers => exact doSetConsumers_grantKept _ _ _ s
  | postOrder => exact doPostOrder_grantKept _ _ s
  | cancelOrders => exact doCancelOrders_grantKept s ..
  | postEnergy => exact doPostEnergy_grantKept s ..
  | restoreMeters => exact doRestoreMeters_grantKept s ..
  | freshMeters => exact doFreshMeters_grantKept s ..
  | enableWrite => exact .of_blocks ⟨rfl, rfl, rfl, rfl⟩
  | programSection => exact doProgramSection_grantKept s ..
  | lockSection => exact doLockSection_grantKept s ..
  | portReset => exact .of_blocks ⟨rfl, rfl, rfl, rfl⟩
  | _ => exact .refl s

/-- The two laws are kept by rows: the ports and the queue do not matter to them. -/
theorem grantKept_byRows : KeptByRows GrantKept :=
  ⟨GrantKept.refl, GrantKept.trans, fun _ _ => .of_blocks ⟨rfl, rfl, rfl, rfl⟩, fun _ _ => .of_blocks ⟨rfl, rfl, rfl, rfl⟩,
    rowWork_grantKept⟩

/-- Under the law the grant is at most each of its terms (R84). -/
theorem GrantLaw.grant_le {s : State} (law : GrantLaw s) :
    s.feu.grant ≤ s.feu.request ∧ s.feu.grant ≤ s.feu.effectiveCap ∧ s.feu.grant ≤ s.feu.boilerLimit := by
  obtain ⟨-, target, -, grant, -⟩ := law
  rw [target, targetOf] at grant
  split at grant <;> omega

/-- Settles O44: each row's own work keeps the law and the lanes, so every step does; the bounds are those of the target. -/
theorem grantLawKept : Obligations.GrantLawKept := by
  unfold Obligations.GrantLawKept
  intro s t law h
  have kept := grantKept_byRows.step h
  have after := kept.law law
  obtain ⟨request, cap, limit⟩ := after.grant_le
  exact ⟨after, fun idle => (grant_zero after idle).1, request, cap, limit, kept.lanes⟩

end Sys2Proof.Machine
end

section
/-! CERTIFICATE. The cap of a channel: the line between the knee and the limit, the ratio, and who takes part (R77 to R79). -/

namespace Sys2Proof.Machine

/-! ## The channel cap of a ratio (R79) -/

section Cap

variable (l : Limits)

theorem channelCap_to_knee {q : Nat} (low : q ≤ l.knee) : channelCap l q = 1000 := if_pos low

theorem channelCap_between {q : Nat} (high : l.knee < q) (low : q < 1000) :
    channelCap l q = 1000 - (1000 - l.floor) * (q - l.knee) / (1000 - l.knee) := by
  rw [channelCap, if_neg (Nat.not_le.2 high), if_pos low]

theorem channelCap_from_limit {q : Nat} (knee : l.knee < 1000) (high : 1000 ≤ q) : channelCap l q = l.floor := by
  rw [channelCap, if_neg (by omega), if_neg (by omega)]

/-- The fall from 1000 is at most to F. -/
theorem fall_le {q : Nat} (low : q < 1000) : (1000 - l.floor) * (q - l.knee) / (1000 - l.knee) ≤ 1000 - l.floor :=
  Nat.div_le_of_le_mul (by rw [Nat.mul_comm]; exact Nat.mul_le_mul_right _ (by omega))

theorem channelCap_le (floor : l.floor ≤ 1000) (q : Nat) : channelCap l q ≤ 1000 := by
  unfold channelCap
  split
  · exact Nat.le_refl _
  split
  · exact Nat.sub_le _ _
  · exact floor

theorem floor_le_channelCap (floor : l.floor ≤ 1000) (q : Nat) : l.floor ≤ channelCap l q := by
  unfold channelCap
  split
  · exact floor
  split
  · next low =>
    have fall := fall_le l low
    omega
  · exact Nat.le_refl _

/-- The cap never rises with the ratio: of two ratios on the line the higher falls further, and the rest lies at its ends. -/
theorem channelCap_anti (knee : l.knee < 1000) (floor : l.floor ≤ 1000) {q r : Nat} (h : q ≤ r) : channelCap l r ≤ channelCap l q := by
  by_cases toKnee : q ≤ l.knee
  · rw [channelCap_to_knee l toKnee]
    exact channelCap_le l floor r
  by_cases fromLimit : 1000 ≤ r
  · rw [channelCap_from_limit l knee fromLimit]
    exact floor_le_channelCap l floor q
  · rw [channelCap_between l (by omega) (by omega), channelCap_between l (by omega) (by omega)]
    exact Nat.sub_le_sub_left (Nat.div_le_div_right (Nat.mul_le_mul_left _ (by omega))) _

end Cap

/-! ## Who takes part (R78) -/

theorem reagentAvailable_eq_false_iff (e : Emission) (r : Reagent) :
    reagentAvailable e r = false ↔ (e.reagents.get r).availability = .unavailable := by
  cases h : (e.reagents.get r).availability <;> simp [reagentAvailable, h]

theorem takesPart_iff (l : Limits) (e : Emission) (c : ChannelLimits) (a : Accumulator) :
    takesPart l e c a = true ↔ l.capValid ≤ a.valid ∧ (c.role = .firing
      ∨ c.role = .dosing ∧ ∃ r, c.reagent = some r ∧ (e.reagents.get r).availability = .unavailable) := by
  rcases role : c.role with _ | _ | _
  · simp [takesPart, role]
  · simp [takesPart, role]
  · rcases reagent : c.reagent with _ | r
    · simp [takesPart, role, reagent]
    · simp [takesPart, role, reagent, reagentAvailable_eq_false_iff, and_comm]

/-- Settles O41: the three ranges of the line and its order, then the figures of a channel. -/
theorem channelCapFallsFromKneeToFloor : Obligations.ChannelCapFallsFromKneeToFloor := by
  unfold Obligations.ChannelCapFallsFromKneeToFloor
  refine ⟨fun l q r knee floor => ?_, fun l e ch => ?_⟩
  · have below : l.knee < 1000 := by omega
    exact ⟨channelCap_to_knee l, channelCap_from_limit l below, channelCap_between l, floor_le_channelCap l floor q,
      channelCap_le l floor q, channelCap_anti l below floor⟩
  · exact ⟨rfl, takesPart_iff l e _ _, fun part => if_pos part, fun out => if_neg (Bool.eq_false_iff.1 out)⟩

end Sys2Proof.Machine
end

section
/-! CERTIFICATE. SET_BOILER_LIMIT: the limit taken, and the target formed again from it (R76). -/

namespace Sys2Proof.Machine

/-- The envelope with another boiler limit. -/
abbrev withBoilerLimit (b : Nat) (e : Envelope) : Envelope := { e with boilerLimit := b }

theorem doSetBoilerLimit_taken (limit : BitVec 16) (s : State) :
    s.doSetBoilerLimit .pf limit =
      ((s.setFeu (withBoilerLimit (min 1000 limit.toNat) s.feu)).retarget, .plain (if 1000 < limit.toNat then .clamped else .ok)) := by
  by_cases high : 1000 < limit.toNat <;> simp [State.doSetBoilerLimit, perMilleTop, Reply.done, high]

/-- Where the target does not fall below the grant, the array stays as it is (R85). -/
theorem State.retarget_sta_of_le {s : State} (le : s.feu.grant ≤ targetOf s.mode.mode s.feu) : s.retarget.sta = s.sta := by
  rw [State.retarget_sta, if_pos (Nat.min_eq_left le)]

/-- The grant that a new target leaves is handed to the array, from a state with the same grant and the same array before it. -/
theorem retarget_grantFollows {s u : State} (grant : u.feu.grant = s.feu.grant) (sta : u.sta = s.sta) : GrantFollows s u.retarget := by
  refine grantFollows_of (grant := min s.feu.grant (targetOf u.mode.mode u.feu)) (mode := u.mode.mode) ?_ (by simp) ?_
  · simp [retargeted, grant]
  · simp [State.retarget_sta, grant, sta, State.plant]

/-- CAP_LIMITING goes to PF and PD where the limiting flag rises (R88). -/
theorem retarget_capLimiting {s : State} (rises : limitingFlag s.mode.mode s.feu = true) (clear : s.feu.limiting = false) :
    s.retarget.holds .pf .capLimiting = true ∧ s.retarget.holds .pd .capLimiting = true := by
  have unset : LimitingPosted s := fun set => absurd (clear.symm.trans set) nofun
  exact unset.retarget (by rw [State.retarget_feu]; exact rises)

/-- Settles O42: the refusal on another port, and the target formed again on the state in which the reply stands. -/
theorem setBoilerLimitRetargets : Obligations.SetBoilerLimitRetargets := by
  unfold Obligations.SetBoilerLimitRetargets
  intro limit s
  refine ⟨fun p other ready => ?_, fun ready law => ?_⟩
  · have refused : (s.beginTake p).doSetBoilerLimit p limit = refuse .notOwner (s.beginTake p) := by simp [State.doSetBoilerLimit, other]
    simpa using exec_ready rfl ready rfl refused
  · intro b e target
    obtain ⟨-, -, -, -, held⟩ := law
    have limited : GrantHeld ((s.beginTake .pf).setFeu e) := held
    have follows : GrantFollows (s.beginTake .pf) ((s.beginTake .pf).setFeu e).retarget := retarget_grantFollows rfl rfl
    refine ⟨_, exec_ready rfl ready rfl (doSetBoilerLimit_taken limit _), State.answer_slot _ _ _, ?_, limited.retarget, fun le => ?_,
      follows.of_take _, fun rises clear => ?_, ?_, ?_, ?_, ?_, ?_, ?_⟩
    · simp [retargeted, e, target, b, targetOf]
    · exact State.retarget_sta_of_le (s := (s.beginTake .pf).setFeu e) le
    · have posted := retarget_capLimiting (s := (s.beginTake .pf).setFeu e) rises clear
      exact posted.imp (State.holds_answer _ _ _ _ _).trans (State.holds_answer _ _ _ _ _).trans
    all_goals simp

end Sys2Proof.Machine
end

section
/-! CERTIFICATE. The caps are not kept in every state that the store's law admits: the law reads the values of a waiting LIMITS copy through the
image that they encode to, whose two bytes keep F modulo 65,536, and a half-hour boundary puts the copy itself in force (R80, R83, R159). -/

namespace Sys2Proof.Machine

/-- Two bytes keep a value modulo 65,536 (R163). -/
theorem be_two_add (n : Nat) : be 2 (65536 + n) = be 2 n := by
  have high : BitVec.ofNat 8 ((65536 + n) / 256) = BitVec.ofNat 8 (n / 256) :=
    BitVec.eq_of_toNat_eq (by rw [BitVec.toNat_ofNat, BitVec.toNat_ofNat]; omega)
  have low : BitVec.ofNat 8 (65536 + n) = BitVec.ofNat 8 n :=
    BitVec.eq_of_toNat_eq (by rw [BitVec.toNat_ofNat, BitVec.toNat_ofNat]; omega)
  simp only [be, pow_one, pow_zero, Nat.div_one, high, low]

/-- A copy whose F is wider than its field has the image of the copy that the field holds. -/
theorem encodeLimits_wide_floor (l : Limits) : encodeLimits { l with floor := 65536 + l.floor } = encodeLimits l := by
  have body : limitsBody { l with floor := 65536 + l.floor } = limitsBody l := by
    unfold limitsBody
    rw [be_two_add l.floor]
  rw [encodeLimits, encodeLimits, body]

/-- A channel entry in the ranges of 10.1, in no role. -/
def idleEntry : ChannelLimits := { limit := 100, dayLimit := 100, role := .none, reagent := none, target := 0, gain := 0 }

/-- A LIMITS copy in the ranges of 10.1, with an F of 300. -/
def narrowLimits : Limits :=
  { o2ref := 1100, o2clamp := 1800, expected := 1800, minValid := 1200, minHalves := 6, capValid := 6, knee := 800, floor := 300
    recovery := 10, sampleStale := 60, tmin := 850, dwell := 10, tmax := 1250, tcold := 200, tempStale := 5, serial := 1
    channels := ⟨idleEntry, idleEntry, idleEntry, idleEntry, idleEntry, idleEntry⟩ }

/-- The same with an F of 65,836, which its field spells as 300. -/
def wideLimits : Limits := { narrowLimits with floor := 65536 + narrowLimits.floor }

/-- An image closed with its CRC passes the check of it (R156, R164). -/
theorem crcOk_withCrc (body : List Byte) : crcOk (withCrc body) = true := by
  have length : (withCrc body).length - 2 = body.length := by simp [withCrc, be]
  rw [crcOk, length]
  simp [withCrc]

theorem narrowLimits_inRange : LimitsInRange narrowLimits := by
  have length : (encodeLimits narrowLimits).length = PermitSection.limits.imageLength := by decide +kernel
  have crc : crcOk (encodeLimits narrowLimits) = true := crcOk_withCrc _
  rw [LimitsInRange, imageFault, if_neg (not_not.2 length), if_pos crc]
  decide +kernel

theorem wideLimits_inRange : LimitsInRange wideLimits := by
  rw [LimitsInRange, wideLimits, encodeLimits_wide_floor]
  exact narrowLimits_inRange

/-- The period open at 00:29:59 of day 0, under no copy. -/
def firstPeriod : OpenPeriod := { number := 0, fired := false, isPart := true, copy := none }

/-- A plant in COLD at 00:29:59 with that copy waiting for the boundary, and the second event at the front of the queue. -/
def wideWaiting : State :=
  { State.reset with
    clock := latch { Clock.reset with run := .running, time := ⟨0, 0, 29, 59⟩ }
    eau := { Emission.reset with period := some firstPeriod }
    pst := { PermitStore.reset with pendingLimits := some wideLimits }
    pending := [.secondEvent] }

theorem wideWaiting_permitLaw : PermitLaw wideWaiting.pst := by
  have blank (sec : PermitSection) : SectionLaw sec .blank := ⟨by simp [StoredSection.blank], by simp [StoredSection.blank]⟩
  refine ⟨blank _, blank _, blank _, rfl, fun l waits => ?_, nofun, nofun⟩
  obtain rfl : l = wideLimits := List.mem_singleton.1 waits
  exact wideLimits_inRange

theorem wideWaiting_capLaw : CapLaw wideWaiting :=
  ⟨Nat.le_refl _, Nat.le_refl _, fun _ held => absurd held List.not_mem_nil, fun _ => rfl⟩

theorem wideWaiting_formedLaw : FormedLaw wideWaiting := ⟨rfl, rfl, rfl, rfl⟩

/-- Refutes O43: at the boundary the waiting copy comes in force with an F of 65,836, above the 1000 that no cap exceeds. -/
theorem not_capAndFiguresKept : ¬ Obligations.CapAndFiguresKept := by
  unfold Obligations.CapAndFiguresKept
  rintro ⟨kept, -⟩
  obtain ⟨t, second, -, -, -, -, pst, -⟩ :=
    halfHourBoundaryClosesAndOpens firstPeriod { wideWaiting with pending := [] } rfl (by decide) rfl (.inl rfl) rfl
  have stepped : step wideWaiting = .next t := second
  obtain ⟨⟨effective, computed, floors, -⟩, -⟩ := kept _ t wideWaiting_permitLaw wideWaiting_capLaw wideWaiting_formedLaw stepped
  have working : t.pst.workingLimits = some wideLimits := by
    rw [pst]
    rfl
  have floor : wideLimits.floor ≤ t.feu.effectiveCap := floors _ (Option.mem_toList.2 working)
  have wide : 1000 < wideLimits.floor := by decide
  omega

end Sys2Proof.Machine
end

section
/-! SUPPORT. The law of the stroke channels under the operations of the blocks (R93, R95 to R97, R103): a grant and a PLANT copy leave a channel
on its side of its gate, a change of mode moves every gate, and an event of the stroke cycle replaces one channel by another that meets
the law. -/

namespace Sys2Proof.Machine

/-! ## One channel -/

/-- Grants and PLANT copies release a channel from WAIT at most, and a channel that waits is active. -/
theorem Readied.channelLaw {mode : Mode} {ch : StrokeChannel} {r x : StrokeRecord} (h : Readied r x) (law : ChannelLaw mode ch r) :
    ChannelLaw mode ch x := by
  obtain ⟨inactive, runs, waits⟩ := law
  cases h with
  | same => exact ⟨inactive, runs, waits⟩
  | preloaded p cycles => exact ⟨inactive, runs, waits⟩
  | released p period limit wait =>
    refine ⟨fun closed => ?_, fun _ => nofun, nofun⟩
    have still := inactive closed
    simp [wait] at still

/-- A ram alone waits once grants and PLANT copies have reached the channels. -/
theorem Readied.waits {r x : StrokeRecord} (h : Readied r x) (wait : x.state = .wait) : r.state = .wait := by
  cases h with
  | same => exact wait
  | preloaded p cycles => exact wait
  | released p period limit waits => exact waits

/-- A JAMMED channel meets the law of every mode (R103). -/
theorem channelLaw_jammed {mode : Mode} {ch : StrokeChannel} {r : StrokeRecord} (jammed : r.state = .jammed) : ChannelLaw mode ch r := by
  simp [ChannelLaw, jammed]

/-- A channel in DWELL or STROKE, or a ram in WAIT, takes the place of an active one. -/
theorem channelLaw_running {mode : Mode} {ch : StrokeChannel} {r x : StrokeRecord} (law : ChannelLaw mode ch r)
    (enabled : x.enabled = r.enabled) (cycles : r.state = .dwell ∨ r.state = .stroke)
    (runs : x.state = .dwell ∨ x.state = .stroke ∨ x.state = .wait ∧ isRam ch = true) :
    ChannelLaw mode ch x := by
  obtain ⟨inactive, -, -⟩ := law
  have on : active mode ch x = true := by
    have same : active mode ch x = active mode ch r := by simp [active, enabled]
    by_contra off
    rcases inactive (same.symm.trans (Bool.eq_false_iff.2 off)) with h | h <;> simp [h] at cycles
  refine ⟨fun off => absurd (on.symm.trans off) nofun, fun _ => ?_, fun wait => ?_⟩
  · rcases runs with h | h | ⟨h, -⟩ <;> simp [h]
  · rcases runs with h | h | ⟨-, ram⟩
    · simp [h] at wait
    · simp [h] at wait
    · exact ram

/-- A gate leaves its channel on the side that the mode entered asks for, whatever side it was on (R95 to R97). -/
theorem gateChannel_channelLaw {mode : Mode} {pl : Option Plant} {a : StrokeArray} {ch : StrokeChannel} {r : StrokeRecord}
    (waits : r.state = .wait → isRam ch = true) : ChannelLaw mode ch (gateChannel mode pl a ch r) := by
  unfold gateChannel
  split
  · next jammed => exact channelLaw_jammed jammed
  cases runs : active mode ch r with
  | true =>
    have here {x : StrokeRecord} (same : x.enabled = r.enabled) (off : x.state ≠ .off) (wait : x.state = .wait → isRam ch = true) :
        ChannelLaw mode ch x := by
      have on : active mode ch x = true := by simpa [active, same] using runs
      exact ⟨fun closed => absurd (on.symm.trans closed) nofun, fun _ => off, wait⟩
    rw [if_pos rfl]
    split
    · exact activate_channelLaw runs
    next notOff =>
    split
    · have readied := writePreload_readied mode pl a ch r
      obtain ⟨enabled, -, -, -, off⟩ := readied.kept
      exact here enabled (mt off.1 notOff) fun wait => waits (readied.waits wait)
    · exact here rfl notOff waits
  | false =>
    rw [if_neg (by simp)]
    split
    · next off => exact ⟨fun _ => .inl off, fun on => absurd (runs.symm.trans on) nofun, fun wait => by simp [off] at wait⟩
    · have closed : active mode ch (deactivate r) = false := runs
      exact ⟨fun _ => .inl rfl, fun on => absurd (closed.symm.trans on) nofun, nofun⟩

/-- A channel cleared of its jam: active again, or OFF (R104). -/
theorem clearedRecord_channelLaw (mode : Mode) (pl : Option Plant) (a : StrokeArray) (ch : StrokeChannel) (r : StrokeRecord) :
    ChannelLaw mode ch (clearedRecord mode pl a ch r) := by
  cases runs : active mode ch r with
  | true =>
    rw [clearedRecord_active runs]
    exact activate_channelLaw runs
  | false =>
    have closed : active mode ch (clearedOff r) = false := runs
    rw [clearedRecord_inactive runs]
    exact ⟨fun _ => .inl rfl, fun on => absurd (closed.symm.trans on) nofun, nofun⟩

/-! ## What an event leaves of the law -/

/-- A change of state keeps every channel's law. -/
def StrokeKept (s t : State) : Prop := StrokeLaw s → StrokeLaw t

theorem StrokeKept.refl (s : State) : StrokeKept s s := id

theorem StrokeKept.trans {s t u : State} (h : StrokeKept s t) (k : StrokeKept t u) : StrokeKept s u := k ∘ h

/-- In the same mode, each channel replaced by one that meets the law. -/
theorem StrokeKept.of_channels {s t : State} (mode : t.mode.mode = s.mode.mode)
    (channel : ∀ ch, ChannelLaw s.mode.mode ch (s.sta.channels.get ch) → ChannelLaw s.mode.mode ch (t.sta.channels.get ch)) :
    StrokeKept s t := fun law ch mem => by
  rw [mode]
  exact channel ch (law ch mem)

/-- The array stays. -/
theorem StrokeKept.of_sta {s t : State} (h : t.mode = s.mode ∧ t.sta = s.sta) : StrokeKept s t := by
  obtain ⟨mode, sta⟩ := h
  exact .of_channels (congrArg ModeCtl.mode mode) fun ch law => sta ▸ law

/-- Grants handed over, and nothing else done to the array. -/
theorem StrokeKept.of_handed {s t : State} (mode : t.mode = s.mode) (handed : GrantsHanded s.sta t.sta) : StrokeKept s t :=
  .of_channels (congrArg ModeCtl.mode mode) fun ch law => (handed.channel ch).channelLaw law

/-- One channel replaced. -/
theorem putRecord_strokeKept {ch : StrokeChannel} {x : StrokeRecord} {s : State}
    (lawful : ChannelLaw s.mode.mode ch (s.sta.channels.get ch) → ChannelLaw s.mode.mode ch x) : StrokeKept s (s.putRecord ch x) :=
  fun law => strokeLaw_set (rams := s.sta.rams) law (lawful (law ch (StrokeChannel.mem_all ch)))

/-- A PLANT copy put in force writes preloads, and the request that it calls for hands a grant over (R111, R135). -/
theorem plantInForce_strokeKept (pl : Plant) (s : State) : StrokeKept s (s.plantInForce pl) := by
  have taken : StrokeKept s (s.setSta (takePlant s.plantMode (some pl) s.sta)) :=
    .of_channels rfl fun ch law => by
      simpa [takePlant] using (writePreload_readied s.plantMode (some pl) s.sta ch _).channelLaw law
  refine taken.trans (.of_handed (by simp) ?_)
  unfold State.plantInForce
  exact GrantsHanded.ledgerTakePlant (.refl _)

/-- A change of mode: every gate moves, whatever the channels were handed before (R95). -/
theorem changeMode_strokeKept (m : ModeCtl) (s : State) : StrokeKept s (s.changeMode m) := fun law ch mem => by
  obtain ⟨-, -, waits⟩ := law ch mem
  have readied := (State.modeDelivered_copyHanded m s).channel ch
  rw [State.changeMode_sta, takeMode_channel, State.changeMode_mode]
  exact gateChannel_channelLaw fun wait => waits (readied.waits wait)

/-! ## The mode controller's events (R20 to R28, R105) -/

/-- New items of the controller in the same mode. -/
theorem setMode_strokeKept {s : State} {m : ModeCtl} (mode : m.mode = s.mode.mode) : StrokeKept s (s.setMode m) :=
  .of_channels mode fun _ law => law

theorem entryCheckWith_strokeKept (lim : Option Limits) (s : State) : StrokeKept s (s.entryCheckWith lim) := by
  unfold State.entryCheckWith
  split
  · exact changeMode_strokeKept _ s
  · exact .refl s

theorem holdArises_strokeKept (alone : HoldCauses) (add : HoldCauses → HoldCauses) (s : State) :
    StrokeKept s (s.holdArises alone add) := by
  unfold State.holdArises
  split
  · exact changeMode_strokeKept _ s
  · exact setMode_strokeKept rfl
  · exact .refl s

theorem holdClears_strokeKept (remove : HoldCauses → HoldCauses) (s : State) : StrokeKept s (s.holdClears remove) := by
  unfold State.holdClears
  split
  · exact setMode_strokeKept rfl
  · exact .refl s

theorem takeCleaning_strokeKept (a : Availability) (s : State) : StrokeKept s (s.takeCleaning a) := by
  have told : StrokeKept s (s.setMode { s.mode with cleaning := a }) := setMode_strokeKept rfl
  cases a with
  | unavailable => exact (told.trans (holdArises_strokeKept _ _ _)).trans (entryCheckWith_strokeKept _ _)
  | available => exact (told.trans (holdClears_strokeKept _ _)).trans (entryCheckWith_strokeKept _ _)

theorem handRams_strokeKept (before : Nat) (s : State) : StrokeKept s (s.handRams before) := by
  have told : StrokeKept s (s.setMode { s.mode with rams := s.sta.rams }) := setMode_strokeKept rfl
  dsimp only [State.handRams]
  split
  · exact .refl s
  split
  · exact (told.trans (holdArises_strokeKept _ _ _)).trans (entryCheckWith_strokeKept _ _)
  · exact (told.trans (holdClears_strokeKept _ _)).trans (entryCheckWith_strokeKept _ _)

/-- One channel replaced, and the change of feed capability that it makes. -/
theorem putChannel_strokeKept {ch : StrokeChannel} {x : StrokeRecord} {s : State}
    (lawful : ChannelLaw s.mode.mode ch (s.sta.channels.get ch) → ChannelLaw s.mode.mode ch x) : StrokeKept s (s.putChannel ch x) := by
  have put : StrokeKept s (s.setSta (s.sta.replaced ch x)) := fun law =>
    strokeLaw_set law (lawful (law ch (StrokeChannel.mem_all ch)))
  exact put.trans (handRams_strokeKept _ _)

theorem compareTmin_strokeKept (l : Limits) (t : Nat) (s : State) : StrokeKept s (s.compareTmin l t) := by
  unfold State.compareTmin
  split
  · split
    · exact setMode_strokeKept rfl
    · exact .refl s
  · split
    · exact changeMode_strokeKept _ s
    · exact .refl s
  · split
    · exact setMode_strokeKept rfl
    · exact setMode_strokeKept rfl
  · exact .refl s

theorem compareTemperature_strokeKept (l : Limits) (t : Nat) (s : State) : StrokeKept s (s.compareTemperature l t) := by
  unfold State.compareTemperature
  split
  · exact .refl s
  · split
    · exact setMode_strokeKept rfl
    · exact .refl s
  · split
    · exact changeMode_strokeKept _ s
    split
    · exact changeMode_strokeKept _ s
    · exact .refl s
  · split
    · exact changeMode_strokeKept _ s
    · exact compareTmin_strokeKept l t s

theorem takeTemperature_strokeKept (t : Nat) (s : State) : StrokeKept s (s.takeTemperature t) := by
  have recorded : StrokeKept s (s.setMode { s.mode with temp := some t, tempAge := 0 }) := setMode_strokeKept rfl
  unfold State.takeTemperature
  refine .trans ?_ (entryCheckWith_strokeKept _ _)
  split
  · exact recorded.trans (compareTemperature_strokeKept _ _ _)
  · exact recorded

theorem modeSecond_strokeKept (lim : Option Limits) (s : State) : StrokeKept s (s.modeSecond lim) := by
  have aged : StrokeKept s (s.setMode { s.mode with tempAge := satAdd 65535 1 s.mode.tempAge }) := setMode_strokeKept rfl
  have counted {m : ModeCtl} (mode : m.mode = s.mode.mode) : StrokeKept s ((s.setMode (qualify lim m)).entryCheckWith lim) :=
    (setMode_strokeKept ((qualify_mode lim m).trans mode)).trans (entryCheckWith_strokeKept lim _)
  dsimp only [State.modeSecond]
  split
  · split
    · exact aged.trans (changeMode_strokeKept _ _)
    · exact aged
  · exact counted rfl
  · exact counted rfl
  · exact aged

/-! ## The stroke cycle (R94, R98 to R102) -/

theorem periodDue_iff (r : StrokeRecord) : periodDue r = true ↔ r.state = .dwell ∧ r.period ≤ r.counter := by simp [periodDue]

theorem limitDue_iff (r : StrokeRecord) : limitDue r = true ↔ r.state = .stroke ∧ r.limit ≤ r.counter := by simp [limitDue]

theorem expirePeriod_strokeKept (ch : StrokeChannel) (s : State) : StrokeKept s (s.expirePeriod ch) := by
  dsimp only [State.expirePeriod]
  split
  · next due =>
    obtain ⟨dwells, -⟩ := (periodDue_iff _).1 due
    refine putRecord_strokeKept fun law => ?_
    unfold startStroke
    split
    · next wait => exact channelLaw_running law rfl (.inl dwells) (.inr (.inr ⟨rfl, ((mustWait_iff _ _ _).1 wait).1⟩))
    · exact channelLaw_running law rfl (.inl dwells) (.inr (.inl rfl))
  · exact .refl s

theorem grateJamTrip_strokeKept (s : State) : StrokeKept s s.grateJamTrip := by
  unfold State.grateJamTrip
  split
  · exact changeMode_strokeKept _ s
  · exact changeMode_strokeKept _ s
  · exact changeMode_strokeKept _ s
  · exact .refl s

theorem expireLimit_strokeKept (ch : StrokeChannel) (s : State) : StrokeKept s (s.expireLimit ch) := by
  have posted (u : State) : StrokeKept u (u.post .jam .pf) := .of_sta (by simp)
  unfold State.expireLimit
  split
  · next due =>
    obtain ⟨strokes, -⟩ := (limitDue_iff _).1 due
    split
    · exact (posted s).trans (putChannel_strokeKept fun _ => channelLaw_jammed rfl)
    · dsimp only [State.jamGrate]
      split
      · exact putRecord_strokeKept fun law => channelLaw_running law rfl (.inr strokes) (.inl rfl)
      · have jams : StrokeKept s (s.putRecord ch (jamChannel 2 (s.sta.channels.get ch))) :=
          putRecord_strokeKept fun _ => channelLaw_jammed rfl
        exact (jams.trans (posted _)).trans (grateJamTrip_strokeKept _)
  · exact .refl s

theorem arriveEos_strokeKept (ch : StrokeChannel) (s : State) : StrokeKept s (s.arriveEos ch) := by
  dsimp only [State.arriveEos]
  split
  · next strokes =>
    have put : StrokeKept s (s.putRecord ch (completeStroke (s.sta.channels.get ch))) :=
      putRecord_strokeKept fun law => channelLaw_running law rfl (.inr strokes) (.inl rfl)
    split
    · exact put.trans (.of_sta (by simp))
    · exact put
  · exact .refl s

/-- A count changes no state of a channel. -/
theorem countUnit_strokeKept (s : State) : StrokeKept s (s.setSta (countUnit s.sta)) := by
  refine .of_channels rfl fun ch law => ?_
  simp only [State.setSta_sta, countUnit, PerStroke.get_map]
  split
  · exact law
  · exact law

theorem strokeUnit_strokeKept (s : State) : StrokeKept s s.strokeUnit := by
  have drawn (u : State) : StrokeKept u u.draw.2 := .of_sta (by simp)
  have expired (u : State) (ch : StrokeChannel) : StrokeKept u (u.expire ch) :=
    (expirePeriod_strokeKept ch u).trans (expireLimit_strokeKept ch _)
  exact (State.expireAll_related StrokeKept.refl StrokeKept.trans drawn expired s).trans (countUnit_strokeKept _)

end Sys2Proof.Machine
end

section
/-! CERTIFICATE. Every step keeps each stroke channel where the mode allows it: the second event and the commands of the blocks, the
resets, then the rows (R93, R95 to R97, R103). -/

namespace Sys2Proof.Machine

/-! ## The second event -/

theorem subEvent_strokeKept (k : EventKind) (old : Bool) (e : SubEvent) (s : State) : StrokeKept s (s.subEvent k old e) := by
  cases e with
  | emission => exact .of_handed (by simp [State.subEvent]) (.emissionSecond (.refl _) _ _)
  | envelope => exact .of_handed (by simp [State.subEvent]) (.envelopeSecond (.refl _))
  | install =>
    dsimp only [State.subEvent]
    split
    · exact .of_handed (by simp) (.installPending (.refl _))
    · exact .refl s
  | activation =>
    dsimp only [State.subEvent]
    split
    · exact .of_handed (by simp) (.ledgerMinute (.refl _) _)
    · exact .refl s
  | mode => exact modeSecond_strokeKept _ s

theorem secondEvent_strokeKept (s : State) : StrokeKept s s.secondEvent := by
  obtain ⟨k, free, -, -, second⟩ := s.secondEvent_eq
  have ticked : StrokeKept s s.secondTicked := .of_sta (by simp)
  have ledger (u : State) : StrokeKept u u.ledgerSecond := .of_sta (by simp)
  rw [second]
  exact ticked.trans (State.blocksSecond_related StrokeKept.refl StrokeKept.trans subEvent_strokeKept ledger k _ _)

theorem refckEdge_strokeKept (s : State) : StrokeKept s s.refckEdge := by
  unfold State.refckEdge
  split
  · exact .refl s
  split
  · exact .of_sta ⟨rfl, rfl⟩
  · exact secondEvent_strokeKept s

/-! ## The resets (R37, R115) -/

/-- The values of a reset: every channel OFF, in a mode in which none runs. -/
theorem strokeLaw_of_reset {s : State} (idle : s.mode.mode = .cold ∨ s.mode.mode = .tripped) (sta : s.sta = .reset) : StrokeLaw s := by
  intro ch _
  have off : (s.sta.channels.get ch).state = .off := by rw [sta]; cases ch <;> rfl
  have closed : allowed s.mode.mode ch = false := allowed_of_closed (by tauto) ch
  exact ⟨fun _ => .inl off, fun on => by simp [active, closed] at on, fun wait => by simp [off] at wait⟩

theorem pinReset_strokeKept (s : State) : StrokeKept s s.pinReset := by
  unfold State.pinReset
  split
  · exact .refl s
  · refine fun _ => strokeLaw_of_reset ?_ rfl
    simp only [State.pinResetBlocks, resetMode]
    split
    · exact .inl rfl
    · exact .inr rfl

theorem releaseReset_strokeKept (s : State) : StrokeKept s s.releaseReset := by
  unfold State.releaseReset
  split <;> exact .of_sta ⟨rfl, rfl⟩

/-! ## The commands of the clock, the emission unit and the envelope -/

section Commands

variable (p : Port) (s : State)

theorem doStartClock_strokeKept : StrokeKept s (s.doStartClock p).1 := by
  have opened (u : State) : StrokeKept u u.openAtStart := .of_handed (by simp) (GrantsHanded.openPeriod (.refl _) _)
  have checked (u : State) : StrokeKept u u.startActivation := by
    refine .of_handed (by simp [State.startActivation]; split <;> rfl) ?_
    unfold State.startActivation
    exact GrantsHanded.runActivation (by split <;> exact .refl _) _
  have loaded (c : Clock) : StrokeKept s (s.setClock c) := .of_sta ⟨rfl, rfl⟩
  unfold State.doStartClock
  (repeat' split)
  · exact .refl s
  · exact .refl s
  · exact .refl s
  · exact ((loaded _).trans (opened _)).trans (checked _)

theorem doStopClock_strokeKept : StrokeKept s (s.doStopClock p).1 := by
  unfold State.doStopClock
  (repeat' split)
  · exact .refl s
  · exact .refl s
  · exact .refl s
  · exact .of_handed (by simp [State.stopRunning]) (GrantsHanded.closeAtStop (.refl _))

theorem doAdjustClock_strokeKept (shift : BitVec 8) : StrokeKept s (s.doAdjustClock p shift).1 := by
  have passed (old : ClockTime) (u : State) : StrokeKept u (u.passedMinute old) := by
    refine .of_handed (by simp) ?_
    unfold State.passedMinute
    split
    · exact GrantsHanded.runActivation (.refl _) _
    · exact .refl _
  have stepped (n : Int) : StrokeKept s (s.stepClock n) := by
    by_cases forward : 0 < n
    · have moved : StrokeKept s (s.steppedForward n) := .of_sta (by simp [State.steppedForward, State.stepped])
      rw [State.stepClock_forward s forward]
      exact moved.trans (passed _ _)
    · rw [State.stepClock_backward s forward]
      exact .of_sta ⟨rfl, rfl⟩
  unfold State.doAdjustClock
  (repeat' split)
  · exact .refl s
  · exact .refl s
  · exact .refl s
  · exact .refl s
  · exact .refl s
  · exact stepped _

theorem doPostSamples_strokeKept (o2 : BitVec 16) (o2Status : BitVec 8) (entries : List SampleEntry) :
    StrokeKept s (s.doPostSamples p o2 o2Status entries).1 := by
  have taken (l : Limits) (x : SampleSet) : StrokeKept s (s.takeSamples l x) :=
    .of_handed (by simp) (GrantsHanded.recompute (s := s.setEau _) (.refl _))
  have set (x : SampleSet) : StrokeKept s (s.doSampleSet x).1 := by
    unfold State.doSampleSet
    (repeat' split)
    · exact .refl s
    · exact .refl s
    · exact .refl s
    · exact taken _ _
    · exact .refl s
  unfold State.doPostSamples
  (repeat' split)
  · exact .refl s
  · exact .refl s
  · exact .refl s
  · exact set _

theorem doSetReagents_strokeKept (a b c : ReagentArgs) : StrokeKept s (s.doSetReagents p a b c).1 := by
  unfold State.doSetReagents
  (repeat' split)
  · exact .refl s
  · exact .of_handed (by simp) (GrantsHanded.recompute (s := s.setEau _) (.refl _))
  · exact .refl s

theorem doSetBoilerLimit_strokeKept (limit : BitVec 16) : StrokeKept s (s.doSetBoilerLimit p limit).1 := by
  unfold State.doSetBoilerLimit
  split
  · exact .refl s
  · exact .of_handed (by simp) (GrantsHanded.retarget (s := s.setFeu _) (.refl _))

/-! ## The commands of the mode controller (R20, R25, R26, R29, R31, R34, R50) -/

theorem doStart_strokeKept : StrokeKept s (s.doStart p).1 := by
  unfold State.doStart
  (repeat' split)
  · exact .refl s
  · exact .refl s
  · exact .refl s
  · exact .refl s
  · exact changeMode_strokeKept _ s

theorem doFeed_strokeKept : StrokeKept s (s.doFeed p).1 := by
  have armed : StrokeKept s (s.setMode { s.mode with feedArmed := true }) := setMode_strokeKept rfl
  unfold State.doFeed
  (repeat' split)
  · exact .refl s
  · exact .refl s
  · exact armed.trans (entryCheckWith_strokeKept _ _)

theorem doStop_strokeKept : StrokeKept s s.doStop.1 := by
  unfold State.doStop
  split
  · exact changeMode_strokeKept _ s
  · exact changeMode_strokeKept _ s
  · exact changeMode_strokeKept _ s
  · exact .refl s
  · exact .refl s
  · exact .refl s

theorem doTrip_strokeKept (cause : BitVec 8) : StrokeKept s (s.doTrip p cause).1 := by
  have taken (code : Nat) : StrokeKept s (s.takeTrip p code) := by
    unfold State.takeTrip
    split
    · exact setMode_strokeKept rfl
    · exact changeMode_strokeKept _ s
  unfold State.doTrip
  (repeat' split)
  · exact .refl s
  · exact .refl s
  · exact taken _

theorem doClearTrip_strokeKept : StrokeKept s (s.doClearTrip p).1 := by
  unfold State.doClearTrip
  (repeat' split)
  · exact .refl s
  · exact .refl s
  · exact .refl s
  · exact changeMode_strokeKept _ s

theorem doPostTemperature_strokeKept (value : BitVec 16) : StrokeKept s (s.doPostTemperature p value).1 := by
  unfold State.doPostTemperature
  split
  · exact .refl s
  · exact takeTemperature_strokeKept _ s

theorem doSetCleaning_strokeKept (code : BitVec 8) : StrokeKept s (s.doSetCleaning p code).1 := by
  have held (a : Availability) : StrokeKept s (s.setEau { s.eau with cleaning := a }) := .of_sta ⟨rfl, rfl⟩
  unfold State.doSetCleaning
  (repeat' split)
  · exact .refl s
  · exact .refl s
  · exact .refl s
  · exact (held _).trans (takeCleaning_strokeKept _ _)

/-! ## The commands of the array (R104, R112, R113) -/

theorem doSetChannel_strokeKept (number enabled source : BitVec 8) (fixedPeriod : BitVec 16) :
    StrokeKept s (s.doSetChannel p number enabled source fixedPeriod).1 := by
  unfold State.doSetChannel
  (repeat' split)
  · exact .refl s
  · exact putChannel_strokeKept fun ⟨_, _, waits⟩ => settle_channelLaw waits
  · exact .refl s

theorem doSetLanes_strokeKept (split massA massB : BitVec 16) : StrokeKept s (s.doSetLanes p split massA massB).1 := by
  unfold State.doSetLanes
  split
  · exact .refl s
  · exact .of_channels rfl fun ch law => (relane_readied _ _ _ ch).channelLaw law

theorem doClearJam_strokeKept (number : BitVec 8) : StrokeKept s (s.doClearJam p number).1 := by
  unfold State.doClearJam
  (repeat' split)
  · exact .refl s
  · exact .refl s
  · exact putChannel_strokeKept fun _ => clearedRecord_channelLaw _ _ _ _ _
  · exact .refl s

/-! ## The commands of the ledger (R116, R118 to R120) -/

/-- New items of the ledger, the request that they call for, and the allocation. -/
theorem ledgerFormed_strokeKept (l : Ledger) : StrokeKept s ((s.setSlg l).writeRequest).reallocate := by
  refine .of_handed (by simp) ?_
  simp only [State.reallocate_frame]
  exact GrantsHanded.writeRequest (s := s.setSlg l) (.refl _)

theorem doPostSteam_strokeKept (flow : BitVec 16) : StrokeKept s (s.doPostSteam p flow).1 := by
  have put (l : Ledger) (u : State) : StrokeKept u (u.setSlg l) := .of_sta ⟨rfl, rfl⟩
  have served (u : State) : StrokeKept u u.reallocate := .of_sta (by simp)
  unfold State.doPostSteam
  split
  · exact .refl s
  · dsimp only [State.takeSteam]
    split
    · exact (put _ s).trans (ledgerFormed_strokeKept _ _)
    · exact (put _ s).trans (served _)

theorem doSetAuxDemand_strokeKept (demand : BitVec 16) : StrokeKept s (s.doSetAuxDemand p demand).1 := by
  unfold State.doSetAuxDemand State.takeAux
  (repeat' split)
  · exact .refl s
  · exact .refl s
  · exact ledgerFormed_strokeKept s _

theorem doSetConsumers_strokeKept (turbine extraction : BitVec 8) : StrokeKept s (s.doSetConsumers p turbine extraction).1 := by
  have taken (a b : Availability) : StrokeKept s (s.takeConsumers a b) := by
    unfold State.takeConsumers
    split
    · exact .refl s
    · exact ledgerFormed_strokeKept s _
  unfold State.doSetConsumers
  (repeat' split)
  · exact .refl s
  · exact taken _ _
  · exact .refl s

theorem doPostOrder_strokeKept (args : OrderArgs) : StrokeKept s (s.doPostOrder p args).1 := by
  have posted (u : State) : StrokeKept u (u.post .orderActive .pd) := .of_sta (by simp)
  have placed (o : Order) (clamped : Bool) : StrokeKept s (s.placeOrder o clamped).1 := by
    dsimp only [State.placeOrder]
    (repeat' split)
    · exact (ledgerFormed_strokeKept s _).trans (posted _)
    · exact .of_sta ⟨rfl, rfl⟩
    · exact .refl s
    · exact .of_sta ⟨rfl, rfl⟩
  unfold State.doPostOrder
  (repeat' split)
  · exact .refl s
  · exact .refl s
  · exact .refl s
  · exact .refl s
  · exact placed _ _

/-! ## Rows that leave the mode and the array -/

theorem doSetTime_strokeKept (day : BitVec 16) (hour minute second : BitVec 8) (divisor : BitVec 24) (offset : BitVec 8) :
    StrokeKept s (s.doSetTime p day hour minute second divisor offset).1 := by
  unfold State.doSetTime
  (repeat' split) <;> exact .of_sta ⟨rfl, rfl⟩

theorem doSetLead_strokeKept (lead : BitVec 16) : StrokeKept s (s.doSetLead p lead).1 := by
  unfold State.doSetLead
  split <;> exact .of_sta ⟨rfl, rfl⟩

theorem doClearHistory_strokeKept : StrokeKept s (s.doClearHistory p).1 := by
  unfold State.doClearHistory
  (repeat' split) <;> exact .of_sta ⟨rfl, rfl⟩

theorem doCancelOrders_strokeKept (tag : BitVec 16) : StrokeKept s (s.doCancelOrders p tag).1 := by
  unfold State.doCancelOrders
  split <;> exact .of_sta ⟨rfl, rfl⟩

theorem doPostEnergy_strokeKept (exported heat : BitVec 32) : StrokeKept s (s.doPostEnergy p exported heat).1 := by
  unfold State.doPostEnergy
  split <;> exact .of_sta (by simp)

theorem doRestoreMeters_strokeKept (totals : MeterArgs) : StrokeKept s (s.doRestoreMeters p totals).1 := by
  unfold State.doRestoreMeters
  (repeat' split) <;> exact .of_sta (by simp)

theorem doFreshMeters_strokeKept : StrokeKept s (s.doFreshMeters p).1 := by
  unfold State.doFreshMeters
  (repeat' split) <;> exact .of_sta (by simp)

theorem doProgramSection_strokeKept (number : BitVec 8) (image : List Byte) : StrokeKept s (s.doProgramSection p number image).1 := by
  unfold State.doProgramSection State.programSection
  (repeat' split) <;> exact .of_sta ⟨rfl, rfl⟩

theorem doLockSection_strokeKept (number : BitVec 8) : StrokeKept s (s.doLockSection p number).1 := by
  unfold State.doLockSection State.lockSection
  (repeat' split) <;> exact .of_sta ⟨rfl, rfl⟩

end Commands

/-- A completed PLANT image reaches the array where it is put in force at once (R111, R159). -/
theorem completeProgramming_strokeKept (s : State) : StrokeKept s s.completeProgramming := by
  have taken (sec : PermitSection) (image : List Byte) (u : State) : StrokeKept u (u.takeImage sec image) := by
    unfold State.takeImage
    (repeat' split)
    · exact .of_sta ⟨rfl, rfl⟩
    · exact .of_sta ⟨rfl, rfl⟩
    · exact .of_sta ⟨rfl, rfl⟩
    · exact plantInForce_strokeKept _ u
  unfold State.completeProgramming
  split
  · exact .trans (.of_sta (by simp)) (taken _ _ _)
  · exact .refl s

/-! ## The statement -/

theorem rowWork_strokeKept (i : Instr) (s : State) : StrokeKept s (rowWork i s) := by
  cases i with
  | powerOn => exact fun _ => strokeLaw_of_reset (.inl rfl) rfl
  | pinReset => exact pinReset_strokeKept s
  | pinResetRelease => exact releaseReset_strokeKept s
  | refckEdge => exact refckEdge_strokeKept s
  | secondEvent =>
    dsimp only [rowWork]
    split
    · exact secondEvent_strokeKept s
    · exact .refl s
  | strokeUnitTick => exact strokeUnit_strokeKept s
  | periodExpiry ch => exact expirePeriod_strokeKept ch s
  | strokeLimitExpiry ch => exact expireLimit_strokeKept ch s
  | eosArrival ch => exact arriveEos_strokeKept ch s
  | programmingCompletion => exact completeProgramming_strokeKept s
  | lockCompletion => exact .of_sta (by simp [rowWork])
  | setTime p => exact doSetTime_strokeKept p s _ _ _ _ _ _
  | startClock p => exact doStartClock_strokeKept p s
  | stopClock p => exact doStopClock_strokeKept p s
  | adjustClock p => exact doAdjustClock_strokeKept p s _
  | setLead p => exact doSetLead_strokeKept p s _
  | start p => exact doStart_strokeKept p s
  | feed p => exact doFeed_strokeKept p s
  | stop => exact doStop_strokeKept s
  | trip p => exact doTrip_strokeKept p s _
  | clearTrip p => exact doClearTrip_strokeKept p s
  | postTemperature p => exact doPostTemperature_strokeKept p s _
  | postSamples p => exact doPostSamples_strokeKept p s _ _ _
  | setCleaning p => exact doSetCleaning_strokeKept p s _
  | setReagents p => exact doSetReagents_strokeKept p s _ _ _
  | clearHistory p => exact doClearHistory_strokeKept p s
  | setBoilerLimit p => exact doSetBoilerLimit_strokeKept p s _
  | setChannel p => exact doSetChannel_strokeKept p s _ _ _ _
  | setLanes p => exact doSetLanes_strokeKept p s _ _ _
  | clearJam p => exact doClearJam_strokeKept p s _
  | postSteam p => exact doPostSteam_strokeKept p s _
  | setAuxDemand p => exact doSetAuxDemand_strokeKept p s _
  | setConsumers p => exact doSetConsumers_strokeKept p s _ _
  | postOrder p => exact doPostOrder_strokeKept p s _
  | cancelOrders p => exact doCancelOrders_strokeKept p s _
  | postEnergy p => exact doPostEnergy_strokeKept p s _ _
  | restoreMeters p => exact doRestoreMeters_strokeKept p s _
  | freshMeters p => exact doFreshMeters_strokeKept p s
  | enableWrite => exact .of_sta ⟨rfl, rfl⟩
  | programSection p => exact doProgramSection_strokeKept p s _ _
  | lockSection p => exact doLockSection_strokeKept p s _
  | portReset => exact .of_sta ⟨rfl, rfl⟩
  | _ => exact .refl s

/-- The law is kept by rows: the ports and the queue do not matter to it. -/
theorem strokeKept_byRows : KeptByRows StrokeKept :=
  ⟨StrokeKept.refl, StrokeKept.trans, fun _ _ => .of_sta ⟨rfl, rfl⟩, fun _ _ => .of_sta ⟨rfl, rfl⟩, rowWork_strokeKept⟩

/-- Outside FIRING a ram is OFF or JAMMED, so its output is off (R93, R95). -/
theorem StrokeLaw.ram_output {s : State} (law : StrokeLaw s) (left : s.mode.mode ≠ .firing) {ch : StrokeChannel} (ram : isRam ch = true) :
    strokeOutput (s.sta.channels.get ch) = false := by
  rcases law.still (ch := ch) (by simp [allowed, ram, left]) with h | h <;> simp [strokeOutput, h]

/-- Settles O49: each row's own work keeps the law, so every step does; and the law stills the rams outside FIRING. -/
theorem strokeLawKept : Obligations.StrokeLawKept := by
  unfold Obligations.StrokeLawKept
  intro s t law h
  have kept : StrokeLaw t := strokeKept_byRows.step h law
  exact ⟨kept, fun left => ⟨kept.ram_output left (ch := .ramA) rfl, kept.ram_output left (ch := .ramB) rfl⟩⟩

end Sys2Proof.Machine
end

section
/-! CERTIFICATE. SET_LANES: the settings taken, and the grant held divided again as though it were handed over anew (R106 to R110, R113). -/

namespace Sys2Proof.Machine

/-- The array with new lane settings (R113). -/
abbrev StrokeArray.withSettings (a : StrokeArray) (split massA massB : Nat) : StrokeArray :=
  { a with split := split, massA := massA, massB := massB }

/-- SET_LANES accepted: the settings brought into their ranges and the lanes formed again, the reply in its slot. -/
theorem exec_setLanes_taken {split massA massB : BitVec 16} {s : State} (ready : Ready .pf s) :
    exec (.setLanes .pf split massA massB) s =
      .next ((s.replied .pf (.plain (if 300 ≤ split.toNat ∧ split.toNat ≤ 700 ∧ massA.toNat ≤ 2000 ∧ massB.toNat ≤ 2000
          then .ok else .clamped))).setSta
        (relane s.mode.mode s.pst.workingPlant
          (s.sta.withSettings (min 700 (max 300 split.toNat)) (min 2000 massA.toNat) (min 2000 massB.toNat)))) := by
  have status : (split.toNat < 300 || 700 < split.toNat || massTop < massA.toNat || massTop < massB.toNat) = true
      ↔ ¬ (300 ≤ split.toNat ∧ split.toNat ≤ 700 ∧ massA.toNat ≤ 2000 ∧ massB.toNat ≤ 2000) := by
    simp only [Bool.or_eq_true, decide_eq_true_eq]
    unfold massTop
    omega
  have reply : Reply.done (split.toNat < 300 || 700 < split.toNat || massTop < massA.toNat || massTop < massB.toNat) =
      .plain (if 300 ≤ split.toNat ∧ split.toNat ≤ 700 ∧ massA.toNat ≤ 2000 ∧ massB.toNat ≤ 2000 then .ok else .clamped) := by
    rw [Reply.done, if_congr status rfl rfl, ite_not]
  have done : (s.beginTake .pf).doSetLanes .pf split massA massB =
      ((s.beginTake .pf).setSta (relane s.mode.mode s.pst.workingPlant
          (s.sta.withSettings (min 700 (max 300 split.toNat)) (min 2000 massA.toNat) (min 2000 massB.toNat))),
        .plain (if 300 ≤ split.toNat ∧ split.toNat ≤ 700 ∧ massA.toNat ≤ 2000 ∧ massB.toNat ≤ 2000
          then .ok else .clamped)) := by
    simp only [State.doSetLanes, reply]
    simp [State.setLaneItems, State.plantMode, State.plant, clampTo, massTop]
  simpa using exec_ready rfl ready rfl done

/-- Without a PLANT copy no channel has a period, and with none waiting none is released (log entry 20). -/
theorem relane_no_plant (mode : Mode) {a : StrokeArray} (none : ∀ ch, (a.channels.get ch).state ≠ .wait) :
    relane mode Option.none a = withLanes a := by
  have same : (relane mode Option.none a).channels = a.channels := PerStroke.ext_get fun ch => by
    rw [relane_channel]
    split
    · have still : writePreload mode Option.none (withLanes a) ch (a.channels.get ch) = a.channels.get ch := by
        simp [writePreload, computedPeriod]
      rw [still, releaseWait, if_neg fun wait => none ch wait.1]
    · rfl
  exact congrArg (fun channels => { withLanes a with channels := channels }) same

/-- Settles O47: under a PLANT copy the lanes formed again are the hand-over of the grant held; without one they are the lanes alone. -/
theorem setLanesDividesTheGrant : Obligations.SetLanesDividesTheGrant := by
  unfold Obligations.SetLanesDividesTheGrant
  intro split massA massB s ready inRange sA gA gB lane told set
  have taken := exec_setLanes_taken (split := split) (massA := massA) (massB := massB) ready
  refine ⟨fun pl plant => ?_, fun plant waitless => ?_⟩
  · intro figure period
    rw [plant] at taken
    refine ⟨_, taken, rfl, fun ch => ?_⟩
    have handed := takeGrant_taken s.mode.mode pl s.sta.grant (s.sta.withSettings sA (min 2000 massA.toNat) (min 2000 massB.toNat))
    obtain ⟨-, channel⟩ := handed
    have lanes : laneGrant (takeGrant s.mode.mode (some pl) s.sta.grant
        (s.sta.withSettings sA (min 2000 massA.toNat) (min 2000 massB.toNat))) ch = lane ch := by cases ch <;> rfl
    have here := channel ch (StrokeChannel.mem_all ch)
    simp only [autoPeriod, lanes] at here
    exact here
  · rw [plant, relane_no_plant (a := s.sta.withSettings sA (min 2000 massA.toNat) (min 2000 massB.toNat)) _ waitless] at taken
    exact taken

end Sys2Proof.Machine
end

section
/-! SUPPORT. What a command leaves that forms the request, the allocation, or both again on new items of the ledger (R106, R116 to
R119, R130 to R134). -/

namespace Sys2Proof.Machine

/-- The allocation divides the whole of the steam (R130). -/
theorem reallocated_allocationLaw (pl : Option Plant) (l : Ledger) : AllocationLaw (reallocated pl l) := by
  unfold AllocationLaw reallocated allocate
  dsimp only
  split <;> dsimp only <;> omega

/-- The targets under a PLANT copy (R128). -/
theorem powerTargetOf_plant (pl : Plant) (l : Ledger) :
    powerTargetOf (some pl) l = if l.turbine = .available then (l.active.map fun o => min o.power pl.snom).getD 0 else 0 := by
  cases turbine : l.turbine <;> cases active : l.active <;> simp [powerTargetOf, turbine, active]

theorem heatTargetOf_plant (pl : Plant) (l : Ledger) :
    heatTargetOf (some pl) l = if l.extraction = .available then (l.active.map fun o => min o.heat pl.heatMax).getD 0 else 0 := by
  cases extraction : l.extraction <;> cases active : l.active <;> simp [heatTargetOf, extraction, active]

/-- With no order active both targets are 0 (R128). -/
theorem retargetLedger_no_order (pl : Option Plant) {l : Ledger} (idle : l.active = none) :
    retargetLedger pl l = { l with powerTarget := 0, heatTarget := 0 } := by
  simp [retargetLedger, powerTargetOf, heatTargetOf, idle]

theorem setpointUnder_eq (a : Availability) (setpoint : Nat) : setpointUnder a setpoint = if a = .available then setpoint else 0 := by
  cases a <;> rfl

/-- A request formed without a PLANT copy is 0 (R133), whatever bounds it. -/
theorem boundedRequest_no_plant (l : Ledger) : boundedRequest none l = 0 := by
  simp [boundedRequest, requestOf]

/-- What a command that recomputes the allocation leaves: the ledger consistent in itself and with the envelope, the strokes following
the grant, the other blocks as they were. -/
abbrev Reformed (s t : State) : Prop :=
  t.slg.alloc = allocate t.slg ∧ AllocationLaw t.slg ∧ ReallocatedFrom s t ∧ t.feu.request = t.slg.request
    ∧ GrantLaw t ∧ GrantFollows s t ∧ t.clock = s.clock ∧ t.mode = s.mode ∧ t.eau = s.eau ∧ t.fmu = s.fmu ∧ t.pst = s.pst

/-- A ledger command taken: the recomputation done, the allocation formed on the ledger `l`, the reply in its slot. -/
structure LedgerTaken (p : Port) (r : Reply) (l : Ledger) (s t : State) : Prop where
  reformed : Reformed s t
  ledger : t.slg = reallocated s.pst.workingPlant l
  slot : (t.port p).slot = some r

/-- What holds of the blocks after a command's work on the state at its take holds once the reply has been placed. -/
theorem Reformed.of_take {s t : State} {p : Port} (h : Reformed (s.beginTake p) t) (r : Reply) : Reformed s (t.answer p r) := by
  obtain ⟨alloc, sum, served, request, law, follows, blocks⟩ := h
  refine ⟨by simpa using alloc, by simpa using sum, by simpa [ReallocatedFrom, ServedInOrder] using served, by simpa using request, ?_,
    follows.of_take r, by simpa using blocks⟩
  simpa only [GrantLaw, State.answer_frame] using law

/-- New items of the ledger, its notices and the request held as they were, then the allocation again. -/
theorem reallocate_reformed {s : State} {l : Ledger} (law : GrantLaw s) (request : l.request = s.slg.request)
    (short : l.shortfall = s.slg.shortfall) (spill : l.dumpOver = s.slg.dumpOver) : Reformed s (s.setSlg l).reallocate := by
  have slg : (s.setSlg l).reallocate.slg = reallocated s.pst.workingPlant l := State.reallocate_slg _
  have kept : GrantLaw (s.setSlg l).reallocate := ((setSlg_grantKept request).trans (reallocate_grantKept _)).law law
  refine ⟨by rw [slg]; rfl, slg ▸ reallocated_allocationLaw _ _, reallocatedFrom_of short spill rfl (by simp) (.refl _), kept.1, kept,
    ?_, by simp⟩
  exact ⟨fun _ => by simp, fun changed => absurd (by simp) changed⟩

/-- New items of the ledger, the request that they call for, and the allocation again. -/
theorem ledgerFormed_reformed {s : State} {l : Ledger} (law : GrantLaw s) (request : l.request = s.slg.request)
    (short : l.shortfall = s.slg.shortfall) (spill : l.dumpOver = s.slg.dumpOver) : Reformed s (s.setSlg l).writeRequest.reallocate := by
  have slg : (s.setSlg l).writeRequest.reallocate.slg = reallocated s.pst.workingPlant
      { l with request := boundedRequest s.pst.workingPlant l } := by
    simp [State.reallocate_slg, State.writeRequest_slg]
  have kept : GrantLaw (s.setSlg l).writeRequest.reallocate := (ledgerFormed_grantKept request).law law
  refine ⟨by rw [slg]; rfl, slg ▸ reallocated_allocationLaw _ _,
    reallocatedFrom_of (by simpa [State.writeRequest_slg] using short) (by simpa [State.writeRequest_slg] using spill) rfl (by simp)
      (.refl _),
    kept.1, kept, grantFollows_of rfl rfl ?_, by simp⟩
  simp [State.writeRequest, State.takeRequest_setSlg, State.takeRequest_sta]

theorem reallocate_taken {p : Port} {s : State} {l : Ledger} (r : Reply) (law : GrantLaw s) (request : l.request = s.slg.request)
    (short : l.shortfall = s.slg.shortfall) (spill : l.dumpOver = s.slg.dumpOver) :
    LedgerTaken p r l s (((s.beginTake p).setSlg l).reallocate.answer p r) := by
  refine ⟨.of_take (reallocate_reformed ?_ (by simpa using request) (by simpa using short) (by simpa using spill)) r, ?_,
    State.answer_slot _ _ _⟩
  · simpa only [GrantLaw, State.beginTake_frame] using law
  · simp [State.reallocate_slg]

theorem ledgerFormed_taken {p : Port} {s : State} {l : Ledger} (r : Reply) (law : GrantLaw s) (request : l.request = s.slg.request)
    (short : l.shortfall = s.slg.shortfall) (spill : l.dumpOver = s.slg.dumpOver) :
    LedgerTaken p r { l with request := boundedRequest s.pst.workingPlant l } s
      (((s.beginTake p).setSlg l).writeRequest.reallocate.answer p r) := by
  refine ⟨.of_take (ledgerFormed_reformed ?_ (by simpa using request) (by simpa using short) (by simpa using spill)) r, ?_,
    State.answer_slot _ _ _⟩
  · simpa only [GrantLaw, State.beginTake_frame] using law
  · simp [State.reallocate_slg, State.writeRequest_slg]

end Sys2Proof.Machine
end

section
/-! CERTIFICATE. POST_STEAM, SET_AUX_DEMAND and SET_CONSUMERS: the ledger that each forms, with a PLANT copy and without one (R116 to
R119, R126, R128, R130 to R134). -/

namespace Sys2Proof.Machine

section Commands

variable {s : State} {pl : Plant}

/-! ## What each command takes -/

/-- A posted flow that makes the request anew, the stale flag cleared (R117, R134). -/
theorem exec_postSteam_stale (x : BitVec 16) (law : GrantLaw s) (ready : Ready .pf s) (stale : s.slg.stale = true)
    (plant : s.pst.workingPlant = some pl) :
    ∃ t, exec (.postSteam .pf x) s = .next t ∧ LedgerTaken .pf (.plain .ok)
      { s.slg with steam := x.toNat, present := true, age := 0, stale := false, request := requestOf (some pl) s.slg } s t := by
  have done : (s.beginTake .pf).doPostSteam .pf x =
      (((s.beginTake .pf).setSlg { s.slg with steam := x.toNat, present := true, age := 0, stale := false }).writeRequest.reallocate,
        .plain .ok) := by
    simp [State.doPostSteam, State.takeSteam, stale, State.plant, plant]
  refine ⟨_, exec_ready rfl ready rfl done, ?_⟩
  simpa [boundedRequest, requestOf, plant] using
    ledgerFormed_taken (p := .pf) (l := { s.slg with steam := x.toNat, present := true, age := 0, stale := false }) (.plain .ok) law
      rfl rfl rfl

/-- A posted flow that leaves the request as it is (R117). -/
theorem exec_postSteam_fresh (x : BitVec 16) (law : GrantLaw s) (ready : Ready .pf s)
    (fresh : ¬ (s.slg.stale = true ∧ s.pst.workingPlant.isSome = true)) :
    ∃ t, exec (.postSteam .pf x) s = .next t
      ∧ LedgerTaken .pf (.plain .ok) { s.slg with steam := x.toNat, present := true, age := 0 } s t := by
  have done : (s.beginTake .pf).doPostSteam .pf x =
      (((s.beginTake .pf).setSlg { s.slg with steam := x.toNat, present := true, age := 0 }).reallocate, .plain .ok) := by
    simp only [State.doPostSteam, State.takeSteam, State.plant, State.beginTake_frame, if_neg fresh]
    rfl
  exact ⟨_, exec_ready rfl ready rfl done, reallocate_taken _ law rfl rfl rfl⟩

/-- An aux demand that is held already (R118). -/
theorem exec_setAuxDemand_held (x : BitVec 16) (ready : Ready .pf s) (held : auxClamped s.pst.workingPlant x.toNat = s.slg.aux) :
    exec (.setAuxDemand .pf x) s = .next (s.replied .pf (.done (auxClamped s.pst.workingPlant x.toNat < x.toNat))) := by
  have done : (s.beginTake .pf).doSetAuxDemand .pf x = (s.beginTake .pf, .done (auxClamped s.pst.workingPlant x.toNat < x.toNat)) := by
    simp [State.doSetAuxDemand, State.takeAux, State.plant, held]
  simpa using exec_ready rfl ready rfl done

/-- Another aux demand (R118, R133, R134). -/
theorem exec_setAuxDemand_new (x : BitVec 16) (law : GrantLaw s) (ready : Ready .pf s)
    (new : auxClamped s.pst.workingPlant x.toNat ≠ s.slg.aux) :
    ∃ t, exec (.setAuxDemand .pf x) s = .next t
      ∧ LedgerTaken .pf (.done (auxClamped s.pst.workingPlant x.toNat < x.toNat))
        { s.slg with
          aux := auxClamped s.pst.workingPlant x.toNat
          request := boundedRequest s.pst.workingPlant { s.slg with aux := auxClamped s.pst.workingPlant x.toNat } } s t := by
  have done : (s.beginTake .pf).doSetAuxDemand .pf x =
      (((s.beginTake .pf).setSlg { s.slg with aux := auxClamped s.pst.workingPlant x.toNat }).writeRequest.reallocate,
        .done (auxClamped s.pst.workingPlant x.toNat < x.toNat)) := by
    simp [State.doSetAuxDemand, State.takeAux, State.plant, new]
  exact ⟨_, exec_ready rfl ready rfl done,
    ledgerFormed_taken (l := { s.slg with aux := auxClamped s.pst.workingPlant x.toNat }) _ law rfl rfl rfl⟩

/-- A code that names no availability (R119). -/
theorem exec_setConsumers_range {turbine extraction : BitVec 8} (ready : Ready .pd s)
    (range : 2 ≤ turbine.toNat ∨ 2 ≤ extraction.toNat) :
    exec (.setConsumers .pd turbine extraction) s = .next (s.replied .pd (.plain .range)) := by
  have unknown (b : BitVec 8) (high : 2 ≤ b.toNat) : Availability.ofCode b = none := by
    unfold Availability.ofCode
    split
    · omega
    · omega
    · rfl
  have done : (s.beginTake .pd).doSetConsumers .pd turbine extraction = (s.beginTake .pd, .plain .range) := by
    rcases range with high | high <;> simp [State.doSetConsumers, unknown _ high, refuse]
  simpa using exec_ready rfl ready rfl done

/-- Availabilities that are held already (R119). -/
theorem exec_setConsumers_held {turbine extraction : BitVec 8} (ready : Ready .pd s)
    (t₁ : Availability.ofCode turbine = some s.slg.turbine) (e₁ : Availability.ofCode extraction = some s.slg.extraction) :
    exec (.setConsumers .pd turbine extraction) s = .next (s.replied .pd (.plain .ok)) := by
  have done : (s.beginTake .pd).doSetConsumers .pd turbine extraction = (s.beginTake .pd, .plain .ok) := by
    simp [State.doSetConsumers, t₁, e₁, State.takeConsumers]
  simpa using exec_ready rfl ready rfl done

/-- The ledger under new availabilities: no setpoint for a consumer UNAVAILABLE, the targets formed again (R119, R128). -/
def Ledger.withConsumers (plant : Option Plant) (turbine extraction : Availability) (l : Ledger) : Ledger :=
  retargetLedger plant { l with
    turbine := turbine, extraction := extraction
    powerSetpoint := if turbine = .available then l.powerSetpoint else 0
    heatSetpoint := if extraction = .available then l.heatSetpoint else 0 }

/-- Other availabilities (R119, R133, R134). -/
theorem exec_setConsumers_new {turbine extraction : BitVec 8} {t₁ e₁ : Availability} (law : GrantLaw s) (ready : Ready .pd s)
    (turbineIs : Availability.ofCode turbine = some t₁) (extractionIs : Availability.ofCode extraction = some e₁)
    (new : ¬ (t₁ = s.slg.turbine ∧ e₁ = s.slg.extraction)) :
    ∃ t, exec (.setConsumers .pd turbine extraction) s = .next t
      ∧ LedgerTaken .pd (.plain .ok)
        { s.slg.withConsumers s.pst.workingPlant t₁ e₁ with
          request := boundedRequest s.pst.workingPlant (s.slg.withConsumers s.pst.workingPlant t₁ e₁) } s t := by
  have done : (s.beginTake .pd).doSetConsumers .pd turbine extraction =
      (((s.beginTake .pd).setSlg (s.slg.withConsumers s.pst.workingPlant t₁ e₁)).writeRequest.reallocate, .plain .ok) := by
    simp only [State.doSetConsumers, turbineIs, extractionIs, State.takeConsumers, State.beginTake_frame, if_neg new, State.plant,
      setpointUnder_eq]
    rfl
  exact ⟨_, exec_ready rfl ready rfl done, ledgerFormed_taken _ law rfl rfl rfl⟩

/-! ## From the ledger formed to the statement's items -/

/-- The ledger formed, but for the items of the recomputation. -/
theorem LedgerTaken.rest {p : Port} {r : Reply} {l : Ledger} {t : State} (h : LedgerTaken p r l s t) :
    t.slg = { l with alloc := t.slg.alloc, shortfall := t.slg.shortfall, dumpOver := t.slg.dumpOver, request := t.slg.request } := by
  rw [h.ledger]
  rfl

theorem LedgerTaken.request {p : Port} {r : Reply} {l : Ledger} {t : State} (h : LedgerTaken p r l s t) : t.slg.request = l.request := by
  rw [h.ledger]
  rfl

/-- The dump-over flag under a PLANT copy (R132). -/
theorem LedgerTaken.dumpOver {p : Port} {r : Reply} {l : Ledger} {t : State} (h : LedgerTaken p r l s t)
    (plant : s.pst.workingPlant = some pl) : t.slg.dumpOver = decide (pl.dumpCap < t.slg.alloc.dump) := by
  rw [h.ledger, plant]
  rfl

end Commands

/-! ## The statement -/

/-- Settles O50: each command is its own items of the ledger written, and the recomputation that it calls for. -/
theorem ledgerCommandsReallocate : Obligations.LedgerCommandsReallocate := by
  unfold Obligations.LedgerCommandsReallocate
  intro x turbine extraction s law reformed rest
  refine ⟨fun pl plant => ?_, fun plant => ?_⟩
  · intro aux asked held formed
    have clamp : auxClamped s.pst.workingPlant x.toNat = aux := by rw [plant]; rfl
    have reply (a : Nat) : Reply.done (a < x.toNat) = .plain (if a < x.toNat then .clamped else .ok) := by simp [Reply.done]
    refine ⟨fun ready => ?_, fun ready same => ?_, fun ready new => ?_, fun ready range => exec_setConsumers_range ready range,
      fun t₁ e₁ ready turbineIs extractionIs => ⟨?_, fun new => ?_⟩⟩
    · by_cases stale : s.slg.stale = true
      · obtain ⟨t, run, taken⟩ := exec_postSteam_stale x law ready stale plant
        exact ⟨t, run, ⟨taken.reformed, taken.dumpOver plant⟩, taken.slot, taken.rest, by rw [taken.request, if_pos stale]; rfl⟩
      · obtain ⟨t, run, taken⟩ := exec_postSteam_fresh x law ready fun h => stale h.1
        refine ⟨t, run, ⟨taken.reformed, taken.dumpOver plant⟩, taken.slot, ?_, by rw [taken.request, if_neg stale]⟩
        rw [← Bool.eq_false_of_not_eq_true stale]
        exact taken.rest
    · rw [exec_setAuxDemand_held x ready (clamp.trans same), clamp, reply]
    · obtain ⟨t, run, taken⟩ := exec_setAuxDemand_new x law ready (clamp ▸ new)
      rw [clamp] at taken
      exact ⟨t, run, ⟨taken.reformed, taken.dumpOver plant⟩, reply aux ▸ taken.slot, taken.rest,
        by rw [taken.request, plant]; rfl⟩
    · rintro rfl rfl
      exact exec_setConsumers_held ready turbineIs extractionIs
    · intro l
      obtain ⟨t, run, taken⟩ := exec_setConsumers_new law ready turbineIs extractionIs new
      have ledger : s.slg.withConsumers s.pst.workingPlant t₁ e₁ = l := by
        simp only [Ledger.withConsumers, plant, retargetLedger, powerTargetOf_plant, heatTargetOf_plant, l]
      rw [ledger] at taken
      exact ⟨t, run, ⟨taken.reformed, taken.dumpOver plant⟩, taken.slot, taken.rest, by rw [taken.request, plant]; rfl⟩
  · have clamp : auxClamped s.pst.workingPlant x.toNat = x.toNat := by rw [plant]; rfl
    have reply : Reply.done (x.toNat < x.toNat) = .plain .ok := by simp [Reply.done]
    refine ⟨fun ready => ?_, fun ready same => ?_, fun ready new => ?_, fun t₁ e₁ ready turbineIs extractionIs idle new => ?_⟩
    · obtain ⟨t, run, taken⟩ := exec_postSteam_fresh x law ready (by simp [plant])
      exact ⟨t, run, taken.reformed, taken.slot, taken.rest, taken.request⟩
    · rw [exec_setAuxDemand_held x ready (clamp.trans same), clamp, reply]
    · obtain ⟨t, run, taken⟩ := exec_setAuxDemand_new x law ready (by rwa [clamp])
      rw [clamp, plant, boundedRequest_no_plant] at taken
      exact ⟨t, run, taken.reformed, reply ▸ taken.slot, taken.rest, taken.request⟩
    · obtain ⟨t, run, taken⟩ := exec_setConsumers_new law ready turbineIs extractionIs new
      rw [plant, boundedRequest_no_plant, Ledger.withConsumers, retargetLedger_no_order none (by exact idle)] at taken
      exact ⟨t, run, taken.reformed, taken.slot, taken.rest, taken.request⟩

end Sys2Proof.Machine
end

section
/-! SUPPORT. The end of a programming or lock cycle at the store, and a PLANT copy put in force outside FIRING (R107 to
R109, R111, R135, R158 to R160). -/

namespace Sys2Proof.Machine

/-! ## The cycle's end at the store -/

/-- A store written and its cycle ended, in one piece. -/
theorem State.endCycle_setPst (pst : PermitStore) (p : Port) (s : State) :
    (s.setPst pst).endCycle p = (s.setPst { pst with activity := .idle, latches := pst.latches.set p false }).post .permitDone p := rfl

/-- The store after a cycle's end. -/
theorem State.endCycle_pst (p : Port) (s : State) :
    (s.endCycle p).pst = { s.pst with activity := .idle, latches := s.pst.latches.set p false } := by
  simp [State.endCycle, State.setActivity, State.setLatch]

theorem State.endCycle_permitDone (p : Port) (s : State) : (s.endCycle p).holds p .permitDone = true := State.holds_post _ _ _

/-- A store written after a notice is a store written before it. -/
theorem State.setPst_post (pst : PermitStore) (n : Notice) (p : Port) (s : State) : (s.post n p).setPst pst = (s.setPst pst).post n p := by
  cases p <;> rfl

/-- The end of a programming cycle (R158). -/
theorem State.completeProgramming_done {s : State} {sec : PermitSection} {p : Port} {image : List Byte}
    (cycle : s.pst.activity = .programming sec p image) :
    s.completeProgramming =
      ((s.setPst (s.pst.store sec { s.pst.stored sec with
        state := .valid, image := finalImage sec (s.pst.stored sec) image })).endCycle p).takeImage sec
          (finalImage sec (s.pst.stored sec) image) := by
  simp only [State.completeProgramming, cycle]

theorem finalImage_other {sec : PermitSection} (other : sec ≠ .limits) (before : StoredSection) (image : List Byte) :
    finalImage sec before image = image := if_neg fun h => other h.1

theorem firingOrHold_iff (m : Mode) : firingOrHold m = true ↔ m = .firing ∨ m = .hold := by
  cases m <;> decide

/-- After the steam has been served again the allocation is that of the ledger (R130). -/
theorem State.reallocate_alloc (s : State) : s.reallocate.slg.alloc = allocate s.reallocate.slg := by
  rw [State.reallocate_slg]
  rfl

/-! ## A PLANT copy in force where nothing is granted -/

/-- Outside FIRING, with neither target nor grant, the envelope takes a request and nothing else. -/
theorem State.takeRequest_idle_feu (value : Nat) {s : State} (law : GrantLaw s) (idle : s.mode.mode ≠ .firing) :
    (s.takeRequest value).feu = { s.feu with request := value } := by
  obtain ⟨grant, target⟩ := grant_zero law idle
  obtain ⟨-, -, limiting, -, -⟩ := law
  rw [limitingFlag_not_firing idle] at limiting
  rw [State.takeRequest_feu]
  split
  · next same =>
    subst same
    rfl
  · simp [retargeted, targetOf_not_firing idle, limitingFlag_not_firing idle, target, limiting, grant]

/-- Outside FIRING a copy put in force moves neither target nor grant: the envelope takes the new request, the array the new periods. -/
theorem State.plantInForce_idle {s : State} (pl : Plant) (law : GrantLaw s) (idle : s.mode.mode ≠ .firing) :
    (s.plantInForce pl).feu = { s.feu with request := (s.plantInForce pl).feu.request }
      ∧ (s.plantInForce pl).sta = takePlant s.mode.mode (some pl) s.sta := by
  obtain ⟨grant, target⟩ := grant_zero law idle
  have inForce : GrantLaw (s.setPst { s.pst with workingPlant := some pl }) := law
  simp only [State.plantInForce, State.ledgerTakePlant, State.reallocate_frame, State.writeRequest, State.takeRequest_setSlg,
    State.takeRequest_request]
  refine ⟨State.takeRequest_idle_feu (s := (s.setPst { s.pst with workingPlant := some pl }).setSta
      (takePlant s.mode.mode (some pl) s.sta)) _ inForce idle, ?_⟩
  obtain ⟨-, -, sta⟩ := State.takeRequest_idle _ (s := (s.setPst { s.pst with workingPlant := some pl }).setSta
    (takePlant s.mode.mode (some pl) s.sta)) idle target grant
  exact sta

/-- The period of a channel under a PLANT copy outside FIRING: its own setting, or that of its lane grant or of grate_min (R107, R108). -/
def idlePeriod (pl : Plant) (a : StrokeArray) (ch : StrokeChannel) (r : StrokeRecord) : Nat :=
  let figure := if isRam ch then laneGrant a ch else pl.grateMin
  max ((timingOf pl ch).ls + 10)
    (if r.source = .fixed then r.fixedPeriod else min 65535 (((timingOf pl ch).pnom * 1000 + figure / 2) / figure))

/-- Outside FIRING every channel that need not wait has that period. -/
theorem computedPeriod_idle {mode : Mode} {pl : Plant} {a : StrokeArray} {ch : StrokeChannel} {r : StrokeRecord} (idle : mode ≠ .firing)
    (runs : ¬ (isRam ch = true ∧ r.source = .auto ∧ laneGrant a ch < 50)) :
    computedPeriod mode (some pl) a ch r = some (idlePeriod pl a ch r) := by
  cases ram : isRam ch with
  | false => simpa [idlePeriod, ram] using computedPeriod_grate ram idle
  | true =>
    cases source : r.source with
    | fixed => simp [computedPeriod, idlePeriod, source]
    | auto =>
      have above : ¬ laneGrant a ch < cutoff := fun below => runs ⟨ram, source, below⟩
      simp [computedPeriod, idlePeriod, source, ram, above, periodFor]

/-- A channel under a new copy outside FIRING: the computed period into the preload of a running one that has it (R107 to R109, R111). -/
theorem takePlant_channel_idle {mode : Mode} {pl : Plant} {a : StrokeArray} (idle : mode ≠ .firing) (ch : StrokeChannel) :
    let r := a.channels.get ch
    (takePlant mode (some pl) a).channels.get ch =
      if (r.state = .dwell ∨ r.state = .stroke) ∧ ¬ (isRam ch = true ∧ r.source = .auto ∧ laneGrant a ch < 50)
      then { r with preload := some (idlePeriod pl a ch r) } else r := by
  intro r
  have written : (takePlant mode (some pl) a).channels.get ch = writePreload mode (some pl) a ch r := PerStroke.get_map _ _ _
  rw [written]
  by_cases cycles : cycling r = true
  · have runs := (cycling_iff r).1 cycles
    rw [writePreload_cycling cycles]
    by_cases waits : isRam ch = true ∧ r.source = .auto ∧ laneGrant a ch < 50
    · have none : computedPeriod mode (some pl) a ch r = Option.none := by
        obtain ⟨ram, auto, below⟩ := waits
        simp [computedPeriod, auto, ram, show laneGrant a ch < cutoff from below]
      rw [none, if_neg fun h => h.2 waits]
      rfl
    · have both : (r.state = .dwell ∨ r.state = .stroke) ∧ ¬ (isRam ch = true ∧ r.source = .auto ∧ laneGrant a ch < 50) :=
        ⟨runs, waits⟩
      rw [if_pos both, computedPeriod_idle idle waits]
      rfl
  · rw [writePreload, if_neg cycles, if_neg fun h => cycles ((cycling_iff r).2 h.1)]

end Sys2Proof.Machine
end

section
/-! CERTIFICATE. The completions of a programming and of a lock cycle (R158 to R160). -/

namespace Sys2Proof.Machine

/-- The end of a PLANT cycle outside FIRING and HOLD: the section written, the cycle ended, the copy in force (R158, R159). -/
theorem exec_programmingCompletion_inForce {s : State} {p : Port} {image : List Byte} (cycle : s.pst.activity = .programming .plant p image)
    (firing : s.mode.mode ≠ .firing) (hold : s.mode.mode ≠ .hold) :
    exec .programmingCompletion s = .next (((s.setPst { s.pst with
      plant := { s.pst.plant with state := .valid, image := image } }).endCycle p).plantInForce (decodePlant image)) := by
  refine congrArg Host.Outcome.next ((State.completeProgramming_done cycle).trans ?_)
  rw [finalImage_other (sec := .plant) (by decide), State.takeImage, if_neg]
  · rfl
  · simpa [State.plantMode, firingOrHold_iff] using And.intro firing hold

/-- Settles O57: each completion is the cycle's end at the store and the image taken; a PLANT copy in force at once meets no grant. -/
theorem cyclesComplete : Obligations.CyclesComplete := by
  unfold Obligations.CyclesComplete
  intro p image s ended serial final
  refine ⟨fun cycle => ?_, fun cycle => ?_, fun cycle keeps => ?_, fun cycle firing hold law => ?_, fun sec cycle => ?_, fun none => ?_,
    fun none => ?_⟩
  · have written : finalImage .limits (s.pst.stored .limits) image = final := by simp [finalImage, final, PermitStore.stored, serial]
    refine congrArg Host.Outcome.next ((State.completeProgramming_done cycle).trans ?_)
    rw [written, State.endCycle_setPst, State.takeImage, State.setPst_post]
    rfl
  · refine congrArg Host.Outcome.next ((State.completeProgramming_done cycle).trans ?_)
    rw [finalImage_other (sec := .tariff) (by decide), State.endCycle_setPst, State.takeImage, State.setPst_post]
    rfl
  · refine congrArg Host.Outcome.next ((State.completeProgramming_done cycle).trans ?_)
    rw [finalImage_other (sec := .plant) (by decide), State.endCycle_setPst, State.takeImage, if_pos, State.setPst_post]
    · rfl
    · simpa [State.plantMode] using (firingOrHold_iff _).2 keeps
  · intro pl figure period
    have done := exec_programmingCompletion_inForce cycle firing hold
    generalize closed : (s.setPst { s.pst with plant := { s.pst.plant with state := .valid, image := image } }).endCycle p = u at done
    have blocks : u.clock = s.clock ∧ u.mode = s.mode ∧ u.eau = s.eau ∧ u.feu = s.feu ∧ u.sta = s.sta ∧ u.slg = s.slg
        ∧ u.fmu = s.fmu := by
      simp [← closed]
    have pst : u.pst = { s.pst with
        plant := { s.pst.plant with state := .valid, image := image }, activity := .idle, latches := s.pst.latches.set p false } := by
      rw [← closed, State.endCycle_pst]
      rfl
    have told : u.holds p .permitDone = true := closed ▸ State.endCycle_permitDone _ _
    obtain ⟨clock, mode, eau, feu, sta, slg, fmu⟩ := blocks
    have lawful : GrantLaw u := by simpa only [GrantLaw, mode, feu, slg, sta] using law
    have kept : GrantLaw (u.plantInForce pl) := (plantInForce_grantKept pl u).law lawful
    have idle : u.mode.mode ≠ .firing := by rwa [mode]
    have reaches : PlantReachesLedger pl s (u.plantInForce pl) := by
      simpa only [PlantReachesLedger, ReallocatedFrom, slg] using plantInForce_reaches pl u
    obtain ⟨ledger, -, request⟩ := id reaches
    obtain ⟨envelope, array⟩ := State.plantInForce_idle pl lawful idle
    rw [mode, sta] at array
    refine ⟨_, done, ?_, ?_, ?_, ?_, ?_, ?_, kept, ?_, reaches, ?_, ?_, fun ch => ?_, ?_, ?_, ?_, ?_⟩
    · rw [State.plantInForce_pst, pst]
    · exact ((PortsGrow.refl u).plantInForce pl).holds told
    · rw [ledger]
    · rw [ledger]
    · rw [ledger]
    · exact State.reallocate_alloc _
    · exact (grant_zero kept (by simpa using idle)).1
    · rw [envelope, feu, request]
    · rw [array]
      rfl
    · rw [array]
      exact takePlant_channel_idle firing ch
    · simpa using clock
    · simpa using mode
    · simpa using eau
    · simpa using fmu
  · refine congrArg Host.Outcome.next ?_
    simp only [State.completeLock, cycle, State.endCycle_setPst]
    cases sec <;> rfl
  · refine congrArg Host.Outcome.next ?_
    unfold State.completeProgramming
    split
    · next sec q img cycle => exact absurd cycle (none sec q img)
    · rfl
  · refine congrArg Host.Outcome.next ?_
    unfold State.completeLock
    split
    · next sec q cycle => exact absurd cycle (none sec q)
    · rfl

end Sys2Proof.Machine
end

section
/-! SUPPORT. The digit arithmetic of the totals by number: what a digit by digit addition makes of the value, and when it carries
out (R139, R144). -/

namespace Sys2Proof.Machine

/-- Decimal digits. -/
abbrev Decimal (d : Digits) : Prop := ∀ x ∈ d, x ≤ 9

theorem totalValue_lt {d : Digits} (decimal : Decimal d) : totalValue d < 10 ^ d.length := by
  induction d with
  | nil => simp [totalValue]
  | cons a as ih =>
    have head : a ≤ 9 := decimal a (by simp)
    have tail := ih fun x mem => decimal x (by simp [mem])
    rw [totalValue, List.length_cons, pow_succ]
    omega

@[simp] theorem toDigits_length (k n : Nat) : (toDigits k n).length = k := by
  induction k generalizing n with
  | zero => rfl
  | succ k ih => simp [toDigits, ih]

theorem toDigits_decimal (k n : Nat) : Decimal (toDigits k n) := by
  induction k generalizing n with
  | zero => simp [Decimal, toDigits]
  | succ k ih =>
    have low : n % 10 ≤ 9 := by omega
    simpa [Decimal, toDigits, low] using ih (n / 10)

theorem totalValue_toDigits (k n : Nat) : totalValue (toDigits k n) = n % 10 ^ k := by
  induction k generalizing n with
  | zero => simp [toDigits, totalValue, Nat.mod_one]
  | succ k ih => rw [toDigits, totalValue, ih, pow_succ', Nat.mod_mul]

/-- A position of an addition, without and with a carry out of it. -/
theorem addDigits_cons (a b c : Nat) (as bs : Digits) : addDigits (a :: as) (b :: bs) c =
    if a + b + c < 10 then ((a + b + c) :: (addDigits as bs 0).1, (addDigits as bs 0).2)
    else ((a + b + c - 10) :: (addDigits as bs 1).1, (addDigits as bs 1).2) := by
  by_cases small : a + b + c < 10 <;> simp [addDigits, small]

/-- What a digit by digit addition leaves: as many digits, each decimal, a carry of at most 1, and the sum of the values with the carry
as the digit above them. -/
structure Added (as bs : Digits) (c : Nat) (sum : Digits × Nat) : Prop where
  length  : sum.1.length = as.length
  decimal : Decimal sum.1
  carry   : sum.2 ≤ 1
  value   : totalValue sum.1 + 10 ^ as.length * sum.2 = totalValue as + totalValue bs + c

theorem addDigits_added {as bs : Digits} {c : Nat} (lengths : bs.length = as.length) (first : Decimal as) (second : Decimal bs)
    (carried : c ≤ 1) :
    Added as bs c (addDigits as bs c) := by
  induction as generalizing bs c with
  | nil =>
    obtain rfl := List.eq_nil_of_length_eq_zero lengths
    exact ⟨rfl, first, carried, by simp [addDigits, totalValue]⟩
  | cons a as ih =>
    cases bs with
    | nil => simp at lengths
    | cons b bs =>
      have digitA : a ≤ 9 := first a (by simp)
      have digitB : b ≤ 9 := second b (by simp)
      have above (out : Nat) (one : out ≤ 1) : Added as bs out (addDigits as bs out) :=
        ih (by simpa using lengths) (fun x mem => first x (by simp [mem])) (fun x mem => second x (by simp [mem])) one
      rw [addDigits_cons]
      split
      · obtain ⟨length, decimal, carry, value⟩ := above 0 (by omega)
        refine ⟨by simp [length], List.forall_mem_cons.2 ⟨by omega, decimal⟩, carry, ?_⟩
        simp only [totalValue, List.length_cons, pow_succ, mul_right_comm _ 10]
        omega
      · obtain ⟨length, decimal, carry, value⟩ := above 1 (by omega)
        refine ⟨by simp [length], List.forall_mem_cons.2 ⟨by omega, decimal⟩, carry, ?_⟩
        simp only [totalValue, List.length_cons, pow_succ, mul_right_comm _ 10]
        omega

/-- A total and an increment, digit by digit. -/
theorem addDigits_total {d : Digits} (law : TotalLaw d) (n : Nat) :
    Added d (toDigits 12 n) 0 (addDigits d (toDigits 12 n) 0) := by
  obtain ⟨twelve, digits⟩ := law
  exact addDigits_added (by rw [toDigits_length, twelve]) digits (toDigits_decimal 12 n) (Nat.zero_le 1)

/-- An increment added to a total (R144): the total's law kept, its value modulo 10^12. -/
theorem addTotal_law {d : Digits} (law : TotalLaw d) (n : Nat) :
    TotalLaw (addTotal d n) ∧ totalValue (addTotal d n) = (totalValue d + n) % 10 ^ 12 := by
  obtain ⟨length, decimal, -, value⟩ := addDigits_total law n
  obtain ⟨twelve, -⟩ := law
  have low : totalValue (addTotal d n) < 10 ^ 12 := by simpa [addTotal, length, twelve] using totalValue_lt decimal
  rw [totalValue_toDigits, twelve, ← addTotal] at value
  exact ⟨⟨length.trans twelve, decimal⟩, by omega⟩

/-- An increment below 10^12 wraps a total where the sum reaches 10^12 (R144). -/
theorem wraps_eq {d : Digits} (law : TotalLaw d) {n : Nat} (small : n < 10 ^ 12) : wraps d n = decide (10 ^ 12 ≤ totalValue d + n) := by
  obtain ⟨length, decimal, carry, value⟩ := addDigits_total law n
  obtain ⟨twelve, -⟩ := law
  have low := totalValue_lt decimal
  rw [length, twelve] at low
  rw [totalValue_toDigits, twelve, Nat.mod_eq_of_lt small] at value
  rw [wraps, Bool.eq_iff_iff, beq_iff_eq, decide_eq_true_iff]
  omega

end Sys2Proof.Machine
end

section
/-! SUPPORT. The timed events of one stroke channel: what each expiry and each arrival leaves, the count of feed-capable rams after a jam,
and a stroke unit with nothing due (R94, R98 to R102, R105, R145, R146). -/

namespace Sys2Proof.Machine

section Events

variable {s : State} {ch : StrokeChannel}

/-! ## The expiries -/

/-- The period expiry of a channel whose period has run out (R94, R98). -/
theorem State.expirePeriod_due (dwell : (s.sta.channels.get ch).state = .dwell)
    (full : (s.sta.channels.get ch).period ≤ (s.sta.channels.get ch).counter) :
    s.expirePeriod ch = s.putRecord ch (startStroke s.pst.workingPlant s.sta ch (s.sta.channels.get ch)) :=
  if_pos ((periodDue_iff _).2 ⟨dwell, full⟩)

theorem State.expirePeriod_not_due (early : periodDue (s.sta.channels.get ch) = false) : s.expirePeriod ch = s :=
  if_neg (by simp [early])

theorem State.expireLimit_not_due (early : limitDue (s.sta.channels.get ch) = false) : s.expireLimit ch = s :=
  if_neg (by simp [early])

/-- The stroke limit expiry of a ram whose stroke has lasted Ls (R101). -/
theorem State.expireLimit_ram (stroke : (s.sta.channels.get ch).state = .stroke)
    (full : (s.sta.channels.get ch).limit ≤ (s.sta.channels.get ch).counter) (ram : isRam ch = true) :
    s.expireLimit ch = (s.post .jam .pf).putChannel ch (jamChannel 1 (s.sta.channels.get ch)) := by
  rw [State.expireLimit, if_pos ((limitDue_iff _).2 ⟨stroke, full⟩), if_pos ram, State.jamRam]

/-- The first expiry of a grate channel's stroke (R102). -/
theorem State.expireLimit_retry (stroke : (s.sta.channels.get ch).state = .stroke)
    (full : (s.sta.channels.get ch).limit ≤ (s.sta.channels.get ch).counter) (grate : isRam ch = false)
    (first : (s.sta.channels.get ch).jamCount = 0) :
    s.expireLimit ch = s.putRecord ch (retryStroke (s.sta.channels.get ch)) := by
  rw [State.expireLimit, if_pos ((limitDue_iff _).2 ⟨stroke, full⟩), if_neg (by simp [grate]), State.jamGrate, if_pos first]

/-- A grate channel's jam in a mode in which it runs: the trip (R102). -/
theorem State.expireLimit_trip (stroke : (s.sta.channels.get ch).state = .stroke)
    (full : (s.sta.channels.get ch).limit ≤ (s.sta.channels.get ch).counter) (grate : isRam ch = false)
    (again : (s.sta.channels.get ch).jamCount ≠ 0)
    (runs : s.mode.mode = .firing ∨ s.mode.mode = .hold ∨ s.mode.mode = .burnout) :
    s.expireLimit ch = ((s.putRecord ch (jamChannel 2 (s.sta.channels.get ch))).post .jam .pf).goTripped .grateJam := by
  rw [State.expireLimit, if_pos ((limitDue_iff _).2 ⟨stroke, full⟩), if_neg (by simp [grate]), State.jamGrate, if_neg again]
  rcases runs with mode | mode | mode <;> simp [State.grateJamTrip, State.plantMode, State.putRecord, mode]

/-! ## The rams that are left after a jam (R105) -/

/-- The ram of the other lane. -/
abbrev otherRam (ch : StrokeChannel) : StrokeChannel := if ch = .ramA then .ramB else .ramA

/-- With one ram JAMMED the other alone counts. -/
theorem replaced_jammed_rams {a : StrokeArray} {x : StrokeRecord} (ram : isRam ch = true) (jammed : x.state = .jammed) :
    (a.replaced ch x).rams = (feedCapable (a.channels.get (otherRam ch))).toNat := by
  have none : feedCapable x = false := by simp [feedCapable, jammed]
  cases ch with
  | ramA => simp [countRams, PerStroke.set, PerStroke.get, otherRam, none]
  | ramB => simp [countRams, PerStroke.set, PerStroke.get, otherRam, none]
  | _ => cases ram

theorem rams_ne_zero_of_capable (lock : InterlockLaw s) (ram : isRam ch = true) (capable : feedCapable (s.sta.channels.get ch) = true) :
    s.sta.rams ≠ 0 := by
  obtain ⟨⟨-, -, counted⟩, -⟩ := (interlockLaw_iff s).1 lock
  rw [counted, countRams]
  cases ch with
  | ramA => simp [show feedCapable s.sta.channels.ramA = true from capable]
  | ramB => simp [show feedCapable s.sta.channels.ramB = true from capable]
  | _ => cases ram

theorem isRam_otherRam (ch : StrokeChannel) : isRam (otherRam ch) = true := by
  cases ch <;> rfl

/-! ## The arrivals (R99, R100, R145, R146) -/

theorem State.arriveEos_ignored (rests : (s.sta.channels.get ch).state ≠ .stroke) : s.arriveEos ch = s := if_neg rests

theorem State.arriveEos_grate (stroke : (s.sta.channels.get ch).state = .stroke) (grate : isRam ch = false) :
    s.arriveEos ch = s.putRecord ch (completeStroke (s.sta.channels.get ch)) := by
  rw [State.arriveEos, if_pos stroke, if_neg (by simp [grate])]

theorem State.arriveEos_ram (stroke : (s.sta.channels.get ch).state = .stroke) (ram : isRam ch = true) :
    s.arriveEos ch = (s.putRecord ch (completeStroke (s.sta.channels.get ch))).bookWaste
      (if ch = .ramA then s.sta.massA else s.sta.massB) := by
  have mass : laneMass s.sta ch = if ch = .ramA then s.sta.massA else s.sta.massB := by cases ch <;> rfl
  rw [State.arriveEos, if_pos stroke, if_pos ram, mass]

/-- A mass booked while the totals are set (R145). -/
theorem State.bookWaste_running (kg : Nat) (running : s.fmu.state = .running) :
    s.bookWaste kg = (s.setFmu { s.fmu with waste := { addWaste kg s.fmu.waste with last := some s.additionPlace } }).postIf
      (wraps s.fmu.waste.grand kg) .meterWrap .pd := by
  simp only [State.bookWaste, running]

/-- A mass collected while they are not (R146). -/
theorem State.bookWaste_unset (kg : Nat) (unset : s.fmu.state = .unset) :
    s.bookWaste kg = s.setFmu { s.fmu with
      waste := { s.fmu.waste with waiting := satAdd waitTop kg s.fmu.waste.waiting, last := some s.additionPlace }
      pendingSat := s.fmu.pendingSat || decide (waitTop < s.fmu.waste.waiting + kg) } := by
  simp only [State.bookWaste, unset]

/-! ## A stroke unit (R94) -/

theorem State.expire_not_due (rests : expiryDue (s.sta.channels.get ch) = false) : s.expire ch = s := by
  obtain ⟨period, limit⟩ := Bool.or_eq_false_iff.1 rests
  rw [State.expire, State.expirePeriod_not_due period, State.expireLimit_not_due limit]

/-- With nothing due no expiry is taken. -/
theorem State.expireAll_not_due (rests : ∀ c, expiryDue (s.sta.channels.get c) = false) : s.expireAll = s := by
  have listed : s.sta.channels.toList = StrokeChannel.all.map s.sta.channels.get := rfl
  have none : dueCount s.sta = 0 := by simp [dueCount, listed, rests]
  have each (cs : List StrokeChannel) : cs.foldl State.expire s = s := by
    induction cs with
    | nil => rfl
    | cons c cs ih => rw [List.foldl_cons, State.expire_not_due (rests c), ih]
  rw [State.expireAll, if_pos (by omega), each]

theorem countUnit_channels (a : StrokeArray) : countUnit a = { a with channels := a.channels.map fun _ x =>
    if x.state = .dwell ∨ x.state = .stroke then { x with counter := min 65535 (x.counter + 1) } else x } := by
  simp only [countUnit, satAdd, cycling_iff]

end Events

end Sys2Proof.Machine
end

section
/-! CERTIFICATE. The timed events and the arrivals of a stroke channel, and the stroke unit tick (R94, R98 to R102, R105, R145, R146). -/

namespace Sys2Proof.Machine

section Jams

variable {s : State} {ch : StrokeChannel}

/-- One ram of two jammed: the other feeds on (R101, R105). -/
theorem exec_strokeLimitExpiry_other (stroke : (s.sta.channels.get ch).state = .stroke)
    (full : (s.sta.channels.get ch).limit ≤ (s.sta.channels.get ch).counter) (ram : isRam ch = true) (lock : InterlockLaw s)
    (other : feedCapable (s.sta.channels.get (otherRam ch)) = true) :
    exec (.strokeLimitExpiry ch) s = .next ((s.post .jam .pf).setSta { s.sta with
      channels := s.sta.channels.set ch (jamChannel 1 (s.sta.channels.get ch)), rams := 1 }) := by
  have one : (s.sta.replaced ch (jamChannel 1 (s.sta.channels.get ch))).rams = 1 := by rw [replaced_jammed_rams ram rfl, other]; rfl
  have some := rams_ne_zero_of_capable lock (isRam_otherRam ch) other
  have sta : (s.post .jam .pf).sta = s.sta := by simp
  have same : (s.post .jam .pf).sta.rams = 0 ↔ ((s.post .jam .pf).sta.replaced ch (jamChannel 1 (s.sta.channels.get ch))).rams = 0 := by
    rw [sta, one]
    simpa using some
  refine congrArg Host.Outcome.next ((State.expireLimit_ram stroke full ram).trans ?_)
  rw [putChannel_same same, sta]
  exact congrArg (fun rams => (s.post .jam .pf).setSta
    { s.sta with channels := s.sta.channels.set ch (jamChannel 1 (s.sta.channels.get ch)), rams := rams }) one

/-- The last feed-capable ram jammed in FIRING: the plant is held for want of feed (R24, R101, R105). -/
theorem exec_strokeLimitExpiry_last (stroke : (s.sta.channels.get ch).state = .stroke)
    (full : (s.sta.channels.get ch).limit ≤ (s.sta.channels.get ch).counter) (ram : isRam ch = true)
    (on : (s.sta.channels.get ch).enabled = true) (firing : s.mode.mode = .firing) (lock : InterlockLaw s) (law : GrantLaw s)
    (other : feedCapable (s.sta.channels.get (otherRam ch)) = false) :
    let x := jamChannel 1 (s.sta.channels.get ch)
    ∃ t, exec (.strokeLimitExpiry ch) s = .next t
      ∧ t.mode = { s.mode with mode := .hold, burner := true, timer := 0, causes := onlyNoFeed, rams := 0, trip := none }
      ∧ t.sta.channels.get ch = x ∧ t.sta.rams = 0
      ∧ FeedEnds (s.setSta { s.sta with channels := s.sta.channels.set ch x }) t
      ∧ FeedStopped t ∧ t.holds .pf .jam = true ∧ (∀ q, t.holds q .mode = true)
      ∧ t.eau = { s.eau with staleInFiring := false } ∧ t.clock = s.clock ∧ t.slg = s.slg ∧ t.fmu = s.fmu ∧ t.pst = s.pst := by
  intro x
  have capable : feedCapable (s.sta.channels.get ch) = true := by simp [feedCapable, on, stroke]
  have some : (s.post .jam .pf).sta.rams ≠ 0 := by simpa using rams_ne_zero_of_capable lock ram capable
  have sta : (s.post .jam .pf).sta = s.sta := by simp
  have none : ((s.post .jam .pf).sta.replaced ch x).rams = 0 := by
    rw [sta, replaced_jammed_rams ram rfl, other]
    rfl
  have held : GrantHeld (s.post .jam .pf) := by simpa [GrantHeld] using law.grantHeld
  obtain ⟨mode, stopped, ends, rams, notices, eau, clock, slg, fmu, pst⟩ := putChannel_held some none (by simpa using firing) held
  have told : ((s.post .jam .pf).putChannel ch x).holds .pf .jam = true :=
    ((PortsGrow.refl _).putChannel ch x).holds (State.holds_post _ _ _)
  have ended : FeedEnds (s.setSta { s.sta with channels := s.sta.channels.set ch x }) ((s.post .jam .pf).putChannel ch x) := by
    simpa [FeedEnds] using ends
  have jammed : ((s.post .jam .pf).putChannel ch x).sta.channels.get ch = x := by
    obtain ⟨-, gates, -⟩ := ended
    have gate := gates ch (StrokeChannel.mem_rams ram)
    rw [State.setSta_sta, PerStroke.get_set_same] at gate
    exact gate.eq_of_still (.inr rfl)
  exact ⟨_, congrArg Host.Outcome.next (State.expireLimit_ram stroke full ram), by simpa using mode, jammed, rams, ended, stopped, told,
    notices, by simpa using eau, by simp, by simpa using slg, by simp, by simpa using pst⟩

/-- A grate channel jammed in a mode in which it runs: the plant trips and every channel stops (R96, R102). -/
theorem exec_strokeLimitExpiry_trip (stroke : (s.sta.channels.get ch).state = .stroke)
    (full : (s.sta.channels.get ch).limit ≤ (s.sta.channels.get ch).counter) (grate : isRam ch = false)
    (again : (s.sta.channels.get ch).jamCount ≠ 0) (runs : s.mode.mode = .firing ∨ s.mode.mode = .hold ∨ s.mode.mode = .burnout)
    (law : GrantLaw s) :
    let x := jamChannel 2 (s.sta.channels.get ch)
    ∃ t, exec (.strokeLimitExpiry ch) s = .next t
      ∧ t.mode = { s.mode with
          mode := .tripped, burner := false, timer := 0, causes := .none, feedArmed := false
          trip := some { cause := .grateJam, day := s.clock.latched.time.day
                         secondOfDay := secondOfDay s.clock.latched.time, count := 0 } }
      ∧ t.sta.channels.get ch = x
      ∧ StrokesStop (s.setSta { s.sta with channels := s.sta.channels.set ch x }) t
      ∧ (∀ c, (t.sta.channels.get c).state = .off ∨ (t.sta.channels.get c).state = .jammed)
      ∧ FeedStopped t ∧ t.holds .pf .jam = true ∧ (∀ q, t.holds q .mode = true)
      ∧ t.eau = { s.eau with staleInFiring := s.eau.staleInFiring && s.mode.mode != .firing }
      ∧ t.clock = s.clock ∧ t.fmu = s.fmu ∧ HeldCopyReleased s t := by
  intro x
  let u := (s.putRecord ch x).post .jam .pf
  let m : ModeCtl := { enterMode .tripped s.mode with trip := some (newTrip .grateJam s.clock.latched.time) }
  have tripped : u.goTripped .grateJam = u.changeMode m := by simp [State.goTripped, u, m, State.putRecord]
  have held : GrantHeld u := by simpa [GrantHeld, u, State.putRecord] using law.grantHeld
  have stops : StrokesStop (s.setSta { s.sta with channels := s.sta.channels.set ch x }) (u.changeMode m) := by
    simpa [StrokesStop, u, State.putRecord] using changeMode_strokesStop (m := m) (s := u) (.inr rfl) held
  have jammed : (u.changeMode m).sta.channels.get ch = x := by
    have gate := stops.2 ch (StrokeChannel.mem_all ch)
    rw [State.setSta_sta, PerStroke.get_set_same] at gate
    exact gate.eq_of_still (.inr rfl)
  have told : (u.changeMode m).holds .pf .jam = true := ((PortsGrow.refl u).changeMode m).holds (State.holds_post _ _ _)
  have released : HeldCopyReleased s (u.changeMode m) := by
    simpa [HeldCopyReleased, PlantReachesLedger, ReallocatedFrom, u, State.putRecord] using
      changeMode_heldCopyReleased (m := m) (s := u) (.inr rfl)
  refine ⟨_, congrArg Host.Outcome.next ((State.expireLimit_trip stroke full grate again runs).trans tripped), ?_, jammed, stops,
    fun c => (stops.2 c (StrokeChannel.mem_all c)).stopped, changeMode_feedStopped nofun held, told, State.changeMode_holds_mode _ _,
    ?_, ?_, ?_, released⟩
  · simp [m, enterMode_idle (new := .tripped) nofun nofun, burnerFor, newTrip]
  · simpa [u, State.putRecord] using State.changeMode_eau_of_left (m := m) (s := u) nofun
  · simp [u, State.putRecord]
  · simp [u, State.putRecord]

end Jams

/-- A ram's mass booked into a WASTE total that stands (R144, R145). -/
theorem bookWaste_booked {s : State} {kg : Nat} (running : s.fmu.state = .running) (law : TotalLaw s.fmu.waste.grand)
    (small : kg < 10 ^ 12) :
    (s.bookWaste kg).fmu = { s.fmu with waste := { s.fmu.waste with
        grand := (s.bookWaste kg).fmu.waste.grand, last := some ⟨s.band, s.clock.latched.period⟩
        wrapped := s.fmu.waste.wrapped || decide (10 ^ 12 ≤ totalValue s.fmu.waste.grand + kg) } }
      ∧ TotalLaw (s.bookWaste kg).fmu.waste.grand
      ∧ totalValue (s.bookWaste kg).fmu.waste.grand = (totalValue s.fmu.waste.grand + kg) % 10 ^ 12
      ∧ (10 ^ 12 ≤ totalValue s.fmu.waste.grand + kg → (s.bookWaste kg).holds .pd .meterWrap = true) := by
  obtain ⟨kept, value⟩ := addTotal_law law kg
  have booked : (s.bookWaste kg).fmu.waste.grand = addTotal s.fmu.waste.grand kg := by simp [State.bookWaste_running kg running, addWaste]
  refine ⟨?_, by rwa [booked], by rwa [booked], fun wrapsRound => ?_⟩
  · rw [booked, ← wraps_eq law small]
    simp [State.bookWaste_running kg running, addWaste, State.additionPlace]
  · rw [State.bookWaste_running kg running, wraps_eq law small, decide_eq_true wrapsRound]
    exact State.holds_post _ _ _

/-- Settles O45: each event by the state of its channel, and by the ram left where it is a jam. -/
theorem strokeEvents : Obligations.StrokeEvents := by
  unfold Obligations.StrokeEvents
  intro ch s r put wait mass done
  refine ⟨fun dwell full waits => ?_, fun pl dwell full runs plant => ?_, fun early => ?_, fun early => ?_,
    fun stroke full ram lock other => exec_strokeLimitExpiry_other stroke full ram lock other,
    fun stroke full ram on firing lock law other => exec_strokeLimitExpiry_last stroke full ram on firing lock law other,
    fun stroke full grate first => congrArg Host.Outcome.next (State.expireLimit_retry stroke full grate first),
    fun stroke full grate again runs law => exec_strokeLimitExpiry_trip stroke full grate again runs law,
    fun rests => congrArg Host.Outcome.next (State.arriveEos_ignored rests),
    fun stroke grate => congrArg Host.Outcome.next (State.arriveEos_grate stroke grate),
    fun stroke ram unset => ?_, fun stroke ram running law light => ?_, fun rests => ?_⟩
  · refine congrArg Host.Outcome.next ((State.expirePeriod_due dwell full).trans ?_)
    rw [startStroke, if_pos ((mustWait_iff _ _ _).2 waits)]
    rfl
  · refine congrArg Host.Outcome.next ((State.expirePeriod_due dwell full).trans ?_)
    rw [startStroke, if_neg fun waits => runs ((mustWait_iff _ _ _).1 waits), plant]
    rfl
  · have early' : periodDue r = false := by
      rw [Bool.eq_false_iff, ne_eq, periodDue_iff]
      exact fun ⟨dwell, full⟩ => early.elim (· dwell) fun short => absurd full (by omega)
    exact congrArg Host.Outcome.next (State.expirePeriod_not_due early')
  · have early' : limitDue r = false := by
      rw [Bool.eq_false_iff, ne_eq, limitDue_iff]
      exact fun ⟨stroke, full⟩ => early.elim (· stroke) fun short => absurd full (by omega)
    exact congrArg Host.Outcome.next (State.expireLimit_not_due early')
  · exact congrArg Host.Outcome.next ((State.arriveEos_ram stroke ram).trans (State.bookWaste_unset (s := put done) mass unset))
  · have booked := bookWaste_booked (s := put done) (kg := mass) running law (by omega)
    obtain ⟨fmu, total, value, wrap⟩ := booked
    exact ⟨_, congrArg Host.Outcome.next (State.arriveEos_ram stroke ram), fmu, total, value, wrap, by simp [put, State.putRecord, r, done, completeStroke]⟩
  · refine congrArg Host.Outcome.next ?_
    rw [State.strokeUnit, State.expireAll_not_due rests, countUnit_channels]

end Sys2Proof.Machine
end

section
/-! SUPPORT. The order queue under its law (R121, R122, R124, R125, R127): the law in the parts that a clock enters and those that none does, and the
queue that the activation check and the wrap of the day count leave. -/

namespace Sys2Proof.Machine

/-! ## The law in parts -/

/-- The part of the queue's law that no clock enters (R121, R122). -/
abbrev QueueFormed (queue : List QueuedOrder) : Prop :=
  queue.length ≤ 16 ∧ KeysAscend queue ∧ ∀ q ∈ queue, QueuedLaw q

/-- Before the last day no key lies past the wrap (R121, R127). -/
abbrev BelowWrap (day : Nat) (queue : List QueuedOrder) : Prop := day < 65535 → ∀ q ∈ queue, q.key < keyWrap

/-- What the queue's law says of a time of a running clock (R122). -/
abbrev QueueAhead (t : ClockTime) (queue : List QueuedOrder) : Prop := (∀ q ∈ queue, minuteKeyOf t < q.key) ∧ BelowWrap t.day queue

/-- Ahead of a time, a key past the wrap stands beside keys of the last day alone. -/
theorem QueueAhead.beside {t : ClockTime} {queue : List QueuedOrder} (ahead : QueueAhead t queue) :
    ∀ q ∈ queue, keyWrap ≤ q.key → ∀ r ∈ queue, 65535 * 1440 ≤ r.key := by
  obtain ⟨later, below⟩ := ahead
  intro q hq past r hr
  have lastDay : 65535 ≤ t.day := Nat.le_of_not_lt fun before => Nat.not_lt.2 past (below before q hq)
  have after := later r hr
  simp only [minuteKeyOf] at after
  omega

/-- A clock under its law shows its own minute and day in the latched copy (R5). -/
theorem ClockLaw.latched_time {c : Clock} (law : ClockLaw c) :
    c.latched.minuteKey = minuteKeyOf c.time ∧ c.latched.time = c.time := by
  obtain ⟨-, -, -, -, -, -, -, -, -, latched⟩ := law
  rw [latched]
  exact ⟨rfl, rfl⟩

theorem QueueLaw.formed {s : State} (law : QueueLaw s) : QueueFormed s.slg.queue := by
  obtain ⟨length, ascends, queued, -⟩ := law
  exact ⟨length, ascends, queued⟩

theorem QueueLaw.ahead {s : State} (law : QueueLaw s) (clock : ClockLaw s.clock) (running : s.clock.run = .running) :
    QueueAhead s.clock.time s.slg.queue := by
  obtain ⟨-, -, -, later, below, -⟩ := law
  obtain ⟨key, time⟩ := clock.latched_time
  exact ⟨fun q hq => key ▸ later running q hq, fun before => below running (time ▸ before)⟩

/-- A well-formed queue ahead of the clock meets the law. -/
theorem QueueLaw.of_ahead {s : State} (clock : ClockLaw s.clock) (formed : QueueFormed s.slg.queue)
    (ahead : QueueAhead s.clock.time s.slg.queue) : QueueLaw s := by
  obtain ⟨length, ascends, queued⟩ := formed
  obtain ⟨key, time⟩ := clock.latched_time
  refine ⟨length, ascends, queued, fun _ => ?_, fun _ => ?_, ahead.beside⟩
  · rw [key]
    exact ahead.1
  · rw [time]
    exact ahead.2

/-- The law under a clock that shows the same, or that has stopped. -/
theorem QueueLaw.of_queue {s t : State} (law : QueueLaw s) (queue : t.slg.queue = s.slg.queue)
    (clock : t.clock.run = .running → s.clock.run = .running ∧ t.clock.latched = s.clock.latched) : QueueLaw t := by
  obtain ⟨length, ascends, queued, later, below, beside⟩ := law
  rw [QueueLaw, queue]
  refine ⟨length, ascends, queued, fun running => ?_, fun running => ?_, beside⟩
  · obtain ⟨ran, same⟩ := clock running
    exact same ▸ later ran
  · obtain ⟨ran, same⟩ := clock running
    exact same ▸ below ran

theorem QueueLaw.of_empty {s : State} (none : s.slg.queue = []) : QueueLaw s := by
  rw [QueueLaw, none]
  simp

/-! ## Parts of a queue -/

theorem QueueFormed.filter {queue : List QueuedOrder} (formed : QueueFormed queue) (keep : QueuedOrder → Bool) :
    QueueFormed (queue.filter keep) := by
  obtain ⟨length, ascends, queued⟩ := formed
  exact ⟨(List.length_filter_le _ _).trans length, ascends.filter _, fun q hq => queued q (List.mem_of_mem_filter hq)⟩

theorem QueueAhead.filter {t : ClockTime} {queue : List QueuedOrder} (ahead : QueueAhead t queue) (keep : QueuedOrder → Bool) :
    QueueAhead t (queue.filter keep) :=
  ⟨fun q hq => ahead.1 q (List.mem_of_mem_filter hq), fun before q hq => ahead.2 before q (List.mem_of_mem_filter hq)⟩

/-- Orders taken out leave the law (R123). -/
theorem QueueLaw.filter {s : State} (law : QueueLaw s) (keep : QueuedOrder → Bool) :
    QueueLaw (s.setSlg { s.slg with queue := s.slg.queue.filter keep }) := by
  obtain ⟨length, ascends, queued⟩ := law.formed.filter keep
  obtain ⟨-, -, -, later, below, beside⟩ := law
  have held {q : QueuedOrder} (hq : q ∈ s.slg.queue.filter keep) : q ∈ s.slg.queue := List.mem_of_mem_filter hq
  exact ⟨length, ascends, queued, fun running q hq => later running q (held hq), fun running day q hq => below running day q (held hq),
    fun q hq past r hr => beside q (held hq) past r (held hr)⟩

/-- The orders of a queue up to a key and those past it are all of it. -/
theorem length_filter_le_add_lt (now : Nat) (queue : List QueuedOrder) :
    (queue.filter fun q => q.key ≤ now).length + (queue.filter fun q => now < q.key).length = queue.length := by
  have split := List.length_eq_length_filter_add (l := queue) fun q => decide (q.key ≤ now)
  have rest : (queue.filter fun q => !decide (q.key ≤ now)) = queue.filter fun q => now < q.key :=
    List.filter_congr fun q _ => by rw [← decide_not, decide_eq_decide, Nat.not_le]
  rw [split, rest]

theorem length_enqueue (q : QueuedOrder) (queue : List QueuedOrder) : (enqueue q queue).length = queue.length + 1 := by
  induction queue with
  | nil => rfl
  | cons x xs ih =>
    unfold enqueue
    split
    · rfl
    · simp [ih]

/-- An order placed under a free key, in a queue with room, keeps the queue well formed (R122). -/
theorem QueueFormed.enqueue {q : QueuedOrder} {queue : List QueuedOrder} (formed : QueueFormed queue) (room : queue.length < 16)
    (law : QueuedLaw q) (free : ∀ x ∈ queue, x.key ≠ q.key) : QueueFormed (enqueue q queue) := by
  obtain ⟨-, ascends, queued⟩ := formed
  refine ⟨by rw [length_enqueue]; exact room, enqueue_ascends ascends free, fun x hx => ?_⟩
  rcases mem_enqueue.1 hx with rfl | held
  · exact law
  · exact queued x held

theorem QueueAhead.enqueue {t : ClockTime} {q : QueuedOrder} {queue : List QueuedOrder} (ahead : QueueAhead t queue)
    (later : minuteKeyOf t < q.key) (below : t.day < 65535 → q.key < keyWrap) : QueueAhead t (enqueue q queue) := by
  refine ⟨fun x hx => ?_, fun before x hx => ?_⟩
  · rcases mem_enqueue.1 hx with rfl | held
    · exact later
    · exact ahead.1 x held
  · rcases mem_enqueue.1 hx with rfl | held
    · exact below before
    · exact ahead.2 before x held

/-! ## The next occurrence (R121) -/

/-- The next occurrence of a time of day lies past the current minute, on this day or the next. -/
theorem nextKey_bounds {t : ClockTime} {o : Order} (range : TimeInRange t) (hour : o.hour ≤ 23) (minute : o.minute ≤ 59) :
    minuteKeyOf t < nextKey (minuteKeyOf t) o ∧ nextKey (minuteKeyOf t) o < (t.day + 2) * 1440 := by
  obtain ⟨-, clockHour, clockMinute, -⟩ := range
  have day : minuteKeyOf t / 1440 = t.day := by
    simp only [minuteKeyOf]
    omega
  simp only [nextKey, day]
  by_cases later : minuteKeyOf t < t.day * 1440 + o.hour * 60 + o.minute
  · rw [if_pos later]
    omega
  · rw [if_neg later]
    simp only [minuteKeyOf]
    omega

/-- A daily order under its next key has a queued order's law (R120, R121). -/
theorem queuedLaw_nextKey {t : ClockTime} {o : Order} (range : TimeInRange t) (hour : o.hour ≤ 23) (minute : o.minute ≤ 59)
    (daily : o.day = none) : QueuedLaw ⟨nextKey (minuteKeyOf t) o, o⟩ := by
  obtain ⟨-, upper⟩ := nextKey_bounds range hour minute
  obtain ⟨lastDay, -⟩ := range
  refine ⟨hour, minute, ?_, by simp [daily]⟩
  simp only [keyWrap]
  omega

/-- Before the last day the next occurrence lies below the wrap. -/
theorem nextKey_below {t : ClockTime} {o : Order} (range : TimeInRange t) (hour : o.hour ≤ 23) (minute : o.minute ≤ 59)
    (before : t.day < 65535) : nextKey (minuteKeyOf t) o < keyWrap := by
  obtain ⟨-, upper⟩ := nextKey_bounds range hour minute
  simp only [keyWrap]
  omega

/-! ## The queue after the activation check (R124, R125) -/

/-- The queue that the activation check leaves: the orders for later minutes, the daily ones due put back. -/
def activatedQueue (now : Nat) (queue : List QueuedOrder) : List QueuedOrder :=
  (requeue now (queue.filter fun q => q.key ≤ now) (queue.filter fun q => now < q.key)).1

/-- With no order due the check leaves the queue. -/
theorem activatedQueue_of_none {now : Nat} {queue : List QueuedOrder} (none : queue.filter (fun q => q.key ≤ now) = []) :
    activatedQueue now queue = queue := by
  have all : queue.filter (fun q => now < q.key) = queue :=
    List.filter_eq_self.2 fun q hq => by simpa using List.filter_eq_nil_iff.1 none q hq
  rw [activatedQueue, none, all]
  rfl

theorem State.runActivation_queue (now : Nat) (s : State) : (s.runActivation now).slg.queue = activatedQueue now s.slg.queue := by
  rcases due : (s.slg.queue.filter (·.key ≤ now)).getLast? with _ | last
  · have none := List.getLast?_eq_none_iff.1 due
    rw [State.runActivation_none none, activatedQueue_of_none none]
  · rw [State.runActivation_some due, State.activateOrder_queue, State.requeued_slg]
    rfl

theorem length_requeue_le (now : Nat) (due queue : List QueuedOrder) : (requeue now due queue).1.length ≤ due.length + queue.length := by
  induction due generalizing queue with
  | nil => simp [requeue]
  | cons d ds ih =>
    unfold requeue
    split
    · exact (ih _).trans (by simp)
    · dsimp only
      split
      · exact (ih _).trans (by simp)
      · refine (ih _).trans ?_
        simp only [length_enqueue, List.length_cons]
        omega

/-- The activation check at a time keeps the queue well formed and leaves it ahead of that time (R122, R124, R125). -/
theorem activatedQueue_law {t : ClockTime} {queue : List QueuedOrder} (range : TimeInRange t) (formed : QueueFormed queue)
    (below : BelowWrap t.day queue) :
    QueueFormed (activatedQueue (minuteKeyOf t) queue) ∧ QueueAhead t (activatedQueue (minuteKeyOf t) queue) := by
  obtain ⟨length, ascends, queued⟩ := formed
  have origin {q : QueuedOrder} (hq : q ∈ activatedQueue (minuteKeyOf t) queue) :
      (q ∈ queue ∧ minuteKeyOf t < q.key)
        ∨ ∃ o : Order, o.hour ≤ 23 ∧ o.minute ≤ 59 ∧ o.day = none ∧ q = ⟨nextKey (minuteKeyOf t) o, o⟩ := by
    rcases mem_requeue hq with later | ⟨d, hd, daily, same⟩
    · exact .inl (by simpa using later)
    · obtain ⟨hour, minute, -⟩ := queued d (List.mem_of_mem_filter hd)
      exact .inr ⟨d.order, hour, minute, daily, same⟩
  refine ⟨⟨?_, requeue_ascends _ _ (ascends.filter _), fun q hq => ?_⟩, fun q hq => ?_, fun before q hq => ?_⟩
  · exact (length_requeue_le _ _ _).trans ((length_filter_le_add_lt _ _).le.trans length)
  · rcases origin hq with ⟨held, -⟩ | ⟨o, hour, minute, daily, rfl⟩
    · exact queued q held
    · exact queuedLaw_nextKey range hour minute daily
  · rcases origin hq with ⟨-, later⟩ | ⟨o, hour, minute, -, rfl⟩
    · exact later
    · exact (nextKey_bounds range hour minute).1
  · rcases origin hq with ⟨held, -⟩ | ⟨o, hour, minute, -, rfl⟩
    · exact below before q held
    · exact nextKey_below range hour minute before

/-! ## The wrap of the day count (R127) -/

/-- The queue with the keys past the wrap brought back is well formed, with no key past the wrap. -/
theorem rekey_law {s : State} (law : QueueLaw s) : QueueFormed (rekey s.slg.queue) ∧ ∀ q ∈ rekey s.slg.queue, q.key < keyWrap := by
  obtain ⟨length, -, queued⟩ := law.formed
  have origin {q : QueuedOrder} (hq : q ∈ broughtBack s.slg.queue) :
      (∃ r ∈ s.slg.queue, keyWrap ≤ r.key ∧ q = { r with key := r.key - keyWrap }) ∨ (q ∈ s.slg.queue ∧ q.key < keyWrap) := by
    rcases List.mem_append.1 hq with back | stays
    · obtain ⟨r, hr, rfl⟩ := List.mem_map.1 back
      obtain ⟨held, past⟩ := List.mem_filter.1 hr
      exact .inl ⟨r, held, of_decide_eq_true past, rfl⟩
    · exact .inr (by simpa [keyWrap] using stays)
  rw [rekey_eq_broughtBack law.wrapLaw]
  refine ⟨⟨?_, broughtBack_ascends law.wrapLaw, fun q hq => ?_⟩, fun q hq => ?_⟩
  · have whole := length_filter_le_add_lt 94371839 s.slg.queue
    have past : (s.slg.queue.filter fun q => 94371839 < q.key) = s.slg.queue.filter fun q => 94371840 ≤ q.key := rfl
    have under : (s.slg.queue.filter fun q => q.key ≤ 94371839) = s.slg.queue.filter fun q => q.key < 94371840 :=
      List.filter_congr fun q _ => by simp [Nat.lt_succ_iff]
    rw [past, under] at whole
    simp only [broughtBack, List.length_append, List.length_map]
    omega
  · rcases origin hq with ⟨r, held, past, rfl⟩ | ⟨held, -⟩
    · obtain ⟨hour, minute, key, oneShot⟩ := queued r held
      refine ⟨hour, minute, by dsimp only; omega, fun d hd => ?_⟩
      obtain ⟨lastDay, own⟩ := oneShot d hd
      simp only [keyWrap] at past
      omega
    · exact queued q held
  · rcases origin hq with ⟨r, held, past, rfl⟩ | ⟨-, under⟩
    · obtain ⟨-, -, key, -⟩ := queued r held
      simp only [keyWrap] at key past ⊢
      omega
    · exact under

end Sys2Proof.Machine
end

section
/-! SUPPORT. The activation among the parts of a second event: no other part reaches the ledger, so in every order drawn the minute event is the
activation check, with the ledger's own second before or after it (R117, R124, R127, R129). -/

namespace Sys2Proof.Machine

/-! ## The request and ORDER_DROPPED under the other parts (R75, R125) -/

@[simp] theorem State.holds_setMode (x : ModeCtl) (p : Port) (n : Notice) (s : State) : (s.setMode x).holds p n = s.holds p n := rfl
@[simp] theorem State.holds_setPst (x : PermitStore) (p : Port) (n : Notice) (s : State) : (s.setPst x).holds p n = s.holds p n := rfl

/-- Neither a target nor a cap formed again is another request (R75). -/
@[simp] theorem retargeted_request (mode : Mode) (e : Envelope) : (retargeted mode e).request = e.request := rfl

@[simp] theorem recomputed_request (lim : Option Limits) (em : Emission) (e : Envelope) : (recomputed lim em e).request = e.request := rfl

/-- The request at the envelope and ORDER_DROPPED, which are the ledger's to write, stay. -/
abbrev RequestLeft (s t : State) : Prop :=
  t.feu.request = s.feu.request ∧ t.holds .pd .orderDropped = s.holds .pd .orderDropped

section Left

variable (s : State)

theorem emissionSecond_requestLeft (halfHour dayBoundary : Bool) : RequestLeft s (s.emissionSecond halfHour dayBoundary) := by
  have aged : RequestLeft s s.emissionAge := by
    dsimp only [State.emissionAge]
    split <;> simp [RequestLeft, State.beginStale]
  have closed (u : State) : RequestLeft u (u.closeHalfHour dayBoundary) := by
    rcases isOpen : u.eau.period with _ | p
    · simp [RequestLeft, State.closeHalfHour, isOpen, State.openPeriod]
    · rw [State.closeHalfHour_eq isOpen]
      cases dayBoundary <;> simp [RequestLeft, State.periodRecorded, State.openPeriod, State.postClose, State.closeDay, State.recordPeriod]
  unfold State.emissionSecond
  split
  · exact ⟨(closed _).1.trans aged.1, (closed _).2.trans aged.2⟩
  · exact aged

theorem envelopeSecond_requestLeft : RequestLeft s s.envelopeSecond := by simp [RequestLeft, State.envelopeSecond]

theorem installPending_requestLeft : RequestLeft s s.installPending := by
  have taken (u : State) : RequestLeft u u.installLimits := by
    unfold State.installLimits
    split <;> simp [RequestLeft]
  dsimp only [State.installPending]
  (repeat' split) <;> simp [RequestLeft, taken]

/-- A change of mode that puts no PLANT copy in force. -/
theorem changeMode_requestLeft {m : ModeCtl} (burnout : m.mode ≠ .burnout) (tripped : m.mode ≠ .tripped) :
    RequestLeft s (s.changeMode m) := by
  have held : (s.entering m).releaseHeldPlant = s.entering m := State.releaseHeldPlant_kept (by simp [burnout, tripped])
  have unit (old : Mode) (u : State) : (u.emissionMode old).holds .pd .orderDropped = u.holds .pd .orderDropped := by
    unfold State.emissionMode
    (repeat' split) <;> simp [State.endStale, State.beginStale]
  rw [RequestLeft, State.changeMode_eq, State.modeDelivered, held]
  simp [unit, State.postAll]

theorem modeSecond_requestLeft (lim : Option Limits) : RequestLeft s (s.modeSecond lim) := by
  have fires (m : ModeCtl) : RequestLeft s ((s.setMode m).entryCheckWith lim) := by
    unfold State.entryCheckWith
    split
    · exact changeMode_requestLeft (s.setMode m) (m := enterMode .firing m) nofun nofun
    · exact ⟨rfl, rfl⟩
  have holds (m : ModeCtl) : RequestLeft s ((s.setMode m).goHold onlyTempStale) :=
    changeMode_requestLeft (s.setMode m) (m := { enterMode .hold m with causes := onlyTempStale }) nofun nofun
  dsimp only [State.modeSecond]
  split
  · split
    · exact holds _
    · exact ⟨rfl, rfl⟩
  · exact fires _
  · exact fires _
  · exact ⟨rfl, rfl⟩

/-- The ledger's own second forms no request and drops no order (R129). -/
theorem ledgerSecond_requestLeft : RequestLeft s s.ledgerSecond := by
  refine ⟨by simp, ?_⟩
  unfold State.ledgerSecond
  dsimp only [State.rampSetpoints]
  split <;> simp [State.steamSecond]

end Left

/-! ## The parts that reach the ledger by nothing -/

/-- What a part of a second event other than the activation leaves of what the ledger holds and reads. -/
structure LedgerUntouched (s t : State) : Prop where
  clock   : t.clock = s.clock
  slg     : t.slg = s.slg
  plant   : t.pst.workingPlant = s.pst.workingPlant
  request : t.feu.request = s.feu.request
  dropped : t.holds .pd .orderDropped = s.holds .pd .orderDropped
  grow    : PortsGrow s t

theorem LedgerUntouched.refl (s : State) : LedgerUntouched s s := ⟨rfl, rfl, rfl, rfl, rfl, .refl s⟩

theorem LedgerUntouched.trans {s t u : State} (h : LedgerUntouched s t) (k : LedgerUntouched t u) : LedgerUntouched s u :=
  ⟨k.clock.trans h.clock, k.slg.trans h.slg, k.plant.trans h.plant, k.request.trans h.request, k.dropped.trans h.dropped,
    h.grow.trans k.grow⟩

theorem subEvent_untouched {k : EventKind} {old : Bool} {e : SubEvent} (other : e ≠ .activation) (s : State) :
    LedgerUntouched s (s.subEvent k old e) := by
  have kept := s.subEvent_kept k old e
  have part : (s.subEvent k old e).slg = s.slg ∧ RequestLeft s (s.subEvent k old e) := by
    cases e with
    | emission => exact ⟨by simp [State.subEvent], emissionSecond_requestLeft s _ _⟩
    | envelope => exact ⟨by simp [State.subEvent], envelopeSecond_requestLeft s⟩
    | install =>
      dsimp only [State.subEvent]
      split
      · exact ⟨by simp, installPending_requestLeft s⟩
      · exact ⟨rfl, rfl, rfl⟩
    | activation => exact absurd rfl other
    | mode => exact ⟨by simp [State.subEvent, State.modeSecond_kept], modeSecond_requestLeft s _⟩
  obtain ⟨slg, request, dropped⟩ := part
  exact ⟨by simp, slg, by rw [kept.store], request, dropped, (PortsGrow.refl s).subEvent k old e⟩

theorem subEvents_untouched {k : EventKind} {old : Bool} {order : List SubEvent} (others : .activation ∉ order) (s : State) :
    LedgerUntouched s (s.subEvents k old order) := by
  induction order generalizing s with
  | nil => exact .refl s
  | cons e es ih =>
    obtain ⟨other, rest⟩ := not_or.1 (mt List.mem_cons.2 others)
    exact (subEvent_untouched (Ne.symm other) s).trans (ih rest _)

/-- In every order drawn the activation has its place once. -/
theorem eventOrder_activation (free : Nat) :
    ∃ first rest, (eventOrder free).order = first ++ .activation :: rest ∧ .activation ∉ first ∧ .activation ∉ rest := by
  have bases : ∀ base < 7, .activation ∉ orderBases.getD base [] := by decide
  have none := bases (free % 7) (Nat.mod_lt _ (by decide))
  exact ⟨_, _, rfl, fun mem => none (List.mem_of_mem_take mem), fun mem => none (List.mem_of_mem_drop mem)⟩

/-- The parts of a minute event: the activation check on a ledger that the parts before it leave, and that those after it leave. -/
theorem subEvents_minute {k : EventKind} (minute : isMinute k.time = true) (old : Bool) (free : Nat) (s : State) :
    ∃ u, LedgerUntouched s u ∧ LedgerUntouched (u.ledgerMinute k.wrapped) (s.subEvents k old (eventOrder free).order) := by
  obtain ⟨first, rest, split, before, after⟩ := eventOrder_activation free
  have parts : s.subEvents k old (eventOrder free).order = ((s.subEvents k old first).ledgerMinute k.wrapped).subEvents k old rest := by
    rw [split]
    refine List.foldl_append.trans ?_
    simp [State.subEvents, State.subEvent, minute]
  exact ⟨_, subEvents_untouched before s, parts ▸ subEvents_untouched after _⟩

/-! ## The allocation over the parts of an event (R130 to R132) -/

/-- What follows a recomputation of the allocation and leaves all that it is formed from leaves it. -/
theorem ReallocatedFrom.later {s v t : State} (h : ReallocatedFrom s v)
    (slg : t.slg = { v.slg with age := t.slg.age, stale := t.slg.stale }) (plant : t.pst.workingPlant = v.pst.workingPlant)
    (grow : PortsGrow v t) : ReallocatedFrom s t := by
  obtain ⟨served, spill, short, spills⟩ := h
  rw [ReallocatedFrom, slg, plant]
  exact ⟨served, spill, fun rises zero => grow.holds (short rises zero), fun rises clear =>
    (spills rises clear).imp grow.holds grow.holds⟩

/-- A recomputation after another, or after an event that left the shortfall and the flag. -/
theorem ReallocatedFrom.after {s v t : State}
    (first : (v.slg.shortfall = s.slg.shortfall ∧ v.slg.dumpOver = s.slg.dumpOver) ∨ ReallocatedFrom s v)
    (h : ReallocatedFrom v t) (grow : PortsGrow v t) : ReallocatedFrom s t := by
  obtain ⟨served, spill, short, spills⟩ := h
  refine ⟨served, spill, fun rises zero => ?_, fun rises clear => ?_⟩
  · rcases first with ⟨same, -⟩ | ⟨-, -, before, -⟩
    · exact short rises (same.trans zero)
    · by_cases arisen : v.slg.shortfall = 0
      · exact short rises arisen
      · exact grow.holds (before (Nat.pos_of_ne_zero arisen) zero)
  · rcases first with ⟨-, same⟩ | ⟨-, -, -, before⟩
    · exact spills rises (same.trans clear)
    · cases arisen : v.slg.dumpOver with
      | false => exact spills rises arisen
      | true => exact (before arisen clear).imp grow.holds grow.holds

/-! ## The check at a minute event (R124, R125, R127) -/

/-- The day count wraps at the next second. -/
abbrev dayWraps (t : ClockTime) : Bool := decide (t.day = 65535) && (advance t).day == 0

/-- The queue as a minute event of a machine finds it: brought back where the day count wraps (R127). -/
def minuteQueue (s : State) : List QueuedOrder := if dayWraps s.clock.time then rekey s.slg.queue else s.slg.queue

/-- The ledger at a minute event: the keys past the wrap brought back where the day count wrapped, and the check. -/
theorem State.ledgerMinute_eq (wrapped : Bool) (s : State) :
    s.ledgerMinute wrapped =
      (s.setSlg { s.slg with queue := if wrapped then rekey s.slg.queue else s.slg.queue }).runActivation s.clock.latched.minuteKey := by
  cases wrapped <;> rfl

/-- The activation check of a queue that waits, from the state that the parts before it find to the one that those after it leave. -/
def MinuteChecked (now : Nat) (waiting : List QueuedOrder) (v w : State) : Prop :=
  ∃ u, u.slg = { v.slg with queue := waiting } ∧ u.pst.workingPlant = v.pst.workingPlant
    ∧ u.holds .pd .orderDropped = v.holds .pd .orderDropped ∧ PortsGrow v u ∧ LedgerUntouched (u.runActivation now) w

/-- A second event at a minute: the ledger's own second before the check, or after it (R129). -/
theorem State.secondEvent_minute (s : State) (minute : isMinute (advance s.clock.time) = true) :
    MinuteChecked (minuteKeyOf (advance s.clock.time)) (minuteQueue s) s.secondTicked.ledgerSecond s.secondEvent
      ∨ ∃ w, MinuteChecked (minuteKeyOf (advance s.clock.time)) (minuteQueue s) s.secondTicked w ∧ s.secondEvent = w.ledgerSecond := by
  obtain ⟨k, free, time, wrapped, second⟩ := s.secondEvent_eq
  have key : s.secondTicked.clock.latched.minuteKey = minuteKeyOf (advance s.clock.time) := by rw [s.secondTicked_clock]; rfl
  have checked (v : State) (clock : v.clock = s.secondTicked.clock) (queue : v.slg.queue = s.slg.queue) :
      MinuteChecked (minuteKeyOf (advance s.clock.time)) (minuteQueue s) v
        (v.subEvents k (eventOrder free).modeSeesOld (eventOrder free).order) := by
    obtain ⟨u, before, after⟩ := subEvents_minute (time ▸ minute) (eventOrder free).modeSeesOld free v
    rw [State.ledgerMinute_eq, before.clock, clock, key, before.slg, queue, wrapped] at after
    exact ⟨u.setSlg { v.slg with queue := minuteQueue s }, rfl, before.plant, before.dropped, before.grow, after⟩
  rw [second, State.blocksSecond]
  split
  · exact .inl (checked _ (by simp) (by rw [State.ledgerSecond_queue]; simp))
  · exact .inr ⟨_, checked _ rfl (by simp), rfl⟩

namespace MinuteChecked

variable {now : Nat} {waiting : List QueuedOrder} {v w : State} (h : MinuteChecked now waiting v w)
include h

theorem queue : w.slg.queue = activatedQueue now waiting := by
  obtain ⟨u, slg, -, -, -, after⟩ := h
  rw [after.slg, State.runActivation_queue, slg]

theorem plant : w.pst.workingPlant = v.pst.workingPlant := by
  obtain ⟨u, -, plant, -, -, after⟩ := h
  rw [after.plant, ← plant]
  simp

theorem grow : PortsGrow v w := by
  obtain ⟨u, -, -, -, grow, after⟩ := h
  exact (grow.runActivation now).trans after.grow

/-- With no order due the ledger stays but for the keys brought back. -/
theorem none_due (none : waiting.filter (fun q => q.key ≤ now) = []) : w.slg = { v.slg with queue := waiting } := by
  obtain ⟨u, slg, -, -, -, after⟩ := h
  rw [after.slg, State.runActivation_none (by rwa [slg]), slg]

/-- ORDER_DROPPED is posted where an order due is dropped. -/
theorem dropped : w.holds .pd .orderDropped = (v.holds .pd .orderDropped
    || (requeue now (waiting.filter fun q => q.key ≤ now) (waiting.filter fun q => now < q.key)).2) := by
  obtain ⟨u, slg, -, dropped, -, after⟩ := h
  rw [after.dropped]
  rcases due : (u.slg.queue.filter (·.key ≤ now)).getLast? with _ | last
  · have none := List.getLast?_eq_none_iff.1 due
    rw [State.runActivation_none none, dropped]
    rw [slg] at none
    simp [none, requeue]
  · rw [State.runActivation_some due, State.holds_activateOrder_orderDropped, State.holds_requeued, dropped, slg]

/-- With orders due the last of them is activated. -/
theorem activates {last : QueuedOrder} (due : (waiting.filter fun q => q.key ≤ now).getLast? = some last) :
    w.slg.active = some last.order ∧ w.holds .pd .orderActive = true
      ∧ (∀ pl ∈ v.pst.workingPlant.toList, OrderActivated pl last.order v w)
      ∧ (v.pst.workingPlant = none → w.slg.request = 0 ∧ w.feu.request = 0) := by
  obtain ⟨u, slg, plant, -, -, after⟩ := h
  obtain ⟨active, notice, activated, zero⟩ := runActivation_activates (s := v) slg due
  rw [plant] at activated zero
  rw [after.slg, after.request]
  refine ⟨active, after.grow.holds notice, fun pl hpl => ?_, zero⟩
  obtain ⟨ledger, served, request, -⟩ := activated pl hpl
  rw [OrderActivated, after.slg, after.request]
  exact ⟨ledger, served.later (by rw [after.slg]) after.plant after.grow, request, after.grow.holds notice⟩

end MinuteChecked

end Sys2Proof.Machine
end

section
/-! CERTIFICATE. Every step keeps the allocation's sum and the order queue's law: the events that leave the queue, the activation checks, the
commands of the clock and of the orders, then the rows (R121 to R125, R127, R130). -/

namespace Sys2Proof.Machine

/-! ## Events that leave the queue (R130) -/

/-- The clock and the queue stay, and the allocation still sums to the steam. -/
structure QueueStays (s t : State) : Prop where
  clock : t.clock = s.clock
  queue : t.slg.queue = s.slg.queue
  alloc : AllocationLaw s.slg → AllocationLaw t.slg

theorem QueueStays.refl (s : State) : QueueStays s s := ⟨rfl, rfl, id⟩

theorem QueueStays.trans {s t u : State} (h : QueueStays s t) (k : QueueStays t u) : QueueStays s u :=
  ⟨k.clock.trans h.clock, k.queue.trans h.queue, k.alloc ∘ h.alloc⟩

/-- The clock and the ledger stay. -/
theorem QueueStays.of_slg {s t : State} (clock : t.clock = s.clock) (slg : t.slg = s.slg) : QueueStays s t :=
  ⟨clock, by rw [slg], fun law => slg ▸ law⟩

/-- After the steam has been served again the allocation sums to it, whatever it was before (R130). -/
theorem State.reallocate_allocationLaw (s : State) : AllocationLaw s.reallocate.slg := by
  rw [State.reallocate_slg]
  exact reallocated_allocationLaw _ _

@[simp] theorem State.reallocate_queue (s : State) : s.reallocate.slg.queue = s.slg.queue := by
  rw [State.reallocate_slg]
  rfl

/-- Other items of the ledger, and the steam served again. -/
theorem QueueStays.of_reallocate {s u : State} (clock : u.clock = s.clock) (queue : u.slg.queue = s.slg.queue) :
    QueueStays s u.reallocate :=
  ⟨by simp [clock], by simp [queue], fun _ => u.reallocate_allocationLaw⟩

/-- Other items of the ledger, the request that they call for, and the steam served again (R118, R119, R126, R135). -/
theorem ledgerFormed_queueStays {s : State} {l : Ledger} (queue : l.queue = s.slg.queue) :
    QueueStays s (s.setSlg l).writeRequest.reallocate :=
  .of_reallocate (by simp) (by simpa [State.writeRequest_slg] using queue)

theorem activateOrder_queueStays (o : Order) (s : State) : QueueStays s (s.activateOrder o) := by
  have posted (u : State) : QueueStays u (u.post .orderActive .pd) := .of_slg (by simp) (by simp)
  exact (ledgerFormed_queueStays (by rfl)).trans (posted _)

theorem plantInForce_queueStays (pl : Plant) (s : State) : QueueStays s (s.plantInForce pl) := by
  have inForce : QueueStays s (s.setPst { s.pst with workingPlant := some pl }) := .of_slg rfl rfl
  have taken (u : State) : QueueStays u (u.setSta (takePlant u.plantMode u.plant u.sta)) := .of_slg rfl rfl
  exact (inForce.trans (taken _)).trans (ledgerFormed_queueStays (by rfl))

theorem releaseHeldPlant_queueStays (s : State) : QueueStays s s.releaseHeldPlant := by
  have emptied : QueueStays s (s.setPst { s.pst with heldPlant := none }) := .of_slg rfl rfl
  unfold State.releaseHeldPlant
  split
  · split
    · exact emptied.trans (plantInForce_queueStays _ _)
    · exact .refl s
  · exact .refl s

/-- A change of mode reaches the ledger through a held PLANT copy alone (R159). -/
theorem changeMode_queueStays (m : ModeCtl) (s : State) : QueueStays s (s.changeMode m) := by
  obtain ⟨-, -, slg, -⟩ := State.changeMode_blocks m s
  have entered : QueueStays s (s.entering m) := .of_slg (by simp) (by simp)
  exact (entered.trans (releaseHeldPlant_queueStays _)).trans (.of_slg (by simp) (by simp [slg]))

theorem queueStays_byController : KeptByController QueueStays where
  refl := QueueStays.refl
  trans := QueueStays.trans
  ports _ _ := .of_slg rfl rfl
  items _ := .of_slg rfl rfl
  change := changeMode_queueStays
  records _ _ _ := .of_slg rfl rfl
  cleaning _ _ := .of_slg rfl rfl
  draw _ := .of_slg rfl rfl

theorem ledgerSecond_queueStays (s : State) : QueueStays s s.ledgerSecond := by
  have steam (u : State) : QueueStays u u.steamSecond :=
    ⟨by simp, by rw [State.steamSecond_slg], fun law => by rw [State.steamSecond_slg]; exact law⟩
  have ramped (u : State) : QueueStays u u.rampSetpoints := by
    dsimp only [State.rampSetpoints]
    split
    · exact .refl u
    · exact .of_reallocate (by simp) rfl
  exact (steam s).trans (ramped _)

theorem completeProgramming_queueStays (s : State) : QueueStays s s.completeProgramming := by
  have taken (sec : PermitSection) (image : List Byte) (u : State) : QueueStays u (u.takeImage sec image) := by
    unfold State.takeImage
    split
    · exact .of_slg rfl rfl
    · exact .of_slg rfl rfl
    split
    · exact .of_slg rfl rfl
    · exact plantInForce_queueStays _ u
  unfold State.completeProgramming
  split
  · exact .trans (.of_slg (by simp) (by simp)) (taken _ _ _)
  · exact .refl s

/-! ## The commands that leave the queue -/

theorem doPostSteam_queueStays (p : Port) (flow : BitVec 16) (s : State) : QueueStays s (s.doPostSteam p flow).1 := by
  have taken : QueueStays s (s.takeSteam flow.toNat) := by
    unfold State.takeSteam
    dsimp only
    split
    · exact .of_reallocate (by simp) (by simp [State.writeRequest_slg])
    · exact .of_reallocate rfl rfl
  unfold State.doPostSteam
  split
  · exact .refl s
  · exact taken

theorem doSetAuxDemand_queueStays (p : Port) (demand : BitVec 16) (s : State) : QueueStays s (s.doSetAuxDemand p demand).1 := by
  have taken (d : Nat) : QueueStays s (s.takeAux d) := by
    unfold State.takeAux
    split
    · exact .refl s
    · exact ledgerFormed_queueStays rfl
  unfold State.doSetAuxDemand
  split
  · exact .refl s
  · exact taken _

theorem doSetConsumers_queueStays (p : Port) (turbine extraction : BitVec 8) (s : State) :
    QueueStays s (s.doSetConsumers p turbine extraction).1 := by
  have taken (a b : Availability) : QueueStays s (s.takeConsumers a b) := by
    unfold State.takeConsumers
    split
    · exact .refl s
    · exact ledgerFormed_queueStays (by rfl)
  unfold State.doSetConsumers
  split
  · exact .refl s
  split
  · exact taken _ _
  · exact .refl s

section Quiet

variable (s : State)

@[simp] theorem doPostSamples_slg (p : Port) (o2 : BitVec 16) (o2Status : BitVec 8) (entries : List SampleEntry) :
    (s.doPostSamples p o2 o2Status entries).1.slg = s.slg := by
  have set (x : SampleSet) : (s.doSampleSet x).1.slg = s.slg := by
    unfold State.doSampleSet
    (repeat' split) <;> simp
  unfold State.doPostSamples
  (repeat' split) <;> simp [set]

@[simp] theorem doSetReagents_slg (p : Port) (a b c : ReagentArgs) : (s.doSetReagents p a b c).1.slg = s.slg := by
  unfold State.doSetReagents
  (repeat' split) <;> simp

@[simp] theorem doClearHistory_slg (p : Port) : (s.doClearHistory p).1.slg = s.slg := by
  unfold State.doClearHistory
  (repeat' split) <;> simp

@[simp] theorem doSetBoilerLimit_slg (p : Port) (limit : BitVec 16) : (s.doSetBoilerLimit p limit).1.slg = s.slg := by
  unfold State.doSetBoilerLimit
  split <;> simp

@[simp] theorem doSetLanes_slg (p : Port) (split massA massB : BitVec 16) : (s.doSetLanes p split massA massB).1.slg = s.slg := by
  unfold State.doSetLanes
  split <;> simp

@[simp] theorem doPostEnergy_slg (p : Port) (exported heat : BitVec 32) : (s.doPostEnergy p exported heat).1.slg = s.slg := by
  unfold State.doPostEnergy
  split <;> simp

@[simp] theorem doRestoreMeters_slg (p : Port) (totals : MeterArgs) : (s.doRestoreMeters p totals).1.slg = s.slg := by
  unfold State.doRestoreMeters
  (repeat' split) <;> simp

@[simp] theorem doFreshMeters_slg (p : Port) : (s.doFreshMeters p).1.slg = s.slg := by
  unfold State.doFreshMeters
  (repeat' split) <;> simp

@[simp] theorem doProgramSection_slg (p : Port) (number : BitVec 8) (image : List Byte) :
    (s.doProgramSection p number image).1.slg = s.slg := by
  have programmed (sec : PermitSection) : (s.programSection p sec image).1.slg = s.slg := by
    unfold State.programSection
    (repeat' split) <;> simp [State.refuseStore]
  unfold State.doProgramSection
  split <;> simp [programmed, State.refuseStore]

@[simp] theorem doLockSection_slg (p : Port) (number : BitVec 8) : (s.doLockSection p number).1.slg = s.slg := by
  have locked (sec : PermitSection) : (s.lockSection p sec).1.slg = s.slg := by
    unfold State.lockSection
    (repeat' split) <;> simp [State.refuseStore]
  unfold State.doLockSection
  split <;> simp [locked, State.refuseStore]

end Quiet

/-! ## What every step keeps -/

/-- A change of state keeps the clock's law and the allocation's, and under the first the queue's. -/
structure LedgerKept (s t : State) : Prop where
  clock : ClockLaw s.clock → ClockLaw t.clock
  alloc : AllocationLaw s.slg → AllocationLaw t.slg
  queue : ClockLaw s.clock → QueueLaw s → QueueLaw t

theorem LedgerKept.refl (s : State) : LedgerKept s s := ⟨id, id, fun _ => id⟩

theorem LedgerKept.trans {s t u : State} (h : LedgerKept s t) (k : LedgerKept t u) : LedgerKept s u :=
  ⟨k.clock ∘ h.clock, k.alloc ∘ h.alloc, fun clock law => k.queue (h.clock clock) (h.queue clock law)⟩

theorem QueueStays.ledgerKept {s t : State} (h : QueueStays s t) : LedgerKept s t :=
  ⟨fun law => h.clock ▸ law, h.alloc, fun _ law => law.of_queue h.queue fun running => by rw [h.clock] at running ⊢; exact ⟨running, rfl⟩⟩

/-- The clock and the ledger stay. -/
theorem LedgerKept.of_slg {s t : State} (frame : t.clock = s.clock ∧ t.mode = s.mode) (slg : t.slg = s.slg) : LedgerKept s t :=
  (QueueStays.of_slg frame.1 slg).ledgerKept

/-- The ledger's values at a reset: no steam, no order (R138). -/
theorem LedgerKept.of_reset {s t : State} (clock : ClockLaw s.clock → ClockLaw t.clock) (slg : t.slg = .reset) : LedgerKept s t :=
  ⟨clock, fun _ => by rw [slg]; rfl, fun _ _ => .of_empty (by rw [slg]; rfl)⟩

/-! ## The activation checks (R124, R125, R127) -/

theorem runActivation_allocation (now : Nat) {s : State} (law : AllocationLaw s.slg) : AllocationLaw (s.runActivation now).slg := by
  rcases due : (s.slg.queue.filter (·.key ≤ now)).getLast? with _ | last
  · rwa [State.runActivation_none (List.getLast?_eq_none_iff.1 due)]
  · rw [State.runActivation_some due]
    exact (activateOrder_queueStays _ _).alloc (by rw [State.requeued_slg]; exact law)

/-- A check of a well-formed queue at the time of the clock leaves the queue's law. -/
theorem runActivation_queueLaw {u : State} {now : Nat} (clock : ClockLaw u.clock) (minute : now = minuteKeyOf u.clock.time)
    (formed : QueueFormed u.slg.queue) (below : BelowWrap u.clock.time.day u.slg.queue) : QueueLaw (u.runActivation now) := by
  have range := clock.1
  obtain ⟨formed, ahead⟩ := activatedQueue_law range formed below
  have frame : (u.runActivation now).clock = u.clock := by simp
  refine .of_ahead (by rwa [frame]) ?_ ?_
  · rwa [State.runActivation_queue, minute]
  · rwa [State.runActivation_queue, frame, minute]

theorem subEvent_allocation (k : EventKind) (old : Bool) (e : SubEvent) (s : State) (law : AllocationLaw s.slg) :
    AllocationLaw (s.subEvent k old e).slg := by
  by_cases activation : e = .activation
  · subst activation
    dsimp only [State.subEvent]
    split
    · rw [State.ledgerMinute_eq]
      exact runActivation_allocation _ law
    · exact law
  · rw [(subEvent_untouched activation s).slg]
    exact law

/-! ## The second event (R2, R3) -/

/-- One second on inside a minute, the minute and the day stay. -/
theorem advance_inMinute {t : ClockTime} (inside : isMinute (advance t) = false) :
    minuteKeyOf (advance t) = minuteKeyOf t ∧ (advance t).day = t.day := by
  unfold advance at inside ⊢
  split
  · exact ⟨rfl, rfl⟩
  · next carry =>
    rw [if_neg carry] at inside
    (repeat' split at inside) <;> simp [isMinute] at inside

/-- One second on without a wrap of the day count, a day before the last comes after a day before the last. -/
theorem advance_day {t : ClockTime} (range : TimeInRange t) (same : dayWraps t = false)
    (before : (advance t).day < 65535) : t.day < 65535 := by
  obtain ⟨day, -⟩ := range
  by_contra last
  have lastDay : t.day = 65535 := by omega
  have advanced : (advance t).day = t.day ∨ (advance t).day = 0 := by
    unfold advance
    split
    · exact .inl rfl
    split
    · exact .inl rfl
    split
    · exact .inl rfl
    · exact .inr (if_neg (by omega))
  rcases advanced with stays | wraps
  · omega
  · simp [dayWraps, lastDay, wraps] at same

/-- The queue after a second event: at a minute that of the activation check, else as it was. -/
theorem State.secondEvent_queue (s : State) :
    s.secondEvent.slg.queue =
      if isMinute (advance s.clock.time) then activatedQueue (minuteKeyOf (advance s.clock.time)) (minuteQueue s) else s.slg.queue := by
  by_cases minute : isMinute (advance s.clock.time) = true
  · rw [if_pos minute]
    rcases s.secondEvent_minute minute with checked | ⟨w, checked, second⟩
    · exact checked.queue
    · rw [second, State.ledgerSecond_queue, checked.queue]
  · obtain ⟨k, free, time, -, second⟩ := s.secondEvent_eq
    have quiet (v : State) : NoOrderDue k v := fun is => absurd (time ▸ is) minute
    have slg : s.secondTicked.slg = s.slg := by simp
    rw [if_neg minute, second, State.blocksSecond]
    split
    · rw [State.subEvents_slg (quiet _), State.ledgerSecond_queue, slg]
    · rw [State.ledgerSecond_queue, State.subEvents_slg (quiet _), slg]

/-- A second event keeps the queue's law (R122, R124, R127). -/
theorem secondEvent_queueLaw {s : State} (running : s.clock.run = .running) (clock : ClockLaw s.clock) (law : QueueLaw s) :
    QueueLaw s.secondEvent := by
  have range := clock.1
  have time : s.secondEvent.clock.time = advance s.clock.time := by
    obtain ⟨k, free, -, -, second⟩ := s.secondEvent_eq
    rw [second, (State.blocksSecond_frame _ _ _).1, s.secondTicked_clock]
    rfl
  have formed := law.formed
  obtain ⟨later, below⟩ := law.ahead clock running
  have after := (secondEvent_clockKept running).law clock
  by_cases minute : isMinute (advance s.clock.time) = true
  · have waiting : QueueFormed (minuteQueue s) ∧ BelowWrap (advance s.clock.time).day (minuteQueue s) := by
      unfold minuteQueue
      split
      · obtain ⟨formed, below⟩ := rekey_law law
        exact ⟨formed, fun _ => below⟩
      · next sameDays => exact ⟨formed, fun before => below (advance_day range (Bool.eq_false_of_not_eq_true sameDays) before)⟩
    obtain ⟨formed, ahead⟩ := activatedQueue_law (advance_spec range).1 waiting.1 waiting.2
    refine .of_ahead after ?_ ?_
    · rwa [State.secondEvent_queue, if_pos minute]
    · rwa [State.secondEvent_queue, if_pos minute, time]
  · obtain ⟨key, day⟩ := advance_inMinute (Bool.eq_false_of_not_eq_true minute)
    refine .of_ahead after ?_ ?_
    · rwa [State.secondEvent_queue, if_neg minute]
    · rw [State.secondEvent_queue, if_neg minute, time]
      rw [QueueAhead, key, day]
      exact ⟨later, below⟩

theorem secondEvent_ledgerKept {s : State} (running : s.clock.run = .running) : LedgerKept s s.secondEvent := by
  refine ⟨(secondEvent_clockKept running).law, fun law => ?_, secondEvent_queueLaw running⟩
  obtain ⟨k, free, -, -, second⟩ := s.secondEvent_eq
  have ticked : AllocationLaw s.secondTicked.slg := by simpa using law
  rw [second]
  exact State.blocksSecond_related (R := fun u v => AllocationLaw u.slg → AllocationLaw v.slg) (fun _ => id) (fun h k => k ∘ h)
    subEvent_allocation (fun u => (ledgerSecond_queueStays u).alloc) k _ _ ticked

/-- An edge of a running clock is counted, or raises the second event (R1). -/
theorem refckEdge_ledgerKept (s : State) : LedgerKept s s.refckEdge := by
  rcases running : s.clock.run with _ | _
  · have idle : s.refckEdge = s := by simp [State.refckEdge, running]
    rw [idle]
    exact .refl s
  by_cases below : s.clock.scaler + 1 < s.clock.divisor
  · have counted : s.refckEdge = s.setClock { s.clock with scaler := s.clock.scaler + 1 } := by simp [State.refckEdge, running, below]
    have slg : s.refckEdge.slg = s.slg := by rw [counted]; rfl
    exact ⟨(refckEdge_clockKept s).law, fun law => slg ▸ law,
      fun _ law => law.of_queue (by rw [slg]) fun _ => ⟨running, by rw [counted]; rfl⟩⟩
  · have second : s.refckEdge = s.secondEvent := by simp [State.refckEdge, running, below]
    rw [second]
    exact secondEvent_ledgerKept running

/-! ## The commands of the clock (R8, R10, R11, R13) -/

/-- A command taken while the clock is STOPPED, which it stays. -/
theorem doSetTime_ledgerKept (p : Port) (day : BitVec 16) (hour minute second : BitVec 8) (divisor : BitVec 24) (offset : BitVec 8)
    (s : State) : LedgerKept s (s.doSetTime p day hour minute second divisor offset).1 := by
  have kept := (doSetTime_clockKept p day hour minute second divisor offset s).law
  unfold State.doSetTime at kept ⊢
  split
  · exact .refl s
  split
  · exact .refl s
  split
  · next foreign stopped inRange =>
    rw [if_neg foreign, if_neg stopped, if_pos inRange] at kept
    exact ⟨kept, id, fun _ law => law.of_queue rfl fun running => absurd running stopped⟩
  · exact .refl s

/-- START_CLOCK brings the keys back on a day below the last, and checks the queue at the loaded time. -/
theorem doStartClock_ledgerKept (p : Port) (s : State) : LedgerKept s (s.doStartClock p).1 := by
  have kept := (doStartClock_clockKept p s).law
  unfold State.doStartClock at kept ⊢
  split
  · exact .refl s
  split
  · exact .refl s
  split
  · exact .refl s
  · next foreign stopped used =>
    rw [if_neg foreign, if_neg stopped, if_neg used] at kept
    obtain ⟨started, -, -, -, slg⟩ := s.started_frame
    refine ⟨kept, fun law => ?_, fun clock law => ?_⟩
    · rw [s.startRunning_eq]
      exact runActivation_allocation _ (by rw [slg]; exact law)
    · have startLaw : ClockLaw s.started.clock := by
        have after := kept clock
        rwa [s.startRunning_frame.1, ← started] at after
      have time : s.started.clock.time = s.clock.time := by rw [started]; rfl
      have waiting : QueueFormed (startQueue s) ∧ BelowWrap s.clock.time.day (startQueue s) := by
        unfold startQueue
        split
        · obtain ⟨formed, below⟩ := rekey_law law
          exact ⟨formed, fun _ => below⟩
        · next last => exact ⟨law.formed, fun before => absurd before last⟩
      rw [s.startRunning_eq]
      refine runActivation_queueLaw startLaw (by rw [time]) ?_ ?_
      · rw [slg]
        exact waiting.1
      · rw [slg, time]
        exact waiting.2

theorem doStopClock_ledgerKept (p : Port) (s : State) : LedgerKept s (s.doStopClock p).1 := by
  have kept := (doStopClock_clockKept p s).law
  unfold State.doStopClock at kept ⊢
  split
  · exact .refl s
  split
  · exact .refl s
  split
  · exact .refl s
  · next foreign stopped cold =>
    rw [if_neg foreign, if_neg stopped, if_neg cold] at kept
    have slg : s.stopRunning.slg = s.slg := by simp [State.stopRunning]
    have stops : s.stopRunning.clock.run = .stopped := by simp [State.stopRunning, latch]
    exact ⟨kept, fun law => slg ▸ law, fun _ law => law.of_queue (by rw [slg]) fun running => absurd (stops.symm.trans running) nofun⟩

/-- The queue after an accepted step: checked where the step enters a later minute, else as it was (R13). -/
theorem State.stepClock_queue (shift : Int) (s : State) :
    (s.stepClock shift).slg.queue =
      if 0 < shift ∧ minuteKeyOf s.clock.latched.time < minuteKeyOf (steppedTime s.clock.latched.time shift) then
        activatedQueue (minuteKeyOf (steppedTime s.clock.latched.time shift)) s.slg.queue
      else s.slg.queue := by
  have slg : (s.steppedForward shift).slg = s.slg := by simp
  have key : (s.steppedForward shift).clock.latched.minuteKey = minuteKeyOf (steppedTime s.clock.latched.time shift) := by
    rw [State.steppedForward_clock]
    rfl
  by_cases forward : 0 < shift
  · simp only [State.stepClock_forward s forward, State.passedMinute, key, forward, true_and]
    split
    · rw [State.runActivation_queue, slg]
    · rw [slg]
  · rw [State.stepClock_backward s forward, if_neg fun h => forward h.1]
    rfl

/-- A backward step inside the period enters no later minute. -/
theorem minuteKeyOf_steppedTime_le {t : ClockTime} {shift : Int} (range : TimeInRange t) (backward : shift ≤ 0)
    (inside : ((absoluteSecond t : Int) + shift) / 1800 = (absoluteSecond t / 1800 : Nat)) :
    minuteKeyOf (steppedTime t shift) ≤ minuteKeyOf t := by
  obtain ⟨-, hour, minute, second⟩ := range
  simp only [steppedTime, minuteKeyOf, absoluteSecond, secondOfDay] at inside ⊢
  omega

/-- An accepted step keeps the queue's law: the day stays, and the orders due at a minute entered are activated. -/
theorem stepClock_queueLaw {shift : Int} {s : State} (clock : ClockLaw s.clock) (running : s.clock.run = .running)
    (inside : crossesPeriod s.clock.latched.time shift = false) (after : ClockLaw (s.stepClock shift).clock) (law : QueueLaw s) :
    QueueLaw (s.stepClock shift) := by
  have range := clock.1
  obtain ⟨-, time⟩ := clock.latched_time
  have stepped : (s.stepClock shift).clock.time = steppedTime s.clock.time shift := by
    by_cases forward : 0 < shift
    · rw [State.stepClock_forward s forward, (State.passedMinute_frame _ _).1, State.steppedForward_clock, ← time]
      rfl
    · rw [State.stepClock_backward s forward, ← time]
      rfl
  have queue := State.stepClock_queue shift s
  rw [time] at inside queue
  have formed := law.formed
  obtain ⟨later, below⟩ := law.ahead clock running
  by_cases enters : 0 < shift ∧ minuteKeyOf s.clock.time < minuteKeyOf (steppedTime s.clock.time shift)
  · rw [if_pos enters] at queue
    obtain ⟨formed, ahead⟩ := activatedQueue_law (t := steppedTime s.clock.time shift) (steppedTime_inRange range shift) formed below
    refine .of_ahead after ?_ ?_
    · rwa [queue]
    · rwa [queue, stepped]
  · rw [if_neg enters] at queue
    have notLater : minuteKeyOf (steppedTime s.clock.time shift) ≤ minuteKeyOf s.clock.time := by
      by_cases forward : 0 < shift
      · exact Nat.le_of_not_lt fun less => enters ⟨forward, less⟩
      · exact minuteKeyOf_steppedTime_le range (by omega) ((crossesPeriod_eq_false_iff _ _).1 inside)
    refine .of_ahead after ?_ ?_
    · rwa [queue]
    · rw [queue, stepped]
      exact ⟨fun q hq => notLater.trans_lt (later q hq), below⟩

theorem stepClock_allocation (shift : Int) {s : State} (law : AllocationLaw s.slg) : AllocationLaw (s.stepClock shift).slg := by
  by_cases forward : 0 < shift
  · have slg : (s.steppedForward shift).slg = s.slg := by simp
    rw [State.stepClock_forward s forward, State.passedMinute]
    split
    · exact runActivation_allocation _ (by rwa [slg])
    · rwa [slg]
  · rw [State.stepClock_backward s forward]
    exact law

theorem doAdjustClock_ledgerKept (p : Port) (shift : BitVec 8) (s : State) : LedgerKept s (s.doAdjustClock p shift).1 := by
  have kept := (doAdjustClock_clockKept p shift s).law
  unfold State.doAdjustClock at kept ⊢
  split
  · exact .refl s
  split
  · exact .refl s
  split
  · exact .refl s
  split
  · exact .refl s
  split
  · exact .refl s
  · next foreign notStopped range inside still =>
    rw [if_neg foreign, if_neg notStopped, if_neg range, if_neg inside, if_neg still] at kept
    have running : s.clock.run = .running := by
      rcases h : s.clock.run with _ | _
      · exact absurd h notStopped
      · rfl
    exact ⟨kept, stepClock_allocation _, fun clock => stepClock_queueLaw clock running (by simpa using inside) (kept clock)⟩

theorem doSetLead_ledgerKept (p : Port) (lead : BitVec 16) (s : State) : LedgerKept s (s.doSetLead p lead).1 := by
  have kept := (doSetLead_clockKept p lead s).law
  unfold State.doSetLead at kept ⊢
  split
  · exact .refl s
  · next inRange =>
    rw [if_neg inRange] at kept
    exact ⟨kept, id, fun _ law => law.of_queue rfl fun running => ⟨running, rfl⟩⟩

/-! ## The commands of the orders (R120 to R123) -/

/-- The fields of an order that the reader passes (R120, R166). -/
theorem orderOf_inRange {args : OrderArgs} {o : Order} (read : orderOf args = some o) :
    o.hour ≤ 23 ∧ o.minute ≤ 59 ∧ ∀ d ∈ o.day.toList, d ≤ 65535 := by
  unfold orderOf at read
  split at read
  · split at read
    · next oneShot _ _ _ inRange =>
      cases read
      refine ⟨inRange.1, inRange.2, fun d hd => ?_⟩
      dsimp only at hd
      split at hd
      · obtain rfl : d = args.day.toNat := by simpa using hd
        exact Nat.le_of_lt_succ args.day.isLt
      · simp at hd
    · cases read
  · cases read

/-- An order read, under its key, has a queued order's law, and on a day before the last its key lies below the wrap (R121). -/
theorem orderKey_law {t : ClockTime} {o : Order} (range : TimeInRange t) (hour : o.hour ≤ 23) (minute : o.minute ≤ 59)
    (days : ∀ d ∈ o.day.toList, d ≤ 65535) :
    QueuedLaw ⟨orderKey (minuteKeyOf t) o, o⟩ ∧ (t.day < 65535 → orderKey (minuteKeyOf t) o < keyWrap) := by
  rcases day : o.day with _ | d
  · have key : orderKey (minuteKeyOf t) o = nextKey (minuteKeyOf t) o := by
      rw [orderKey, day]
      exact nextOccurrence_eq _ _
    rw [key]
    exact ⟨queuedLaw_nextKey range hour minute day, nextKey_below range hour minute⟩
  · have key : orderKey (minuteKeyOf t) o = d * 1440 + o.hour * 60 + o.minute := by rw [orderKey, day]
    have last := days d (by simp [day])
    rw [key]
    refine ⟨⟨hour, minute, ?_, fun x hx => ?_⟩, fun _ => ?_⟩
    · simp only [keyWrap]
      omega
    · obtain rfl : x = d := by simpa [day, eq_comm] using hx
      exact ⟨last, rfl⟩
    · simp only [keyWrap]
      omega

/-- An order placed for a later minute of a running clock, under a key that no order of the queue has. -/
theorem placed_queueLaw {s : State} {o : Order} {queue : List QueuedOrder} (clock : ClockLaw s.clock)
    (hour : o.hour ≤ 23) (minute : o.minute ≤ 59) (days : ∀ d ∈ o.day.toList, d ≤ 65535)
    (later : s.clock.latched.minuteKey < orderKey s.clock.latched.minuteKey o) (formed : QueueFormed queue)
    (ahead : QueueAhead s.clock.time queue) (room : queue.length < 16)
    (free : ∀ q ∈ queue, q.key ≠ orderKey s.clock.latched.minuteKey o) :
    QueueLaw (s.setSlg { s.slg with queue := enqueue ⟨orderKey s.clock.latched.minuteKey o, o⟩ queue }) := by
  obtain ⟨now, -⟩ := clock.latched_time
  rw [now] at later free ⊢
  obtain ⟨own, below⟩ := orderKey_law clock.1 hour minute days
  exact .of_ahead clock (formed.enqueue room own free) (ahead.enqueue later below)

theorem placeOrder_ledgerKept {s : State} {o : Order} (clamped : Bool) (running : s.clock.run = .running)
    (hour : o.hour ≤ 23) (minute : o.minute ≤ 59) (days : ∀ d ∈ o.day.toList, d ≤ 65535) : LedgerKept s (s.placeOrder o clamped).1 := by
  have placed {queue : List QueuedOrder} (law : ClockLaw s.clock → QueueLaw s → QueueLaw (s.setSlg { s.slg with queue := queue })) :
      LedgerKept s (s.setSlg { s.slg with queue := queue }) := ⟨id, id, law⟩
  dsimp only [State.placeOrder]
  split
  · exact (activateOrder_queueStays o s).ledgerKept
  next later =>
  have later := Nat.lt_of_not_le later
  split
  · next taken =>
    obtain ⟨x, hx, key⟩ := keyTaken_iff.1 taken
    refine placed fun clock law => placed_queueLaw clock hour minute days later (law.formed.filter _)
      ((law.ahead clock running).filter _) ?_ fun q hq => by simpa using (List.mem_filter.1 hq).2
    have shorter : (s.slg.queue.filter fun q => q.key ≠ orderKey s.clock.latched.minuteKey o).length < s.slg.queue.length :=
      List.length_filter_lt_length_iff_exists.2 ⟨x, hx, by simpa using key⟩
    exact shorter.trans_le law.formed.1
  split
  · exact .refl s
  · next free room =>
    refine placed fun clock law => placed_queueLaw clock hour minute days later law.formed (law.ahead clock running)
      (Nat.lt_of_not_le room) fun q hq same => free (keyTaken_iff.2 ⟨q, hq, same⟩)

theorem doPostOrder_ledgerKept (p : Port) (args : OrderArgs) (s : State) : LedgerKept s (s.doPostOrder p args).1 := by
  unfold State.doPostOrder
  split
  · exact .refl s
  split
  · exact .refl s
  · next o read =>
    split
    · exact .refl s
    split
    · exact .refl s
    · next notStopped _ _ _ =>
      obtain ⟨hour, minute, days⟩ := orderOf_inRange read
      have running : s.clock.run = .running := by
        rcases h : s.clock.run with _ | _
        · exact absurd h notStopped
        · rfl
      exact placeOrder_ledgerKept _ running hour minute days

theorem doCancelOrders_ledgerKept (p : Port) (tag : BitVec 16) (s : State) : LedgerKept s (s.doCancelOrders p tag).1 := by
  unfold State.doCancelOrders
  split
  · exact .refl s
  · exact ⟨id, id, fun _ law => law.filter _⟩

/-! ## The statement -/

theorem pinReset_ledgerKept (s : State) : LedgerKept s s.pinReset := by
  have kept := (pinReset_clockKept s).law
  unfold State.pinReset at kept ⊢
  split
  · exact .refl s
  · next low =>
    rw [if_neg low] at kept
    exact .of_reset kept rfl

theorem rowWork_ledgerKept (i : Instr) (s : State) : LedgerKept s (rowWork i s) := by
  have controller := queueStays_byController
  cases i with
  | powerOn => exact .of_reset (powerOn_clockKept s).law rfl
  | pinReset => exact pinReset_ledgerKept s
  | pinResetRelease =>
    dsimp only [rowWork, State.releaseReset]
    split
    · exact .of_slg ⟨rfl, rfl⟩ rfl
    · exact .refl s
  | refckEdge => exact refckEdge_ledgerKept s
  | secondEvent =>
    dsimp only [rowWork]
    split
    · next running => exact secondEvent_ledgerKept running
    · exact .refl s
  | strokeUnitTick => exact (controller.strokeUnit s).ledgerKept
  | periodExpiry ch => exact (controller.expirePeriod ch s).ledgerKept
  | strokeLimitExpiry ch => exact (controller.expireLimit ch s).ledgerKept
  | eosArrival ch => exact .of_slg (by simp [rowWork]) (by simp [rowWork])
  | programmingCompletion => exact (completeProgramming_queueStays s).ledgerKept
  | lockCompletion => exact .of_slg (by simp [rowWork]) (by simp [rowWork])
  | setTime => exact doSetTime_ledgerKept _ _ _ _ _ _ _ s
  | startClock => exact doStartClock_ledgerKept _ s
  | stopClock => exact doStopClock_ledgerKept _ s
  | adjustClock => exact doAdjustClock_ledgerKept _ _ s
  | setLead => exact doSetLead_ledgerKept _ _ s
  | start => exact (controller.doStart _ s).ledgerKept
  | feed => exact (controller.doFeed _ s).ledgerKept
  | stop => exact (controller.doStop s).ledgerKept
  | trip => exact (controller.doTrip _ _ s).ledgerKept
  | clearTrip => exact (controller.doClearTrip _ s).ledgerKept
  | postTemperature => exact (controller.doPostTemperature _ _ s).ledgerKept
  | postSamples p o2 o2Status entries =>
    exact .of_slg (doPostSamples_frame p o2 o2Status entries s) (doPostSamples_slg s p o2 o2Status entries)
  | setCleaning => exact (controller.doSetCleaning _ _ s).ledgerKept
  | setReagents p a b c => exact .of_slg (doSetReagents_frame p a b c s) (doSetReagents_slg s p a b c)
  | clearHistory p => exact .of_slg (doClearHistory_frame p s) (doClearHistory_slg s p)
  | setBoilerLimit p limit => exact .of_slg (doSetBoilerLimit_frame p limit s) (doSetBoilerLimit_slg s p limit)
  | setChannel => exact (controller.doSetChannel _ _ _ _ _ s).ledgerKept
  | setLanes p split massA massB => exact .of_slg (doSetLanes_frame p split massA massB s) (doSetLanes_slg s p split massA massB)
  | clearJam => exact (controller.doClearJam _ _ s).ledgerKept
  | postSteam => exact (doPostSteam_queueStays _ _ s).ledgerKept
  | setAuxDemand => exact (doSetAuxDemand_queueStays _ _ s).ledgerKept
  | setConsumers => exact (doSetConsumers_queueStays _ _ _ s).ledgerKept
  | postOrder => exact doPostOrder_ledgerKept _ _ s
  | cancelOrders => exact doCancelOrders_ledgerKept _ _ s
  | postEnergy p exported heat => exact .of_slg (doPostEnergy_frame p exported heat s) (doPostEnergy_slg s p exported heat)
  | restoreMeters p totals => exact .of_slg (doRestoreMeters_frame p totals s) (doRestoreMeters_slg s p totals)
  | freshMeters p => exact .of_slg (doFreshMeters_frame p s) (doFreshMeters_slg s p)
  | enableWrite => exact .of_slg ⟨rfl, rfl⟩ rfl
  | programSection p number image => exact .of_slg (doProgramSection_frame p number image s) (doProgramSection_slg s p number image)
  | lockSection p number => exact .of_slg (doLockSection_frame p number s) (doLockSection_slg s p number)
  | portReset => exact .of_slg ⟨rfl, rfl⟩ rfl
  | _ => exact .refl s

/-- The laws are kept by rows: the ports and the queue of rows do not matter to them. -/
theorem ledgerKept_byRows : KeptByRows LedgerKept :=
  ⟨LedgerKept.refl, LedgerKept.trans, fun _ _ => .of_slg ⟨rfl, rfl⟩ rfl, fun _ _ => .of_slg ⟨rfl, rfl⟩ rfl, rowWork_ledgerKept⟩

/-- Settles O52: each row's own work keeps the allocation's sum, and under the clock's law the queue's, so every step does. -/
theorem ledgerLawsKept : Obligations.LedgerLawsKept := by
  unfold Obligations.LedgerLawsKept
  intro s t h
  have kept := ledgerKept_byRows.step h
  exact ⟨kept.alloc, kept.queue⟩

end Sys2Proof.Machine
end

section
/-! CERTIFICATE. A minute event of the ledger: the activation beside the ledger's own second, in either order (R117, R124 to R129, R133, R134). -/

namespace Sys2Proof.Machine

/-! ## The activation and the ledger's own second (R129) -/

/-- The stale flag after the ledger's own second under a PLANT copy (R117). -/
theorem State.ledgerSecond_stale_iff {s : State} {pl : Plant} (plant : s.pst.workingPlant = some pl) :
    s.ledgerSecond.slg.stale = true ↔ s.slg.stale = true ∨ pl.steamStale ≤ min 65535 (s.slg.age + 1) := by
  obtain ⟨-, stale⟩ := s.ledgerSecond_steam
  rw [stale, Bool.or_eq_true, steamTooOld_iff, plant]
  simp [satAdd]

section Orders

variable {pl : Plant} {o : Order} {s t w : State}

/-- The activation first: the setpoints move at the new rate toward the new targets. -/
theorem OrderActivated.thenSecond (activated : OrderActivated pl o s w) (plant : w.pst.workingPlant = some pl)
    (second : w.ledgerSecond = t) : OrderActivatedAtSecond pl o s t := by
  have grow : PortsGrow w t := second ▸ (PortsGrow.refl w).ledgerSecond
  have tplant : t.pst.workingPlant = w.pst.workingPlant := by simp [← second]
  have queue : t.slg.queue = w.slg.queue := second ▸ w.ledgerSecond_queue
  have stale := State.ledgerSecond_stale_iff plant
  have envelope : t.feu.request = w.feu.request := second ▸ (ledgerSecond_requestLeft w).1
  obtain ⟨ledger, moves, served⟩ :=
    secondLedger_of (s := w) (v := w) (t := t) rfl rfl (by rw [second]) tplant (by rw [second]; exact .refl t)
  rw [second] at stale
  obtain ⟨active, before, request, notice⟩ := activated
  refine ⟨⟨false, ?_⟩, ?_, ?_, ?_, grow.holds notice⟩
  · refine ledger.trans ?_
    rw [queue, active]
    rfl
  · rw [stale, active]
    rfl
  · by_cases still : (secondSetpoints w.pst.workingPlant w.slg).powerSetpoint = w.slg.powerSetpoint
        ∧ (secondSetpoints w.pst.workingPlant w.slg).heatSetpoint = w.slg.heatSetpoint
    · obtain ⟨power, heat⟩ := still
      obtain ⟨alloc, shortfall, dumpOver⟩ := moves power heat
      refine before.later (ledger.trans ?_) tplant grow
      rw [power, heat, alloc, shortfall, dumpOver, ledger]
    · exact .after (.inr before) (served still) grow
  · rw [envelope, request, ledger]

/-- The ledger's own second first: the flag as it leaves it bounds the request. -/
theorem OrderActivated.atSecond (plant : s.pst.workingPlant = some pl) (second : s.ledgerSecond = w)
    (activated : OrderActivated pl o w t) (grow : PortsGrow w t) : OrderActivatedAtSecond pl o s t := by
  have stale := State.ledgerSecond_stale_iff plant
  have wplant : w.pst.workingPlant = s.pst.workingPlant := by simp [← second]
  obtain ⟨ledger, moves, served⟩ :=
    secondLedger_of (s := s) (v := s) (t := w) rfl rfl (by rw [second]) wplant (by rw [second]; exact .refl w)
  rw [second] at stale
  obtain ⟨active, after, request, notice⟩ := activated
  have flag : t.slg.stale = w.slg.stale := by
    rw [active]
    rfl
  refine ⟨⟨true, ?_⟩, flag ▸ stale, ?_, request, notice⟩
  · refine active.trans ?_
    rw [if_pos rfl, flag, ledger]
    rfl
  · by_cases still : (secondSetpoints s.pst.workingPlant s.slg).powerSetpoint = s.slg.powerSetpoint
        ∧ (secondSetpoints s.pst.workingPlant s.slg).heatSetpoint = s.slg.heatSetpoint
    · obtain ⟨power, heat⟩ := still
      obtain ⟨-, shortfall, dumpOver⟩ := moves power heat
      exact .after (.inl ⟨shortfall, dumpOver⟩) after grow
    · exact .after (.inr (served still)) after grow

end Orders

/-- The ledger's own second leaves the active order and the request (R129). -/
theorem State.ledgerSecond_orders (s : State) :
    s.ledgerSecond.slg.active = s.slg.active ∧ s.ledgerSecond.slg.request = s.slg.request := by
  obtain ⟨ledger, -⟩ := secondLedger_of (s := s) (v := s) (t := s.ledgerSecond) rfl rfl rfl (by simp) (.refl _)
  rw [ledger]
  exact ⟨rfl, rfl⟩

/-! ## The minute event -/

/-- What a minute event leaves of the queue that waits and of the active order, from the state before it. -/
structure MinuteTaken (now : Nat) (waiting : List QueuedOrder) (s t : State) : Prop where
  queue     : t.slg.queue = activatedQueue now waiting
  dropped   : t.holds .pd .orderDropped = (s.holds .pd .orderDropped
    || (requeue now (waiting.filter fun q => q.key ≤ now) (waiting.filter fun q => now < q.key)).2)
  still     : waiting.filter (fun q => q.key ≤ now) = [] → t.slg.active = s.slg.active
  activates : ∀ last, (waiting.filter fun q => q.key ≤ now).getLast? = some last →
    t.slg.active = some last.order ∧ t.holds .pd .orderActive = true
      ∧ (∀ pl ∈ s.pst.workingPlant.toList, OrderActivatedAtSecond pl last.order s t)
      ∧ (s.pst.workingPlant = none → t.slg.request = 0 ∧ t.feu.request = 0)

namespace MinuteChecked

variable {now : Nat} {waiting : List QueuedOrder} {v w : State}

/-- The check before the ledger's own second. -/
theorem thenSecond (h : MinuteChecked now waiting v w) : MinuteTaken now waiting v w.ledgerSecond := by
  obtain ⟨active, request⟩ := w.ledgerSecond_orders
  obtain ⟨envelope, dropped⟩ := ledgerSecond_requestLeft w
  refine ⟨w.ledgerSecond_queue.trans h.queue, dropped.trans h.dropped, fun none => ?_, fun last due => ?_⟩
  · rw [active, h.none_due none]
  · obtain ⟨activeOrder, notice, activated, zero⟩ := h.activates due
    refine ⟨active.trans activeOrder, (PortsGrow.refl w).ledgerSecond.holds notice, fun pl hpl => ?_, fun none => ?_⟩
    · exact (activated pl hpl).thenSecond (h.plant.trans (Option.mem_toList.1 hpl)) rfl
    · rw [request, envelope]
      exact zero none

/-- The check after the ledger's own second. -/
theorem atSecond (h : MinuteChecked now waiting v.ledgerSecond w) : MinuteTaken now waiting v w := by
  obtain ⟨active, -⟩ := v.ledgerSecond_orders
  obtain ⟨-, dropped⟩ := ledgerSecond_requestLeft v
  have plant : v.ledgerSecond.pst.workingPlant = v.pst.workingPlant := by simp
  refine ⟨h.queue, dropped ▸ h.dropped, fun none => ?_, fun last due => ?_⟩
  · rw [h.none_due none]
    exact active
  · obtain ⟨activeOrder, notice, activated, zero⟩ := h.activates due
    rw [plant] at activated zero
    exact ⟨activeOrder, notice, fun pl hpl =>
      (activated pl hpl).atSecond (Option.mem_toList.1 hpl) rfl h.grow, zero⟩

end MinuteChecked

/-- In either order a minute event takes the queue that waits (R124 to R129). -/
theorem State.secondEvent_taken (s : State) (minute : isMinute (advance s.clock.time) = true) :
    MinuteTaken (minuteKeyOf (advance s.clock.time)) (minuteQueue s) s s.secondEvent := by
  have slg : s.secondTicked.slg = s.slg := by simp
  have pst : s.secondTicked.pst = s.pst := by simp
  have notices : s.secondTicked.holds .pd .orderDropped = s.holds .pd .orderDropped :=
    (State.holds_meetLeads (by decide) _ _ _ _).trans rfl
  have ticked : MinuteTaken (minuteKeyOf (advance s.clock.time)) (minuteQueue s) s.secondTicked s.secondEvent := by
    rcases s.secondEvent_minute minute with checked | ⟨w, checked, second⟩
    · exact checked.atSecond
    · rw [second]
      exact checked.thenSecond
  obtain ⟨queue, dropped, still, activates⟩ := ticked
  rw [slg] at still
  rw [notices] at dropped
  simp only [OrderActivatedAtSecond, ReallocatedFrom, slg, pst] at activates
  exact ⟨queue, dropped, still, activates⟩

/-- The event at second 59 is a minute event (R3). -/
theorem isMinute_advance {t : ClockTime} (last : t.second = 59) : isMinute (advance t) = true := by
  have carry : ¬ t.second + 1 < 60 := by omega
  simp only [isMinute, advance, if_neg carry]
  split_ifs <;> rfl

/-- The queue that waits under the queue's law, and its ascending keys (R127). -/
theorem minuteQueue_eq {s : State} (law : QueueLaw s) :
    minuteQueue s = (if s.clock.time.day = 65535 ∧ (advance s.clock.time).day = 0 then broughtBack s.slg.queue else s.slg.queue)
      ∧ KeysAscend (minuteQueue s) := by
  have wraps : dayWraps s.clock.time = true ↔ s.clock.time.day = 65535 ∧ (advance s.clock.time).day = 0 := by simp [dayWraps]
  rw [minuteQueue, if_congr wraps rfl rfl, rekey_eq_broughtBack law.wrapLaw]
  refine ⟨rfl, ?_⟩
  split
  · exact broughtBack_ascends law.wrapLaw
  · exact law.wrapLaw.1

/-! ## The statement -/

/-- Settles O23: a minute event takes the queue that waits, which is the queue itself where the day count does not wrap. -/
theorem minuteEventActivatesTheLastDue : Obligations.MinuteEventActivatesTheLastDue := by
  unfold Obligations.MinuteEventActivatesTheLastDue
  refine ⟨fun pl last s running range second later plant due => ?_, fun s running range second law => ?_⟩
  · have taken := s.secondEvent_taken (isMinute_advance second)
    have waiting : minuteQueue s = s.slg.queue := if_neg (by rw [dayWraps, not_wrapped_of_later range later]; simp)
    rw [waiting] at taken
    obtain ⟨active, notice, activated, -⟩ := taken.activates last due
    have pl_mem : pl ∈ s.pst.workingPlant.toList := by simp [plant]
    obtain ⟨⟨_, ledger⟩, -⟩ := activated pl pl_mem
    refine ⟨_, exec_secondEvent_running running, active, notice, ?_, ?_, activated pl pl_mem, fun q hq ahead => ?_⟩
    · rw [ledger]
      rfl
    · rw [ledger]
      rfl
    · rw [taken.queue]
      exact mem_requeue_of_mem _ _ (List.mem_filter.2 ⟨hq, decide_eq_true ahead⟩)
  · have taken := s.secondEvent_taken (isMinute_advance second)
    obtain ⟨waiting, ascends⟩ := minuteQueue_eq law
    rw [← waiting]
    refine ⟨_, exec_secondEvent_running running, fun none => ⟨?_, taken.still none⟩, fun last due => ?_⟩
    · rw [taken.queue, activatedQueue_of_none none]
    · obtain ⟨active, notice, activated, zero⟩ := taken.activates last due
      exact ⟨active, notice, putBack_of taken.queue taken.dropped (ascends.filter _), activated, zero⟩

end Sys2Proof.Machine
end

section
/-! CERTIFICATE. POST_ORDER and CANCEL_ORDERS: the order that the reader forms, its place in the queue by its key or in the active slot, and the
orders of a tag (R120 to R123, R126, R128, R133, R134). -/

namespace Sys2Proof.Machine

/-! ## The order posted (R120, R166) -/

/-- A byte that is 0 or 1, by its own value. -/
theorem byte_zero_or_one {b : Byte} (low : ¬ 1 < b.toNat) : b = 0#8 ∨ b = 1#8 := by
  rcases Nat.le_one_iff_eq_zero_or_eq_one.1 (Nat.le_of_not_lt low) with zero | one
  · exact .inl (BitVec.eq_of_toNat_eq zero)
  · exact .inr (BitVec.eq_of_toNat_eq one)

theorem flagOf_low {b : Byte} (low : ¬ 1 < b.toNat) : flagOf b = some (!decide (b = 0#8)) := by
  rcases byte_zero_or_one low with rfl | rfl <;> rfl

theorem Priority.ofCode_low {b : Byte} (low : ¬ 1 < b.toNat) :
    Priority.ofCode b = some (if b = 0#8 then .powerFirst else .heatFirst) := by
  rcases byte_zero_or_one low with rfl | rfl <;> rfl

theorem Priority.ofCode_none {b : Byte} (high : 1 < b.toNat) : Priority.ofCode b = none := by
  unfold Priority.ofCode
  split
  · omega
  · omega
  · rfl

/-- A field of a posted order lies outside its range (R120, R166). -/
abbrev OrderOutOfRange (args : OrderArgs) : Prop :=
  23 < args.hour.toNat ∨ 59 < args.minute.toNat ∨ 1 < args.dayFlag.toNat ∨ 1 < args.priority.toNat

/-- The order that arguments in range spell. -/
def postedOrder (args : OrderArgs) : Order :=
  { tag := args.tag.toNat, day := if args.dayFlag = 0#8 then none else some args.day.toNat, hour := args.hour.toNat
    minute := args.minute.toNat, power := args.power.toNat, heat := args.heat.toNat
    priority := if args.priority = 0#8 then .powerFirst else .heatFirst, ramp := args.ramp.toNat }

theorem orderOf_eq (args : OrderArgs) : orderOf args = if OrderOutOfRange args then none else some (postedOrder args) := by
  by_cases dayFlag : 1 < args.dayFlag.toNat
  · rw [if_pos (.inr (.inr (.inl dayFlag))), orderOf, flagOf_none dayFlag]
  by_cases priority : 1 < args.priority.toNat
  · rw [if_pos (.inr (.inr (.inr priority))), orderOf, flagOf_low dayFlag, Priority.ofCode_none priority]
  · have times : OrderOutOfRange args ↔ ¬ (args.hour.toNat ≤ 23 ∧ args.minute.toNat ≤ 59) := by
      simp only [OrderOutOfRange]
      omega
    have day : (if (!decide (args.dayFlag = 0#8)) = true then some args.day.toNat else none) =
        if args.dayFlag = 0#8 then none else some args.day.toNat := by
      by_cases daily : args.dayFlag = 0#8 <;> simp [daily]
    rw [if_congr times rfl rfl, ite_not, orderOf, flagOf_low dayFlag, Priority.ofCode_low priority]
    simp only [day, postedOrder]

theorem orderOf_none_iff (args : OrderArgs) : orderOf args = none ↔ OrderOutOfRange args := by
  rw [orderOf_eq]
  split <;> simp [*]

theorem eq_postedOrder {args : OrderArgs} {o : Order} (read : orderOf args = some o) : o = postedOrder args := by
  rw [orderOf_eq] at read
  split at read
  · cases read
  · exact (Option.some.inj read).symm

/-! ## The place in the queue (R122) -/

/-- An order is placed between orders of the queue, which keep their order. -/
theorem enqueue_split (q : QueuedOrder) (queue : List QueuedOrder) :
    ∃ before after, before ++ after = queue ∧ enqueue q queue = before ++ q :: after := by
  induction queue with
  | nil => exact ⟨[], [], rfl, rfl⟩
  | cons x xs ih =>
    by_cases less : q.key < x.key
    · exact ⟨[], x :: xs, rfl, if_pos less⟩
    · obtain ⟨before, after, parts, placed⟩ := ih
      exact ⟨x :: before, after, by rw [← parts]; rfl, by rw [enqueue, if_neg less, placed]; rfl⟩

/-! ## The commands -/

section Commands

variable {args : OrderArgs} {o : Order} {pl : Plant} {s : State}

theorem exec_postOrder_range (ready : Ready .pd s) (range : orderOf args = none) :
    exec (.postOrder .pd args) s = .next (s.replied .pd (.plain .range)) := by
  have done : (s.beginTake .pd).doPostOrder .pd args = (s.beginTake .pd, .plain .range) := by
    simp [State.doPostOrder, range, refuse]
  simpa using exec_ready rfl ready rfl done

theorem exec_postOrder_noTime (ready : Ready .pd s) (read : orderOf args = some o) (stopped : s.clock.run = .stopped) :
    exec (.postOrder .pd args) s = .next (s.replied .pd (.plain .noTime)) := by
  have done : (s.beginTake .pd).doPostOrder .pd args = (s.beginTake .pd, .plain .noTime) := by
    simp [State.doPostOrder, read, stopped, refuse]
  simpa using exec_ready rfl ready rfl done

theorem exec_postOrder_state (ready : Ready .pd s) (read : orderOf args = some o) (running : s.clock.run = .running)
    (none : s.pst.workingPlant = none) : exec (.postOrder .pd args) s = .next (s.replied .pd (.plain .state)) := by
  have done : (s.beginTake .pd).doPostOrder .pd args = (s.beginTake .pd, .plain .state) := by
    simp [State.doPostOrder, read, running, State.plant, none, refuse]
  simpa using exec_ready rfl ready rfl done

/-- An order taken is placed as it has been clamped. -/
theorem exec_postOrder_placed {u : State} {r : Reply} (ready : Ready .pd s) (read : orderOf args = some o)
    (running : s.clock.run = .running) (plant : s.pst.workingPlant = some pl)
    (placed : (s.beginTake .pd).placeOrder (clampOrder pl o) (decide (clampOrder pl o ≠ o)) = (u, r)) :
    exec (.postOrder .pd args) s = .next (u.answer .pd r) := by
  refine exec_ready rfl ready rfl (Eq.trans ?_ placed)
  simp [State.doPostOrder, read, running, State.plant, plant]

theorem exec_cancelOrders (tag : BitVec 16) (ready : Ready .pd s) :
    exec (.cancelOrders .pd tag) s = .next ((s.replied .pd
      ⟨.ok, be 1 (s.slg.queue.countP fun q => q.order.tag == tag.toNat)⟩).setSlg { s.slg with
        queue := s.slg.queue.filter fun q => q.order.tag ≠ tag.toNat }) := by
  have done : (s.beginTake .pd).doCancelOrders .pd tag =
      ((s.beginTake .pd).setSlg { s.slg with queue := s.slg.queue.filter fun q => q.order.tag ≠ tag.toNat },
        ⟨.ok, be 1 (s.slg.queue.countP fun q => q.order.tag == tag.toNat)⟩) := by
    simp [State.doCancelOrders, List.countP_eq_length_filter, beq_eq_decide]
  simpa using exec_ready rfl ready rfl done

end Commands

section Placed

variable {o : Order} {clamped : Bool} {key : Nat} {s : State}

/-- The reply to an order placed, by its key and the clamped flag. -/
abbrev placedReply (clamped : Bool) (key : Nat) : Reply := ⟨if clamped then .clamped else .ok, be 4 key ++ flag clamped⟩

theorem State.placeOrder_due (keyed : orderKey s.clock.latched.minuteKey o = key) (due : key ≤ s.clock.latched.minuteKey) :
    s.placeOrder o clamped = (s.activateOrder o, placedReply clamped key) := by
  simp only [State.placeOrder, keyed, if_pos due]
  rfl

theorem State.placeOrder_taken (keyed : orderKey s.clock.latched.minuteKey o = key) (later : s.clock.latched.minuteKey < key)
    (taken : keyTaken key s.slg.queue = true) :
    s.placeOrder o clamped = (s.setSlg { s.slg with queue := enqueue ⟨key, o⟩ (s.slg.queue.filter fun q => q.key ≠ key) },
      ⟨.replaced, be 4 key ++ flag clamped⟩) := by
  simp only [State.placeOrder, keyed, if_neg (Nat.not_le.2 later), if_pos taken]
  rfl

theorem State.placeOrder_full (keyed : orderKey s.clock.latched.minuteKey o = key) (later : s.clock.latched.minuteKey < key)
    (free : keyTaken key s.slg.queue = false) (full : 16 ≤ s.slg.queue.length) : s.placeOrder o clamped = (s, .plain .full) := by
  simp [State.placeOrder, keyed, Nat.not_le.2 later, free, queueDepth, full, refuse]

theorem State.placeOrder_free (keyed : orderKey s.clock.latched.minuteKey o = key) (later : s.clock.latched.minuteKey < key)
    (free : keyTaken key s.slg.queue = false) (room : s.slg.queue.length < 16) :
    s.placeOrder o clamped = (s.setSlg { s.slg with queue := enqueue ⟨key, o⟩ s.slg.queue }, placedReply clamped key) := by
  simp [State.placeOrder, keyed, Nat.not_le.2 later, free, queueDepth, Nat.not_le.2 room, placedData, Reply.done, Reply.plain]

end Placed

/-! ## An order active at once (R126) -/

/-- The array follows the grant that an activation leaves. -/
theorem activateOrder_grantFollows (o : Order) (s : State) : GrantFollows s (s.activateOrder o) := by
  refine grantFollows_of rfl rfl ?_
  rw [(State.activateOrder_feu _ _).2, State.takeRequest_sta, (State.activateOrder_feu _ _).1]
  simp

/-- An order active at once, taken on a ready port: its targets and its request, with the steam served again. -/
theorem activateOrder_taken {p : Port} {o : Order} {pl : Plant} {s t : State} {r : Reply} (plant : s.pst.workingPlant = some pl)
    (law : GrantLaw s) (taken : ((s.beginTake p).activateOrder o).answer p r = t) :
    OrderActivated pl o s t ∧ t.slg.queue = s.slg.queue ∧ t.slg.alloc = allocate t.slg ∧ GrantFollows s t ∧ GrantLaw t
      ∧ t.clock = s.clock ∧ t.mode = s.mode ∧ t.eau = s.eau ∧ t.fmu = s.fmu ∧ t.pst = s.pst := by
  have law' : GrantLaw (s.beginTake p) := by simpa only [GrantLaw, State.beginTake_frame] using law
  have kept := (activateOrder_grantKept o (s.beginTake p)).law law'
  have slg := State.activateOrder_slg_plant o (s := s.beginTake p) (pl := pl) (by simpa using plant)
  have tslg : t.slg = ((s.beginTake p).activateOrder o).slg := by simp [← taken]
  refine ⟨taken ▸ (orderActivated_of o rfl (by simpa using plant)).of_take r, by simp [tslg], ?_,
    taken ▸ (activateOrder_grantFollows o _).of_take r, ?_, by simp [← taken]⟩
  · rw [tslg, slg]
    rfl
  · simpa only [← taken, GrantLaw, State.answer_frame] using kept

/-! ## The statement -/

/-- Settles O51: the reader's refusals, the checks of POST_ORDER in turn, and the branch of the placement that the key calls for. -/
theorem ordersArePlacedByKey : Obligations.OrdersArePlacedByKey := by
  unfold Obligations.OrdersArePlacedByKey
  intro args tag s ready
  refine ⟨exec_postOrder_range ready, orderOf_none_iff args, fun o read => eq_postedOrder read, fun o => exec_postOrder_noTime ready,
    fun o => exec_postOrder_state ready, fun o pl read running plant => ?_, exec_cancelOrders tag ready⟩
  intro c now today key clamped data taken
  have keyed : orderKey (s.beginTake .pd).clock.latched.minuteKey c = key := by
    cases day : o.day <;> simp [orderKey, c, key, day, now, today, nextOccurrence_eq, nextKey]
  have placed {u : State} {r : Reply} (h : (s.beginTake .pd).placeOrder c clamped = (u, r)) :
      exec (.postOrder .pd args) s = .next (u.answer .pd r) := exec_postOrder_placed ready read running plant h
  have queued {waiting : List QueuedOrder} {r : Reply}
      (h : (s.beginTake .pd).placeOrder c clamped = ((s.beginTake .pd).setSlg { (s.beginTake .pd).slg with queue := waiting }, r)) :
      exec (.postOrder .pd args) s = .next ((s.replied .pd r).setSlg { s.slg with queue := waiting }) := by
    rw [placed h, State.answer_setSlg, State.answer_beginTake]
    rfl
  have clock : (s.beginTake .pd).clock.latched.minuteKey = now := by simp [now]
  have queue : (s.beginTake .pd).slg.queue = s.slg.queue := by simp
  refine ⟨fun later held => ?_, fun later free full => ?_, fun later free room => ?_, fun due law => ?_⟩
  · obtain ⟨before, after, parts, split⟩ := enqueue_split ⟨key, c⟩ (s.slg.queue.filter fun q => q.key ≠ key)
    exact ⟨before, after, split, parts, split ▸ queued (State.placeOrder_taken keyed (clock ▸ later) (queue ▸ held))⟩
  · simpa using placed (State.placeOrder_full keyed (clock ▸ later) (queue ▸ free) (queue ▸ full))
  · obtain ⟨before, after, parts, split⟩ := enqueue_split ⟨key, c⟩ s.slg.queue
    exact ⟨before, after, parts, split, split ▸ queued (State.placeOrder_free keyed (clock ▸ later) (queue ▸ free) (queue ▸ room))⟩
  · obtain ⟨activated, sameQueue, served, follows, grantLaw, blocks⟩ :=
      activateOrder_taken (p := .pd) (o := c) (r := placedReply clamped key) plant law rfl
    have ⟨ledger, _, _, notice⟩ := activated
    refine ⟨_, placed (State.placeOrder_due keyed (clock ▸ due)), State.answer_slot _ _ _, ?active, sameQueue, ?power, ?heat, ?_,
      ?_, ?_, activated, follows, served, grantLaw, notice, blocks⟩
    case power | heat =>
      rw [ledger]
      simp [Ledger.activeUnder, c]
    all_goals
      rw [ledger]
      rfl

end Sys2Proof.Machine
end

section
/-! SUPPORT. The totals by number: digits are fixed by the number that they spell, increments taken in turn make the increment of their
sum, and what joins one band joins the bands' sum (R139, R143, R144, R147). -/

namespace Sys2Proof.Machine

/-! ## A total and its number (R139, R144) -/

/-- Decimal digits of one length are fixed by their number. -/
theorem digits_eq_of_totalValue {d e : Digits} (first : Decimal d) (second : Decimal e) (lengths : d.length = e.length)
    (same : totalValue d = totalValue e) : d = e := by
  induction d generalizing e with
  | nil => exact (List.eq_nil_of_length_eq_zero lengths.symm).symm
  | cons a as ih =>
    cases e with
    | nil => cases lengths
    | cons b bs =>
      obtain ⟨digitA, restA⟩ := List.forall_mem_cons.1 first
      obtain ⟨digitB, restB⟩ := List.forall_mem_cons.1 second
      simp only [totalValue] at same
      obtain rfl : a = b := by omega
      rw [ih restA restB (Nat.succ.inj lengths) (by omega)]

theorem TotalLaw.eq_of_totalValue {d e : Digits} (law : TotalLaw d) (law' : TotalLaw e) (same : totalValue d = totalValue e) : d = e :=
  digits_eq_of_totalValue law.2 law'.2 (law.1.trans law'.1.symm) same

theorem TotalLaw.totalValue_lt {d : Digits} (law : TotalLaw d) : totalValue d < 10 ^ 12 := by
  simpa [law.1] using Machine.totalValue_lt law.2

/-- Two totals added (R147): a total, of the sum of their numbers modulo 10^12. -/
theorem sumTotals_law {a b : Digits} (first : TotalLaw a) (second : TotalLaw b) :
    TotalLaw (sumTotals a b) ∧ totalValue (sumTotals a b) = (totalValue a + totalValue b) % 10 ^ 12 := by
  obtain ⟨length, decimal, -, value⟩ := addDigits_added (second.1.trans first.1.symm) first.2 second.2 (Nat.zero_le 1)
  have law : TotalLaw (sumTotals a b) := ⟨length.trans first.1, decimal⟩
  have low := law.totalValue_lt
  rw [first.1, ← sumTotals] at value
  exact ⟨law, by omega⟩

/-- Two increments in turn add their sum. -/
theorem addTotal_addTotal {d : Digits} (law : TotalLaw d) (m n : Nat) : addTotal (addTotal d m) n = addTotal d (m + n) := by
  obtain ⟨once, value⟩ := addTotal_law law m
  obtain ⟨twice, value'⟩ := addTotal_law once n
  obtain ⟨whole, sum⟩ := addTotal_law law (m + n)
  exact twice.eq_of_totalValue whole (by omega)

/-- Of two increments that stay below 10^12 together one wraps where their sum does. -/
theorem wraps_addTotal {d : Digits} (law : TotalLaw d) {m n : Nat} (small : m + n < 10 ^ 12) :
    (wraps d m || wraps (addTotal d m) n) = wraps d (m + n) := by
  obtain ⟨once, value⟩ := addTotal_law law m
  have low := law.totalValue_lt
  rw [wraps_eq law (by omega), wraps_eq once (by omega), wraps_eq law small, Bool.eq_iff_iff]
  simp only [Bool.or_eq_true, decide_eq_true_eq]
  omega

/-! ## The bands of a meter (R139) -/

section Bands

variable {α : Type} {b : PerBand α} {i : Nat}

@[simp] theorem PerBand.get_set_same (b : PerBand α) (i : Nat) (v : α) : (b.set i v).get i = v := by
  match i with
  | 0 | 1 | 2 | _ + 3 => rfl

theorem PerBand.get_set_ne (v : α) {j : Nat} (at3 : i ≤ 3) (le3 : j ≤ 3) (other : j ≠ i) : (b.set i v).get j = b.get j := by
  interval_cases i <;> interval_cases j <;> simp [PerBand.get, PerBand.set] at other ⊢

theorem PerBand.get_mem (b : PerBand α) (i : Nat) : b.get i ∈ b.toList := by
  match i with
  | 0 | 1 | 2 | _ + 3 => simp [PerBand.get, PerBand.toList]

theorem PerBand.forall_set {P : α → Prop} (all : ∀ x ∈ b.toList, P x) {v : α} (holds : P v) (i : Nat) :
    ∀ x ∈ (b.set i v).toList, P x := by
  simp only [PerBand.toList, List.forall_mem_cons] at all ⊢
  obtain ⟨h0, h1, h2, h3, none⟩ := all
  match i with
  | 0 => exact ⟨holds, h1, h2, h3, none⟩
  | 1 => exact ⟨h0, holds, h2, h3, none⟩
  | 2 => exact ⟨h0, h1, holds, h3, none⟩
  | _ + 3 => exact ⟨h0, h1, h2, holds, none⟩

end Bands

/-- The sum of the four band totals' numbers. -/
def bandValue (b : PerBand Digits) : Nat := totalValue b.band0 + totalValue b.band1 + totalValue b.band2 + totalValue b.band3

/-- The bands' sum is a total, of the sum of their numbers modulo 10^12 (R139, R147). -/
theorem bandSum_law {b : PerBand Digits} (law : ∀ d ∈ b.toList, TotalLaw d) :
    TotalLaw (bandSum b) ∧ totalValue (bandSum b) = bandValue b % 10 ^ 12 := by
  simp only [PerBand.toList, List.forall_mem_cons] at law
  obtain ⟨h0, h1, h2, h3, -⟩ := law
  obtain ⟨two, value2⟩ := sumTotals_law h0 h1
  obtain ⟨three, value3⟩ := sumTotals_law two h2
  obtain ⟨four, value4⟩ := sumTotals_law three h3
  exact ⟨four, by rw [bandSum, bandValue]; omega⟩

theorem bandValue_set (b : PerBand Digits) (i : Nat) (d : Digits) :
    bandValue (b.set i d) + totalValue (b.get i) = bandValue b + totalValue d := by
  match i with
  | 0 | 1 | 2 | _ + 3 =>
    simp only [bandValue, PerBand.set, PerBand.get]
    omega

/-- An increment that joins one band joins the bands' sum. -/
theorem bandSum_set_addTotal {b : PerBand Digits} (law : ∀ d ∈ b.toList, TotalLaw d) (i n : Nat) :
    bandSum (b.set i (addTotal (b.get i) n)) = addTotal (bandSum b) n := by
  obtain ⟨joined, value⟩ := addTotal_law (law _ (b.get_mem i)) n
  obtain ⟨before, sum⟩ := bandSum_law law
  obtain ⟨after, sum'⟩ := bandSum_law (PerBand.forall_set law joined i)
  obtain ⟨added, total⟩ := addTotal_law before n
  have moved := bandValue_set b i (addTotal (b.get i) n)
  exact after.eq_of_totalValue added (by omega)

/-! ## The residue path (R143, R144) -/

section Path

variable {m : EnergyMeter} (band w : Nat)

/-- What stays of a figure below a kilowatt-hour. -/
@[simp] theorem residuePath_residue (m : EnergyMeter) : (residuePath band w m).residue = (m.residue + w) % 1000 := by
  simp only [residuePath, energyIncrement]
  omega

/-- A figure through the residue path keeps a meter's law: what joins the band joins the grand total. -/
theorem residuePath_law (law : EnergyLaw m) : EnergyLaw (residuePath band w m) := by
  obtain ⟨bands, grand, sum, -, waiting⟩ := law
  refine ⟨PerBand.forall_set bands (addTotal_law (bands _ (m.bands.get_mem band)) _).1 band, (addTotal_law grand _).1, ?_, ?_, waiting⟩
  · simp only [residuePath, bandSum_set_addTotal bands, sum]
  · rw [residuePath_residue]
    omega

/-- A figure waits in its band's accumulator (R146). -/
theorem collect_law (law : EnergyLaw m) : EnergyLaw (collect band w m) := by
  obtain ⟨bands, grand, sum, residue, waiting⟩ := law
  exact ⟨bands, grand, sum, residue, PerBand.forall_set waiting (Nat.min_le_left _ _) band⟩

/-- A band's accumulator folded and emptied (R149). -/
theorem foldBand_law (law : EnergyLaw m) : EnergyLaw (foldBand m band) := by
  obtain ⟨bands, grand, sum, residue, waiting⟩ := residuePath_law band (m.waiting.get band) law
  exact ⟨bands, grand, sum, residue, PerBand.forall_set waiting (Nat.zero_le _) band⟩

end Path

/-! ## The fold (R149) -/

theorem foldEnergy_law {m : EnergyMeter} (law : EnergyLaw m) : EnergyLaw (foldEnergy m) :=
  foldBand_law 3 (foldBand_law 2 (foldBand_law 1 (foldBand_law 0 law)))

/-- The kilowatt-hours that each accumulator makes as they are folded in turn into a meter of residue 0. -/
def foldIncrements (w : PerBand Nat) : PerBand Nat :=
  { band0 := w.band0 / 1000, band1 := (w.band0 % 1000 + w.band1) / 1000
    band2 := ((w.band0 % 1000 + w.band1) % 1000 + w.band2) / 1000
    band3 := (((w.band0 % 1000 + w.band1) % 1000 + w.band2) % 1000 + w.band3) / 1000 }

/-- Together they are the whole kilowatt-hours of the four accumulators. -/
theorem foldIncrements_sum (m : EnergyMeter) :
    (foldIncrements m.waiting).band0 + (foldIncrements m.waiting).band1 + (foldIncrements m.waiting).band2
      + (foldIncrements m.waiting).band3 = foldedKwh m := by
  simp only [foldIncrements, foldedKwh]
  omega

/-- One accumulator folded, with its remainder. -/
theorem foldBand_eq (m : EnergyMeter) (band : Nat) :
    foldBand m band = { m with
      bands := m.bands.set band (addTotal (m.bands.get band) ((m.residue + m.waiting.get band) / 1000))
      grand := addTotal m.grand ((m.residue + m.waiting.get band) / 1000)
      residue := (m.residue + m.waiting.get band) % 1000
      wrapped := m.wrapped || wraps (m.bands.get band) ((m.residue + m.waiting.get band) / 1000)
        || wraps m.grand ((m.residue + m.waiting.get band) / 1000)
      waiting := m.waiting.set band 0 } := by
  rw [← residuePath_residue band]
  rfl

/-- A meter of residue 0 and WRAPPED clear after the fold: each band with its own kilowatt-hours, the grand total with those of all. -/
theorem foldEnergy_eq {m : EnergyMeter} (grand : TotalLaw m.grand) (small : foldedKwh m < 10 ^ 12) (empty : m.residue = 0)
    (clear : m.wrapped = false) :
    foldEnergy m = { m with
      bands := ⟨addTotal m.bands.band0 (foldIncrements m.waiting).band0, addTotal m.bands.band1 (foldIncrements m.waiting).band1,
        addTotal m.bands.band2 (foldIncrements m.waiting).band2, addTotal m.bands.band3 (foldIncrements m.waiting).band3⟩
      grand := addTotal m.grand (foldedKwh m)
      residue := (m.waiting.band0 + m.waiting.band1 + m.waiting.band2 + m.waiting.band3) % 1000
      wrapped := wraps m.bands.band0 (foldIncrements m.waiting).band0 || wraps m.bands.band1 (foldIncrements m.waiting).band1
        || wraps m.bands.band2 (foldIncrements m.waiting).band2 || wraps m.bands.band3 (foldIncrements m.waiting).band3
        || wraps m.grand (foldedKwh m)
      waiting := ⟨0, 0, 0, 0⟩ } := by
  rw [← foldIncrements_sum] at small ⊢
  rw [← wraps_addTotal grand small, ← wraps_addTotal grand (by omega), ← wraps_addTotal grand (by omega), ← addTotal_addTotal grand,
    ← addTotal_addTotal grand, ← addTotal_addTotal grand]
  simp only [foldEnergy, foldBand_eq, PerBand.set, PerBand.get, empty, clear, foldIncrements, Nat.zero_add, Nat.mod_add_mod,
    Bool.false_or]
  congr 1
  ac_rfl

end Sys2Proof.Machine
end

section
/-! SUPPORT and CERTIFICATE. Every step keeps the meters' law: a record or a mass booked, the totals loaded and folded, the rows that
leave the meters, then every row (R139, R140, R143 to R149). -/

namespace Sys2Proof.Machine

/-! ## Arrivals (R142, R145, R146) -/

section Booked

variable {s : State} (exported heat kg : Nat)

/-- A record booked while the totals are set (R142, R143). -/
theorem State.bookEnergy_running (running : s.fmu.state = .running) :
    s.bookEnergy exported heat = (s.setFmu { s.fmu with
      exported := { residuePath s.band exported s.fmu.exported with last := some s.additionPlace }
      heat := { residuePath s.band heat s.fmu.heat with last := some s.additionPlace } }).postIf
        (residueWraps s.band exported s.fmu.exported || residueWraps s.band heat s.fmu.heat) .meterWrap .pd := by
  simp only [State.bookEnergy, running]

/-- A record collected while they are not (R146). -/
theorem State.bookEnergy_unset (unset : s.fmu.state = .unset) :
    s.bookEnergy exported heat = s.setFmu { s.fmu with
      exported := { collect s.band exported s.fmu.exported with last := some s.additionPlace }
      heat := { collect s.band heat s.fmu.heat with last := some s.additionPlace }
      pendingSat := s.fmu.pendingSat || collectSaturates s.band exported s.fmu.exported || collectSaturates s.band heat s.fmu.heat } := by
  simp only [State.bookEnergy, unset]

/-- A record booked or collected keeps the meters' law. -/
theorem bookEnergy_law (law : MeterLaw s.fmu) : MeterLaw (s.bookEnergy exported heat).fmu := by
  obtain ⟨exportedLaw, heatLaw, waste, massWaits, zeros, empty⟩ := law
  rcases state : s.fmu.state with _ | _
  · rw [State.bookEnergy_unset _ _ state]
    exact ⟨collect_law _ _ exportedLaw, collect_law _ _ heatLaw, waste, massWaits, zeros,
      fun running => absurd (state.symm.trans running) nofun⟩
  · rw [State.bookEnergy_running _ _ state]
    simp only [State.postIf_frame, State.setFmu_fmu]
    exact ⟨residuePath_law _ _ exportedLaw, residuePath_law _ _ heatLaw, waste, massWaits,
      fun unset => absurd (state.symm.trans unset) nofun, empty⟩

/-- So does a mass. -/
theorem bookWaste_law (law : MeterLaw s.fmu) : MeterLaw (s.bookWaste kg).fmu := by
  obtain ⟨exportedLaw, heatLaw, waste, massWaits, zeros, empty⟩ := law
  rcases state : s.fmu.state with _ | _
  · rw [State.bookWaste_unset _ state]
    exact ⟨exportedLaw, heatLaw, waste, Nat.min_le_left _ _, zeros, fun running => absurd (state.symm.trans running) nofun⟩
  · rw [State.bookWaste_running _ state]
    simp only [State.postIf_frame, State.setFmu_fmu]
    exact ⟨exportedLaw, heatLaw, (addTotal_law waste _).1, massWaits, fun unset => absurd (state.symm.trans unset) nofun, empty⟩

end Booked

/-! ## The totals loaded (R147 to R149) -/

/-- Totals that the meters take: digits, with each meter's bands summing to its grand total (R147). -/
structure TotalsLaw (t : MeterTotals) : Prop where
  exported      : ∀ d ∈ t.exported.toList, TotalLaw d
  exportedGrand : TotalLaw t.exportedGrand
  exportedSum   : bandSum t.exported = t.exportedGrand
  heat          : ∀ d ∈ t.heat.toList, TotalLaw d
  heatGrand     : TotalLaw t.heatGrand
  heatSum       : bandSum t.heat = t.heatGrand
  waste         : TotalLaw t.waste

theorem totalsZero_law : TotalsLaw totalsZero := by
  constructor <;> decide

theorem totalsOf_law {a : MeterArgs} (digits : ∀ d ∈ meterTotals a, Decimal d)
    (exportedSum : bandSum (totalsOf a).exported = (totalsOf a).exportedGrand)
    (heatSum : bandSum (totalsOf a).heat = (totalsOf a).heatGrand) : TotalsLaw (totalsOf a) := by
  simp only [meterTotals, List.forall_mem_cons] at digits
  obtain ⟨e0, e1, e2, e3, e, h0, h1, h2, h3, h, w, -⟩ := digits
  refine ⟨?_, ⟨rfl, e⟩, exportedSum, ?_, ⟨rfl, h⟩, heatSum, ⟨rfl, w⟩⟩
  · simp only [totalsOf, PerBand.toList, List.forall_mem_cons]
    exact ⟨⟨rfl, e0⟩, ⟨rfl, e1⟩, ⟨rfl, e2⟩, ⟨rfl, e3⟩, nofun⟩
  · simp only [totalsOf, PerBand.toList, List.forall_mem_cons]
    exact ⟨⟨rfl, h0⟩, ⟨rfl, h1⟩, ⟨rfl, h2⟩, ⟨rfl, h3⟩, nofun⟩

/-- Totals loaded into a meter whose accumulators are in range. -/
theorem loadEnergy_law {bands : PerBand Digits} {grand : Digits} {m : EnergyMeter} (digits : ∀ d ∈ bands.toList, TotalLaw d)
    (total : TotalLaw grand) (sum : bandSum bands = grand) (waiting : ∀ w ∈ m.waiting.toList, w ≤ waitTop) :
    EnergyLaw (loadEnergy bands grand m) :=
  ⟨digits, total, sum, Nat.zero_le _, waiting⟩

/-- Totals loaded and folded make the meters' law. -/
theorem loadMeters_law {t : MeterTotals} {m : Meters} (totals : TotalsLaw t) (law : MeterLaw m) : MeterLaw (loadMeters t m) := by
  obtain ⟨⟨-, -, -, -, exportedWaits⟩, ⟨-, -, -, -, heatWaits⟩, -, -, -, -⟩ := law
  exact ⟨foldEnergy_law (loadEnergy_law totals.exported totals.exportedGrand totals.exportedSum exportedWaits),
    foldEnergy_law (loadEnergy_law totals.heat totals.heatGrand totals.heatSum heatWaits), (addTotal_law totals.waste _).1, Nat.zero_le _,
    nofun, fun _ => ⟨rfl, rfl, rfl⟩⟩

@[simp] theorem State.loadTotals_fmu (t : MeterTotals) (s : State) : (s.loadTotals t).fmu = loadMeters t s.fmu := by
  simp [State.loadTotals]

theorem digitsOk_iff (d : Digits) : digitsOk d = true ↔ Decimal d := by simp [digitsOk]

/-- No total has a bad digit where every digit is decimal (R147 check 3). -/
theorem firstBadDigit_none_iff {totals : List Digits} {k : Nat} : firstBadDigit totals k = none ↔ ∀ d ∈ totals, Decimal d := by
  induction totals generalizing k with
  | nil => simp [firstBadDigit]
  | cons d ds ih =>
    rw [firstBadDigit, List.forall_mem_cons, ← digitsOk_iff]
    split
    · next ok => simp only [ih, ok, true_and]
    · next bad => simp [bad]

/-- No meter is mismatched where the bands of both sum to the totals given (R147 check 4). -/
theorem mismatchOf_none_iff (t : MeterTotals) :
    mismatchOf t = none ↔ bandSum t.exported = t.exportedGrand ∧ bandSum t.heat = t.heatGrand := by
  unfold mismatchOf
  split
  · next differ => simp [differ]
  · next agree =>
    split
    · next differ => simp [differ]
    · next agree' => simp [not_not.1 agree, not_not.1 agree']

theorem doRestoreMeters_law (p : Port) (a : MeterArgs) {s : State} (law : MeterLaw s.fmu) : MeterLaw (s.doRestoreMeters p a).1.fmu := by
  unfold State.doRestoreMeters
  split
  · exact law
  split
  · exact law
  split
  · exact law
  · exact law
  · next decimal agree =>
    obtain ⟨exportedSum, heatSum⟩ := (mismatchOf_none_iff _).1 agree
    rw [State.loadTotals_fmu]
    exact loadMeters_law (totalsOf_law (firstBadDigit_none_iff.1 decimal) exportedSum heatSum) law

theorem doFreshMeters_law (p : Port) {s : State} (law : MeterLaw s.fmu) : MeterLaw (s.doFreshMeters p).1.fmu := by
  unfold State.doFreshMeters
  split
  · exact law
  split
  · exact law
  · rw [State.loadTotals_fmu]
    exact loadMeters_law totalsZero_law law

theorem doPostEnergy_law (p : Port) (exported heat : BitVec 32) {s : State} (law : MeterLaw s.fmu) :
    MeterLaw (s.doPostEnergy p exported heat).1.fmu := by
  unfold State.doPostEnergy
  split
  · exact law
  · exact bookEnergy_law _ _ law

/-- A ram's stroke books its mass; every other arrival leaves the meters. -/
theorem arriveEos_law (ch : StrokeChannel) {s : State} (law : MeterLaw s.fmu) : MeterLaw (s.arriveEos ch).fmu := by
  by_cases stroke : (s.sta.channels.get ch).state = .stroke
  · rcases ram : isRam ch
    · rw [State.arriveEos_grate stroke ram]
      simpa only [State.putRecord_frame] using law
    · rw [State.arriveEos_ram stroke ram]
      exact bookWaste_law _ (by simpa only [State.putRecord_frame] using law)
  · rwa [State.arriveEos_ignored stroke]

/-! ## Rows that leave the meters -/

section Quiet

variable (s : State) (p : Port)

theorem secondEvent_fmu : s.secondEvent.fmu = s.fmu := by
  obtain ⟨k, free, -, -, second⟩ := s.secondEvent_eq
  simp [second]

theorem refckEdge_fmu : s.refckEdge.fmu = s.fmu := by
  unfold State.refckEdge
  split
  · rfl
  split
  · rfl
  · exact secondEvent_fmu s

theorem pinReset_fmu : s.pinReset.fmu = s.fmu := by
  unfold State.pinReset
  split
  · rfl
  · simp [State.pinResetBlocks]

theorem releaseReset_fmu : s.releaseReset.fmu = s.fmu := by
  unfold State.releaseReset
  split <;> rfl

theorem doSetTime_fmu (day : BitVec 16) (hour minute second : BitVec 8) (divisor : BitVec 24) (offset : BitVec 8) :
    (s.doSetTime p day hour minute second divisor offset).1.fmu = s.fmu := by
  unfold State.doSetTime
  (repeat' split) <;> rfl

theorem doStartClock_fmu : (s.doStartClock p).1.fmu = s.fmu := by
  unfold State.doStartClock
  (repeat' split) <;> simp

theorem doStopClock_fmu : (s.doStopClock p).1.fmu = s.fmu := by
  unfold State.doStopClock
  (repeat' split) <;> simp [State.stopRunning]

theorem stepClock_fmu (shift : Int) : (s.stepClock shift).fmu = s.fmu := by
  by_cases forward : 0 < shift
  · simp [State.stepClock_forward s forward]
  · rw [State.stepClock_backward s forward]
    rfl

theorem doAdjustClock_fmu (shift : BitVec 8) : (s.doAdjustClock p shift).1.fmu = s.fmu := by
  unfold State.doAdjustClock
  (repeat' split) <;> simp [stepClock_fmu]

theorem doSetLead_fmu (lead : BitVec 16) : (s.doSetLead p lead).1.fmu = s.fmu := by
  unfold State.doSetLead
  split <;> rfl

theorem doPostSamples_fmu (o2 : BitVec 16) (o2Status : BitVec 8) (entries : List SampleEntry) :
    (s.doPostSamples p o2 o2Status entries).1.fmu = s.fmu := by
  have set (x : SampleSet) : (s.doSampleSet x).1.fmu = s.fmu := by
    unfold State.doSampleSet
    (repeat' split) <;> simp
  unfold State.doPostSamples
  (repeat' split) <;> simp [set]

theorem doSetReagents_fmu (a b c : ReagentArgs) : (s.doSetReagents p a b c).1.fmu = s.fmu := by
  unfold State.doSetReagents
  (repeat' split) <;> simp

theorem doClearHistory_fmu : (s.doClearHistory p).1.fmu = s.fmu := by
  unfold State.doClearHistory
  (repeat' split) <;> rfl

theorem doSetBoilerLimit_fmu (limit : BitVec 16) : (s.doSetBoilerLimit p limit).1.fmu = s.fmu := by
  unfold State.doSetBoilerLimit
  split <;> simp

theorem doSetLanes_fmu (split massA massB : BitVec 16) : (s.doSetLanes p split massA massB).1.fmu = s.fmu := by
  unfold State.doSetLanes
  split <;> simp

theorem doPostSteam_fmu (flow : BitVec 16) : (s.doPostSteam p flow).1.fmu = s.fmu := by
  unfold State.doPostSteam
  split <;> simp

theorem doSetAuxDemand_fmu (demand : BitVec 16) : (s.doSetAuxDemand p demand).1.fmu = s.fmu := by
  unfold State.doSetAuxDemand
  split <;> simp

theorem doSetConsumers_fmu (turbine extraction : BitVec 8) : (s.doSetConsumers p turbine extraction).1.fmu = s.fmu := by
  unfold State.doSetConsumers
  (repeat' split) <;> simp

theorem doPostOrder_fmu (args : OrderArgs) : (s.doPostOrder p args).1.fmu = s.fmu := by
  have placed (o : Order) (clamped : Bool) : (s.placeOrder o clamped).1.fmu = s.fmu := by
    dsimp only [State.placeOrder]
    (repeat' split) <;> simp
  unfold State.doPostOrder
  (repeat' split) <;> simp [placed]

theorem doCancelOrders_fmu (tag : BitVec 16) : (s.doCancelOrders p tag).1.fmu = s.fmu := by
  unfold State.doCancelOrders
  split <;> rfl

theorem refuseStore_fmu (status : Status) : (s.refuseStore p status).1.fmu = s.fmu := by
  simp [State.refuseStore]

theorem doProgramSection_fmu (number : BitVec 8) (image : List Byte) : (s.doProgramSection p number image).1.fmu = s.fmu := by
  have programmed (sec : PermitSection) : (s.programSection p sec image).1.fmu = s.fmu := by
    unfold State.programSection
    (repeat' split) <;> simp [refuseStore_fmu]
  unfold State.doProgramSection
  split <;> simp [refuseStore_fmu, programmed]

theorem doLockSection_fmu (number : BitVec 8) : (s.doLockSection p number).1.fmu = s.fmu := by
  have locked (sec : PermitSection) : (s.lockSection p sec).1.fmu = s.fmu := by
    unfold State.lockSection
    (repeat' split) <;> simp [refuseStore_fmu]
  unfold State.doLockSection
  split <;> simp [refuseStore_fmu, locked]

end Quiet

/-! ## The statement -/

/-- A change of state keeps the meters' law. -/
def MetersKept (s t : State) : Prop := MeterLaw s.fmu → MeterLaw t.fmu

theorem MetersKept.of_fmu {s t : State} (fmu : t.fmu = s.fmu) : MetersKept s t := fun law => fmu ▸ law

/-- The events of the mode controller and of the stroke channels leave the meters. -/
theorem metersKept_byController : KeptByController MetersKept where
  refl _ := id
  trans h k := k ∘ h
  ports _ _ := id
  items _ := id
  change m s := .of_fmu (by simp)
  records _ _ _ := id
  cleaning _ _ := id
  draw _ := id

theorem rowWork_metersKept (i : Instr) (s : State) : MetersKept s (rowWork i s) := by
  have controller := metersKept_byController
  cases i with
  | powerOn => exact fun _ => (by decide : MeterLaw Meters.reset)
  | pinReset => exact .of_fmu (pinReset_fmu s)
  | pinResetRelease => exact .of_fmu (releaseReset_fmu s)
  | refckEdge => exact .of_fmu (refckEdge_fmu s)
  | secondEvent =>
    dsimp only [rowWork]
    split
    · exact .of_fmu (secondEvent_fmu s)
    · exact id
  | strokeUnitTick => exact controller.strokeUnit s
  | periodExpiry ch => exact controller.expirePeriod ch s
  | strokeLimitExpiry ch => exact controller.expireLimit ch s
  | eosArrival ch => exact arriveEos_law ch
  | programmingCompletion => exact .of_fmu (by simp [rowWork])
  | lockCompletion => exact .of_fmu (by simp [rowWork])
  | setTime => exact .of_fmu (doSetTime_fmu s _ _ _ _ _ _ _)
  | startClock => exact .of_fmu (doStartClock_fmu s _)
  | stopClock => exact .of_fmu (doStopClock_fmu s _)
  | adjustClock => exact .of_fmu (doAdjustClock_fmu s _ _)
  | setLead => exact .of_fmu (doSetLead_fmu s _ _)
  | start => exact controller.doStart _ s
  | feed => exact controller.doFeed _ s
  | stop => exact controller.doStop s
  | trip => exact controller.doTrip _ _ s
  | clearTrip => exact controller.doClearTrip _ s
  | postTemperature => exact controller.doPostTemperature _ _ s
  | postSamples => exact .of_fmu (doPostSamples_fmu s _ _ _ _)
  | setCleaning => exact controller.doSetCleaning _ _ s
  | setReagents => exact .of_fmu (doSetReagents_fmu s _ _ _ _)
  | clearHistory => exact .of_fmu (doClearHistory_fmu s _)
  | setBoilerLimit => exact .of_fmu (doSetBoilerLimit_fmu s _ _)
  | setChannel => exact controller.doSetChannel _ _ _ _ _ s
  | setLanes => exact .of_fmu (doSetLanes_fmu s _ _ _ _)
  | clearJam => exact controller.doClearJam _ _ s
  | postSteam => exact .of_fmu (doPostSteam_fmu s _ _)
  | setAuxDemand => exact .of_fmu (doSetAuxDemand_fmu s _ _)
  | setConsumers => exact .of_fmu (doSetConsumers_fmu s _ _ _)
  | postOrder => exact .of_fmu (doPostOrder_fmu s _ _)
  | cancelOrders => exact .of_fmu (doCancelOrders_fmu s _ _)
  | postEnergy => exact doPostEnergy_law _ _ _
  | restoreMeters => exact doRestoreMeters_law _ _
  | freshMeters => exact doFreshMeters_law _
  | programSection => exact .of_fmu (doProgramSection_fmu s _ _ _)
  | lockSection => exact .of_fmu (doLockSection_fmu s _ _)
  | _ => exact id

/-- The law is kept by rows: the ports and the queue of rows do not matter to it. -/
theorem metersKept_byRows : KeptByRows MetersKept :=
  ⟨fun _ => id, fun h k => k ∘ h, fun _ _ => id, fun _ _ => id, rowWork_metersKept⟩

/-- Settles O55: each row's own work keeps the meters' law, so every step does; the bands' sum by its number. -/
theorem meterLawKept : Obligations.MeterLawKept := by
  unfold Obligations.MeterLawKept
  exact ⟨fun _ _ law h => metersKept_byRows.step h law, fun _ => bandSum_law⟩

end Sys2Proof.Machine
end

section
/-! SUPPORT and CERTIFICATE. POST_ENERGY: the band in force, a figure booked by its number, and the row in RUNNING and in UNSET (R141 to
R146). -/

namespace Sys2Proof.Machine

/-! ## The band in force (R141) -/

section Band

variable {s : State}

theorem State.band_forced (forced : s.pst.workingTariff = none ∨ s.clock.latched.run = .stopped) : s.band = 0 := by
  unfold State.band
  rcases forced with none | stopped
  · rw [none]
  · split
    · exact if_pos stopped
    · rfl

theorem slotOf_eq (c : LatchedCopy) : slotOf c = c.time.hour * 2 + (if 30 ≤ c.time.minute then 1 else 0) := rfl

/-- The table of a latched copy's day: the holiday table on a day of the holiday list and at a week's end. -/
theorem Tariff.table_dayTypeOf (tariff : Tariff) (c : LatchedCopy) :
    tariff.table (dayTypeOf tariff.holidayList c) =
      if c.time.day ∈ tariff.holidayDays.take tariff.holidayCount ∨ 5 ≤ c.weekday ∧ c.weekday ≤ 6
        then tariff.holiday else tariff.working := by
  have weekend : c.weekday = 5 ∨ c.weekday = 6 ↔ 5 ≤ c.weekday ∧ c.weekday ≤ 6 := by omega
  simp only [Tariff.table, dayTypeOf, Tariff.holidayList, Bool.or_eq_true, List.contains_iff_mem, beq_iff_eq, or_assoc, weekend]
  split <;> rfl

theorem State.band_running {tariff : Tariff} (copy : s.pst.workingTariff = some tariff) (running : s.clock.latched.run = .running) :
    s.band = (tariff.table (dayTypeOf tariff.holidayList s.clock.latched)).getD (slotOf s.clock.latched) 0 := by
  simp [State.band, copy, running]

end Band

/-! ## A figure booked (R143, R144) -/

section Figure

variable {m : EnergyMeter} {band w : Nat}

/-- A figure of 32 bits makes fewer than 10^12 kilowatt-hours. -/
theorem energyIncrement_small (law : EnergyLaw m) (word : w < 2 ^ 32) : energyIncrement w m < 10 ^ 12 := by
  obtain ⟨-, -, -, residue, -⟩ := law
  rw [energyIncrement]
  omega

/-- WRAPPED after a figure: where it was set, and where a total passes 10^12. -/
theorem residuePath_wrapped (law : EnergyLaw m) (word : w < 2 ^ 32) :
    (residuePath band w m).wrapped = (m.wrapped || decide (10 ^ 12 ≤ totalValue m.grand + energyIncrement w m)
      || decide (10 ^ 12 ≤ totalValue (m.bands.get band) + energyIncrement w m)) := by
  have small := energyIncrement_small law word
  obtain ⟨bands, grand, -⟩ := law
  rw [← wraps_eq grand small, ← wraps_eq (bands _ (m.bands.get_mem band)) small]
  exact Bool.or_right_comm _ _ _

/-- The flag rises only where a total wraps (R144). -/
theorem residueWraps_of_rises (after : (residuePath band w m).wrapped = true) (before : m.wrapped = false) :
    residueWraps band w m = true := by
  simpa only [residuePath, residueWraps, before, Bool.false_or] using after

end Figure

/-! ## The row -/

section Row

variable {exported heat : BitVec 32} {s : State}

/-- A notice posted leaves the slots. -/
@[simp] theorem State.postIf_slot (c : Bool) (n : Notice) (p q : Port) (s : State) : ((s.postIf c n p).port q).slot = (s.port q).slot :=
  ((PortsGrow.refl s).postIf c n p).slot q

theorem energyReply_running {m : Meters} (running : m.state = .running) (band e h : Nat) :
    energyReply band e h m = be 1 band ++ be 1 1 ++ be 3 ((m.exported.residue + e) / 1000) ++ be 2 ((m.exported.residue + e) % 1000)
      ++ be 3 ((m.heat.residue + h) / 1000) ++ be 2 ((m.heat.residue + h) % 1000) := by
  simp [energyReply, running, MeterState.code, energyIncrement]

theorem energyReply_unset {m : Meters} (unset : m.state = .unset) (band e h : Nat) :
    energyReply band e h m = be 1 band ++ be 1 0 := by
  simp [energyReply, unset, MeterState.code]

/-- The reply to a record, by the meters before it. -/
abbrev energyAnswer (exported heat : Nat) (s : State) : Reply := ⟨.ok, energyReply s.band exported heat s.fmu⟩

/-- POST_ENERGY on a ready port: the record booked, beside its reply. -/
theorem exec_postEnergy (ready : Ready .pd s) : exec (.postEnergy .pd exported heat) s =
    .next (((s.beginTake .pd).bookEnergy exported.toNat heat.toNat).answer .pd (energyAnswer exported.toNat heat.toNat s)) :=
  exec_ready rfl ready rfl rfl

theorem exec_postEnergy_running (ready : Ready .pd s) (running : s.fmu.state = .running) : exec (.postEnergy .pd exported heat) s =
    .next (((s.replied .pd (energyAnswer exported.toNat heat.toNat s)).setFmu { s.fmu with
      exported := { residuePath s.band exported.toNat s.fmu.exported with last := some s.additionPlace }
      heat := { residuePath s.band heat.toNat s.fmu.heat with last := some s.additionPlace } }).postIf
        (residueWraps s.band exported.toNat s.fmu.exported || residueWraps s.band heat.toNat s.fmu.heat) .meterWrap .pd) := by
  rw [exec_postEnergy ready, State.bookEnergy_running _ _ (s := s.beginTake .pd) (by simpa using running), State.answer_postIf,
    State.answer_setFmu, State.answer_beginTake]
  rfl

theorem exec_postEnergy_unset (ready : Ready .pd s) (unset : s.fmu.state = .unset) : exec (.postEnergy .pd exported heat) s =
    .next ((s.replied .pd (energyAnswer exported.toNat heat.toNat s)).setFmu { s.fmu with
      exported := { collect s.band exported.toNat s.fmu.exported with last := some s.additionPlace }
      heat := { collect s.band heat.toNat s.fmu.heat with last := some s.additionPlace }
      pendingSat := s.fmu.pendingSat || collectSaturates s.band exported.toNat s.fmu.exported
        || collectSaturates s.band heat.toNat s.fmu.heat }) := by
  rw [exec_postEnergy ready, State.bookEnergy_unset _ _ (s := s.beginTake .pd) (by simpa using unset), State.answer_setFmu,
    State.answer_beginTake]
  rfl

end Row

/-- Settles O53: the row by the meters' state, each figure through the residue path by its number, and the band by the tariff. -/
theorem energyIsBookedInItsBand : Obligations.EnergyIsBookedInItsBand := by
  unfold Obligations.EnergyIsBookedInItsBand
  intro exported heat s ready law place booked waits
  obtain ⟨exportedLaw, heatLaw, -⟩ := law
  have path {w : Nat} {m : EnergyMeter} (law : EnergyLaw m) (inRange : s.band ≤ 3) (word : w < 2 ^ 32) :
      booked w m { residuePath s.band w m with last := some s.additionPlace } := by
    have ⟨bands, grand, _⟩ := law
    obtain ⟨joined, value⟩ := addTotal_law (bands _ (m.bands.get_mem s.band)) (energyIncrement w m)
    refine ⟨residuePath_law s.band w law, residuePath_residue s.band w m, rfl, rfl, (addTotal_law grand (energyIncrement w m)).2, ?_,
      fun b le3 other => PerBand.get_set_ne _ inRange le3 other, residuePath_wrapped law word⟩
    simpa only [residuePath, PerBand.get_set_same, energyIncrement] using value
  refine ⟨fun inRange running => ⟨_, exec_postEnergy_running ready running, ?reply, ?_, ?_, ?notice, ?_⟩, fun unset => ?_,
    State.band_forced, fun tariff copy running => ?_⟩
  case reply => simp [energyAnswer, energyReply_running running]
  case notice =>
    simp only [State.holds_postIf, State.postIf_frame, State.setFmu_fmu, Bool.or_eq_true]
    rintro (⟨after, before⟩ | ⟨after, before⟩)
    · exact .inr (.inl (residueWraps_of_rises after before))
    · exact .inr (.inr (residueWraps_of_rises after before))
  · simpa only [State.postIf_frame, State.setFmu_fmu] using path exportedLaw inRange exported.isLt
  · simpa only [State.postIf_frame, State.setFmu_fmu] using path heatLaw inRange heat.isLt
  · simp [running]
  · rw [exec_postEnergy_unset ready unset, energyAnswer, energyReply_unset unset]
    rfl
  · rw [State.band_running copy running, Tariff.table_dayTypeOf, slotOf_eq]

end Sys2Proof.Machine
end

section
/-! SUPPORT and CERTIFICATE. RESTORE_METERS and FRESH_METERS: the checks in their order, the load and the fold by number, and the two
rows (R144, R147 to R149). -/

namespace Sys2Proof.Machine

/-! ## The checks (R147) -/

theorem firstBadDigit_eq_findIdx (totals : List Digits) (k : Nat) :
    firstBadDigit totals k = (totals.findIdx? fun d => !digitsOk d).map (· + k) := by
  induction totals generalizing k with
  | nil => rfl
  | cons d ds ih =>
    rw [firstBadDigit, ih, List.findIdx?_cons]
    by_cases ok : digitsOk d = true
    · simp [ok, Function.comp_def, Nat.add_comm, Nat.add_left_comm]
    · simp [ok]

/-- The first total with a bad digit: its own has one, those before it have none. -/
theorem firstBadDigit_eq_some_iff (totals : List Digits) (i : Nat) :
    firstBadDigit totals 0 = some i ↔ i < totals.length ∧ (∃ x ∈ totals.getD i [], 9 < x)
      ∧ ∀ j, j < i → ∀ x ∈ totals.getD j [], x ≤ 9 := by
  have bad (d : Digits) : (!digitsOk d) = true ↔ ∃ x ∈ d, 9 < x := by simp [digitsOk]
  rw [firstBadDigit_eq_findIdx]
  simp only [Nat.add_zero, Option.map_id', List.findIdx?_eq_some_iff_getElem, bad, not_exists, not_and, Nat.not_lt]
  constructor
  · rintro ⟨inside, own, before⟩
    refine ⟨inside, by rwa [List.getD_eq_getElem _ _ inside], fun j less => ?_⟩
    rw [List.getD_eq_getElem _ _ (less.trans inside)]
    exact before j less
  · rintro ⟨inside, own, before⟩
    refine ⟨inside, by rwa [List.getD_eq_getElem _ _ inside] at own, fun j less => ?_⟩
    have earlier := before j less
    rwa [List.getD_eq_getElem _ _ (less.trans inside)] at earlier

theorem mismatchOf_exported {t : MeterTotals} (differ : bandSum t.exported ≠ t.exportedGrand) : mismatchOf t = some 0 := if_pos differ

theorem mismatchOf_heat {t : MeterTotals} (agree : bandSum t.exported = t.exportedGrand) (differ : bandSum t.heat ≠ t.heatGrand) :
    mismatchOf t = some 1 := by
  rw [mismatchOf, if_neg (not_not.2 agree), if_pos differ]

/-! ## The load and the fold (R149) -/

section Load

variable {m : EnergyMeter} {bands : PerBand Digits} {total : Digits}

theorem wraps_iff {d : Digits} (law : TotalLaw d) {n : Nat} (small : n < 10 ^ 12) : wraps d n = true ↔ 10 ^ 12 ≤ totalValue d + n := by
  rw [wraps_eq law small, decide_eq_true_iff]

theorem foldedKwh_small (waiting : ∀ w ∈ m.waiting.toList, w ≤ waitTop) : foldedKwh m < 10 ^ 12 := by
  simp only [PerBand.toList, List.forall_mem_cons, waitTop] at waiting
  rw [foldedKwh]
  omega

/-- The totals loaded into a meter and its accumulators folded, by number: what each band and the grand total take, and the wraps. -/
theorem foldEnergy_loaded (digits : ∀ d ∈ bands.toList, TotalLaw d) (grand : TotalLaw total)
    (waiting : ∀ w ∈ m.waiting.toList, w ≤ waitTop) :
    let n := foldEnergy (loadEnergy bands total m)
    let k := foldIncrements m.waiting
    n.residue = (m.waiting.band0 + m.waiting.band1 + m.waiting.band2 + m.waiting.band3) % 1000 ∧ n.last = m.last
      ∧ totalValue n.grand = (totalValue total + foldedKwh m) % 10 ^ 12
      ∧ totalValue n.bands.band0 = (totalValue bands.band0 + k.band0) % 10 ^ 12
      ∧ totalValue n.bands.band1 = (totalValue bands.band1 + k.band1) % 10 ^ 12
      ∧ totalValue n.bands.band2 = (totalValue bands.band2 + k.band2) % 10 ^ 12
      ∧ totalValue n.bands.band3 = (totalValue bands.band3 + k.band3) % 10 ^ 12
      ∧ (n.wrapped = true ↔ 10 ^ 12 ≤ totalValue bands.band0 + k.band0 ∨ 10 ^ 12 ≤ totalValue bands.band1 + k.band1
        ∨ 10 ^ 12 ≤ totalValue bands.band2 + k.band2 ∨ 10 ^ 12 ≤ totalValue bands.band3 + k.band3
        ∨ 10 ^ 12 ≤ totalValue total + foldedKwh m) := by
  intro n k
  have small := foldedKwh_small waiting
  have parts : k.band0 + k.band1 + k.band2 + k.band3 = foldedKwh m := foldIncrements_sum m
  simp only [PerBand.toList, List.forall_mem_cons] at digits
  obtain ⟨d0, d1, d2, d3, -⟩ := digits
  have folded : n = _ := foldEnergy_eq (m := loadEnergy bands total m) grand small rfl rfl
  rw [folded]
  refine ⟨rfl, rfl, (addTotal_law grand _).2, (addTotal_law d0 _).2, (addTotal_law d1 _).2, (addTotal_law d2 _).2,
    (addTotal_law d3 _).2, ?_⟩
  rw [← wraps_iff grand small, ← wraps_iff d0 (n := k.band0) (by omega), ← wraps_iff d1 (n := k.band1) (by omega),
    ← wraps_iff d2 (n := k.band2) (by omega), ← wraps_iff d3 (n := k.band3) (by omega)]
  simp only [← Bool.or_eq_true, ← Bool.or_assoc]
  rfl

/-- The meters at an acceptance, with METER_WRAP where the fold wraps a total. -/
theorem State.loadTotals_taken (t : MeterTotals) (r : Reply) (s : State) : ((s.beginTake .pd).loadTotals t).answer .pd r =
    ((s.replied .pd r).setFmu (loadMeters t s.fmu)).postIf ((loadMeters t s.fmu).exported.wrapped || (loadMeters t s.fmu).heat.wrapped
      || (loadMeters t s.fmu).waste.wrapped) .meterWrap .pd := by
  simp [State.loadTotals]

theorem loadReply_eq (t : MeterTotals) (m : Meters) : loadReply m (loadMeters t m) =
    fieldsOf [(4, foldedKwh m.exported), (4, foldedKwh m.heat), (4, m.waste.waiting), (2, (loadMeters t m).exported.residue),
      (2, (loadMeters t m).heat.residue), (1, m.pendingSat.toNat)] := by
  simp [loadReply, fieldsOf, flag, loadMeters]

end Load

/-! ## The rows -/

section Rows

variable {args : MeterArgs} {s : State}

theorem exec_restoreMeters_state (ready : Ready .pd s) (running : s.fmu.state = .running) :
    exec (.restoreMeters .pd args) s = .next (s.replied .pd (.plain .state)) := by
  have done : (s.beginTake .pd).doRestoreMeters .pd args = (s.beginTake .pd, .plain .state) := by
    simp [State.doRestoreMeters, running, refuse]
  simpa using exec_ready rfl ready rfl done

theorem exec_freshMeters_state (ready : Ready .pd s) (running : s.fmu.state = .running) :
    exec (.freshMeters .pd) s = .next (s.replied .pd (.plain .state)) := by
  have done : (s.beginTake .pd).doFreshMeters .pd = (s.beginTake .pd, .plain .state) := by
    simp [State.doFreshMeters, running, refuse]
  simpa using exec_ready rfl ready rfl done

theorem exec_restoreMeters_badDigit {i : Nat} (ready : Ready .pd s) (unset : s.fmu.state = .unset)
    (bad : firstBadDigit (meterTotals args) 0 = some i) :
    exec (.restoreMeters .pd args) s = .next (s.replied .pd ⟨.badDigit, be 1 i⟩) := by
  have done : (s.beginTake .pd).doRestoreMeters .pd args = (s.beginTake .pd, ⟨.badDigit, be 1 i⟩) := by
    simp [State.doRestoreMeters, unset, bad]
  simpa using exec_ready rfl ready rfl done

theorem exec_restoreMeters_mismatch {i : Nat} (ready : Ready .pd s) (unset : s.fmu.state = .unset)
    (digits : ∀ d ∈ meterTotals args, Decimal d) (differ : mismatchOf (totalsOf args) = some i) :
    exec (.restoreMeters .pd args) s = .next (s.replied .pd ⟨.mismatch, be 1 i⟩) := by
  have decimal := firstBadDigit_none_iff (k := 0).2 digits
  have done : (s.beginTake .pd).doRestoreMeters .pd args = (s.beginTake .pd, ⟨.mismatch, be 1 i⟩) := by
    simp [State.doRestoreMeters, unset, decimal, differ]
  simpa using exec_ready rfl ready rfl done

/-- The machine after an acceptance. -/
abbrev metersLoaded (t : MeterTotals) (s : State) : State :=
  ((s.beginTake .pd).loadTotals t).answer .pd ⟨.ok, loadReply s.fmu (loadMeters t s.fmu)⟩

theorem exec_restoreMeters_loaded (ready : Ready .pd s) (unset : s.fmu.state = .unset)
    (digits : ∀ d ∈ meterTotals args, Decimal d) (agree : mismatchOf (totalsOf args) = none) :
    exec (.restoreMeters .pd args) s = .next (metersLoaded (totalsOf args) s) := by
  have decimal := firstBadDigit_none_iff (k := 0).2 digits
  refine exec_ready rfl ready rfl ?_
  simp [State.doRestoreMeters, unset, decimal, agree]

theorem exec_freshMeters_loaded (ready : Ready .pd s) (unset : s.fmu.state = .unset) :
    exec (.freshMeters .pd) s = .next (metersLoaded totalsZero s) := by
  refine exec_ready rfl ready rfl ?_
  simp [State.doFreshMeters, unset]

end Rows

/-- Settles O54: the checks of the two rows in turn, and what the load and the fold leave, by number. -/
theorem metersLoadAndFold : Obligations.MetersLoadAndFold := by
  unfold Obligations.MetersLoadAndFold
  intro args s ready law totals all folded loaded digits
  obtain ⟨⟨-, -, -, -, exportedWaits⟩, ⟨-, -, -, -, heatWaits⟩, -, massWaits, -⟩ := law
  have fold {bands : PerBand Digits} {grand : Digits} {m : EnergyMeter} (digits : ∀ d ∈ bands.toList, TotalLaw d) (total : TotalLaw grand)
      (sum : bandSum bands = grand) (waiting : ∀ w ∈ m.waiting.toList, w ≤ waitTop) :
      folded bands grand m (foldEnergy (loadEnergy bands grand m)) := by
    obtain ⟨residue, values⟩ := foldEnergy_loaded digits total waiting
    refine ⟨foldEnergy_law (loadEnergy_law digits total sum waiting), rfl, residue, residue.trans ?_, values⟩
    omega
  have load {t : MeterTotals} (sums : TotalsLaw t) :
      loaded t.exported t.heat t.exportedGrand t.heatGrand t.waste (metersLoaded t s) := by
    have fmu : (metersLoaded t s).fmu = loadMeters t s.fmu := by simp
    simp only [loaded, fmu]
    refine ⟨fold sums.exported sums.exportedGrand sums.exportedSum exportedWaits, fold sums.heat sums.heatGrand sums.heatSum heatWaits,
      rfl, rfl, rfl, rfl, (addTotal_law sums.waste _).1, (addTotal_law sums.waste _).2, ?waste, ?notice, ?reply, by simp⟩
    case waste => exact wraps_iff sums.waste (massWaits.trans_lt (by decide))
    case notice =>
      intro wrapped
      rw [metersLoaded, State.loadTotals_taken, State.holds_postIf]
      simp [wrapped, or_assoc]
    case reply =>
      rw [State.answer_slot, loadReply_eq]
      rfl
  refine ⟨⟨rfl, rfl, rfl, rfl, rfl, rfl⟩, firstBadDigit_eq_some_iff _,
    fun running => ⟨exec_restoreMeters_state ready running, exec_freshMeters_state ready running⟩,
    fun i => exec_restoreMeters_badDigit ready,
    fun unset decimal differ => exec_restoreMeters_mismatch ready unset decimal (mismatchOf_exported differ),
    fun unset decimal agree differ => exec_restoreMeters_mismatch ready unset decimal (mismatchOf_heat agree differ),
    fun unset decimal exportedSum heatSum => ⟨_, exec_restoreMeters_loaded ready unset decimal
      ((mismatchOf_none_iff _).2 ⟨exportedSum, heatSum⟩), load (totalsOf_law decimal exportedSum heatSum)⟩,
    fun unset => ⟨_, exec_freshMeters_loaded ready unset, load totalsZero_law⟩⟩

end Sys2Proof.Machine
end

section
/-! SUPPORT and CERTIFICATE. The permit images: fields read from bytes and written back, the checks of an image, and the statement that an
image that passes them is its values (10.1, R156, R158). -/

namespace Sys2Proof.Machine

/-! ## Numbers as bytes (R163) -/

@[simp] theorem be_length (k n : Nat) : (be k n).length = k := by
  induction k with
  | zero => rfl
  | succ k ih => simp [be, ih]

/-- `k` bytes hold a number modulo 256^k. -/
theorem be_add_mul {k j : Nat} (fits : k ≤ j) (m n : Nat) : be k (m * 256 ^ j + n) = be k n := by
  induction k with
  | zero => rfl
  | succ k ih =>
    obtain ⟨i, rfl⟩ := Nat.exists_eq_add_of_lt fits
    have quotient : (m * 256 ^ (k + i + 1) + n) / 256 ^ k = n / 256 ^ k + 256 * (m * 256 ^ i) := by
      rw [show m * 256 ^ (k + i + 1) + n = n + 256 ^ k * (256 * (m * 256 ^ i)) by ring, Nat.add_mul_div_left _ _ (by positivity)]
    have head : BitVec.ofNat 8 ((m * 256 ^ (k + i + 1) + n) / 256 ^ k) = BitVec.ofNat 8 (n / 256 ^ k) := by
      rw [quotient]
      exact BitVec.eq_of_toNat_eq (by simp only [BitVec.toNat_ofNat]; omega)
    rw [be, be, head, ih (by omega)]

theorem ofBe_append (a b : List Byte) : ofBe (a ++ b) = ofBe a * 256 ^ b.length + ofBe b := by
  induction b using List.reverseRecOn with
  | nil => simp [ofBe]
  | append_singleton b x ih =>
    have last (l : List Byte) : ofBe (l ++ [x]) = ofBe l * 256 + x.toNat := by simp [ofBe]
    rw [← List.append_assoc, last, last, ih, List.length_append, List.length_singleton, pow_succ]
    ring

theorem ofBe_cons (x : Byte) (b : List Byte) : ofBe (x :: b) = x.toNat * 256 ^ b.length + ofBe b := by
  simpa [ofBe] using ofBe_append [x] b

theorem ofBe_lt (b : List Byte) : ofBe b < 256 ^ b.length := by
  induction b with
  | nil => simp [ofBe]
  | cons x b ih =>
    have byte : (x.toNat + 1) * 256 ^ b.length ≤ 256 * 256 ^ b.length := Nat.mul_le_mul_right _ x.isLt
    rw [ofBe_cons, List.length_cons, pow_succ]
    linarith

/-- Bytes read as a number and written back. -/
theorem be_ofBe (b : List Byte) : be b.length (ofBe b) = b := by
  induction b with
  | nil => rfl
  | cons x b ih =>
    have head : (x.toNat * 256 ^ b.length + ofBe b) / 256 ^ b.length = x.toNat := by
      rw [Nat.add_comm, Nat.add_mul_div_right _ _ (by positivity), Nat.div_eq_of_lt (ofBe_lt b), Nat.zero_add]
    rw [List.length_cons, ofBe_cons, be, head, be_add_mul le_rfl, ih]
    simp

/-- A number that fits its bytes, written and read back. -/
theorem ofBe_be {k n : Nat} (fits : n < 256 ^ k) : ofBe (be k n) = n := by
  induction k generalizing n with
  | zero => simp_all [be, ofBe]
  | succ k ih =>
    have rest : be k n = be k (n % 256 ^ k) := by
      conv_lhs => rw [← Nat.div_add_mod' n (256 ^ k)]
      exact be_add_mul le_rfl _ _
    have top : n / 256 ^ k < 256 := Nat.div_lt_of_lt_mul (by rwa [← pow_succ])
    rw [be, ofBe_cons, be_length, rest, ih (Nat.mod_lt _ (by positivity)), BitVec.toNat_ofNat, Nat.mod_eq_of_lt top]
    exact Nat.div_add_mod' n _

/-! ## The fields of an image -/

/-- `n` bytes of an image from an offset. -/
def slice (img : List Byte) (off n : Nat) : List Byte := (img.drop off).take n

theorem field_eq_slice (img : List Byte) (off width : Nat) : field img off width = ofBe (slice img off width) := rfl

theorem slice_zero (img : List Byte) (n : Nat) : slice img 0 n = img.take n := by simp [slice]

/-- Slices that lie side by side make one. -/
theorem slice_append (img : List Byte) {a m b n : Nat} (next : a + m = b) : slice img a m ++ slice img b n = slice img a (m + n) := by
  rw [slice, slice, slice, List.take_add, List.drop_drop, next]

/-- A field inside an image, written back. -/
theorem be_field {img : List Byte} {off width : Nat} (inside : off + width ≤ img.length) :
    be width (field img off width) = slice img off width := by
  have length : (slice img off width).length = width := by
    rw [slice, List.length_take, List.length_drop]
    omega
  have same := be_ofBe (slice img off width)
  rwa [length] at same

/-- A field depends on its own bytes alone. -/
theorem field_congr {a b : List Byte} {off width : Nat} (same : ∀ i, off ≤ i → i < off + width → a[i]? = b[i]?) :
    field a off width = field b off width := by
  refine congrArg ofBe (List.ext_getElem? fun i => ?_)
  simp only [List.getElem?_take, List.getElem?_drop]
  split
  · exact same _ (by omega) (by omega)
  · rfl

/-- Consecutive fields of one width, written back. -/
theorem flatMap_be_fields {img : List Byte} {width : Nat} (n off : Nat) (inside : off + n * width ≤ img.length) :
    (fields img off width n).flatMap (be width) = slice img off (n * width) := by
  induction n generalizing off with
  | zero => simp [fields, slice]
  | succ n ih =>
    rw [Nat.succ_mul] at inside ⊢
    rw [fields, List.flatMap_cons, be_field (by omega), ih _ (by omega), slice_append img rfl, Nat.add_comm]

/-! ## The checks of an image (R156) -/

/-- The last two bytes are the CRC of the others when the image is what closing the others gives. -/
theorem crcOk_iff (img : List Byte) : crcOk img = true ↔ img = withCrc (img.take (img.length - 2)) := by
  rw [crcOk, beq_iff_eq, withCrc]
  constructor
  · intro crc
    rw [← crc, List.take_append_drop]
  · intro closed
    exact List.append_cancel_left ((List.take_append_drop _ _).trans closed)

/-- No field out of range: each field is in its range. -/
theorem firstOutOfRange_none_iff {img : List Byte} {ranges : List FieldRange} :
    firstOutOfRange img ranges = none ↔ ∀ f ∈ ranges, f.holds img = true := by
  refine ⟨firstOutOfRange_none, fun holds => ?_⟩
  induction ranges with
  | nil => rfl
  | cons f fs ih =>
    obtain ⟨first, rest⟩ := List.forall_mem_cons.1 holds
    rw [firstOutOfRange, if_pos first, ih rest]

/-- An image that passes every check. -/
structure Passes (sec : PermitSection) (img : List Byte) : Prop where
  length : img.length = sec.imageLength
  crc    : crcOk img = true
  ranges : ∀ f ∈ sec.ranges img, f.holds img = true

theorem imageFault_none_iff {sec : PermitSection} {img : List Byte} : imageFault sec img = none ↔ Passes sec img := by
  unfold imageFault
  split
  · next long => exact ⟨nofun, fun passes => absurd passes.length long⟩
  · next long =>
    split
    · next crc => exact firstOutOfRange_none_iff.trans ⟨fun ranges => ⟨not_not.1 long, crc, ranges⟩, fun passes => passes.ranges⟩
    · next crc => exact ⟨nofun, fun passes => absurd passes.crc crc⟩

/-- A field that passes lies between its bounds. -/
theorem FieldRange.holds_iff (img : List Byte) (f : FieldRange) :
    f.holds img = true ↔ f.lo ≤ field img f.offset f.width ∧ field img f.offset f.width ≤ f.hi := by
  simp [FieldRange.holds]

/-- An image that passes is its own bytes before the CRC, closed again. -/
theorem Passes.closed {sec : PermitSection} {img : List Byte} (h : Passes sec img) : withCrc (img.take (sec.imageLength - 2)) = img := by
  rw [← h.length]
  exact ((crcOk_iff img).1 h.crc).symm

/-! ## An image that passes is its values -/

theorem Role.code_ofCode {n : Nat} (known : n ≤ 2) : (Role.ofCode n).code = n := by
  interval_cases n <;> rfl

theorem reagentCode_reagentOfNat {n : Nat} (known : n ≤ 3) : reagentCode (reagentOfNat n) = n := by
  interval_cases n <;> rfl

/-- A channel's entry read and written back. -/
theorem encodeChannel_decodeChannel {img : List Byte} {off : Nat} (inside : off + 10 ≤ img.length)
    (ranges : ∀ f ∈ channelRanges off, f.holds img = true) : encodeChannel (decodeChannel img off) = slice img off 10 := by
  simp only [channelRanges, List.forall_mem_cons, FieldRange.holds_iff] at ranges
  obtain ⟨-, -, ⟨-, role⟩, ⟨-, reagent⟩, -⟩ := ranges
  simp only [encodeChannel, decodeChannel, Role.code_ofCode role, reagentCode_reagentOfNat reagent]
  simp (disch := omega) only [be_field, slice_append]

/-- The ranges of the six channel entries are among those of a LIMITS image (10.1). -/
theorem channelRanges_subset (img : List Byte) : ∀ off ∈ [27, 37, 47, 57, 67, 77], channelRanges off ⊆ limitsRanges img := by
  intro off entry f range
  fin_cases entry <;> simp [limitsRanges, range]

theorem limitsBody_decodeLimits {img : List Byte} (h : Passes .limits img) : limitsBody (decodeLimits img) = img.take 87 := by
  have length : img.length = 89 := h.length
  have channel (off : Nat) (entry : off ∈ [27, 37, 47, 57, 67, 77]) (fits : off + 10 ≤ 89) :
      encodeChannel (decodeChannel img off) = slice img off 10 :=
    encodeChannel_decodeChannel (by omega) fun f range => h.ranges f (channelRanges_subset img off entry range)
  rw [← slice_zero]
  dsimp only [limitsBody, decodeLimits]
  simp (disch := decide) only [channel]
  simp (disch := omega) only [be_field, slice_append]

theorem encodeLimits_decodeLimits {img : List Byte} (h : Passes .limits img) : encodeLimits (decodeLimits img) = img := by
  rw [encodeLimits, limitsBody_decodeLimits h]
  exact h.closed

theorem encodePlant_decodePlant {img : List Byte} (h : Passes .plant img) : encodePlant (decodePlant img) = img := by
  have length : img.length = 30 := h.length
  have body : plantBody (decodePlant img) = img.take 28 := by
    rw [← slice_zero]
    simp only [plantBody, decodePlant, encodeTiming, decodeTiming]
    simp (disch := omega) only [be_field, slice_append]
  rw [encodePlant, body]
  exact h.closed

theorem encodeTariff_decodeTariff {img : List Byte} (h : Passes .tariff img) : encodeTariff (decodeTariff img) = img := by
  have length : img.length = 131 := h.length
  have body : tariffBody (decodeTariff img) = img.take 129 := by
    rw [← slice_zero]
    simp only [tariffBody, decodeTariff]
    simp (disch := omega) only [flatMap_be_fields, be_field, slice_append]
  rw [encodeTariff, body]
  exact h.closed

/-! ## The serial that the store writes (R158) -/

section Serial

variable {img : List Byte} (length : img.length = 89) (serial : Nat)
include length

theorem withSerial_length : (withSerial img serial).length = 89 := by simp [withSerial, withCrc, length]

/-- The store writes the serial field and the CRC, and no other byte. -/
theorem withSerial_getElem? {i : Nat} (other : i < 25 ∨ 27 ≤ i ∧ i < 87) : (withSerial img serial)[i]? = img[i]? := by
  simp only [withSerial, withCrc, List.getElem?_append, List.length_append, List.length_take, List.length_drop, be_length, length,
    List.getElem?_take, List.getElem?_drop]
  rcases other with before | ⟨behind, body⟩
  · rw [if_pos (by omega), if_pos (by omega), if_pos (by omega), if_pos before]
  · rw [if_pos (by omega), if_neg (by omega), if_pos (by omega)]
    congr 1
    omega

/-- So every field beside the serial stays. -/
theorem field_withSerial {off width : Nat} (other : off + width ≤ 25 ∨ 27 ≤ off ∧ off + width ≤ 87) :
    field (withSerial img serial) off width = field img off width :=
  field_congr fun _ _ _ => withSerial_getElem? length serial (by omega)

theorem field_withSerial_serial (fits : serial < 65536) : field (withSerial img serial) 25 2 = serial := by
  have written : slice (withSerial img serial) 25 2 = be 2 serial := by
    simp [slice, withSerial, withCrc, List.append_assoc, length]
  rw [field_eq_slice, written]
  exact ofBe_be (by simpa using fits)

theorem decodeLimits_withSerial (fits : serial < 65536) :
    decodeLimits (withSerial img serial) = { decodeLimits img with serial := serial } := by
  simp (disch := omega) only [decodeLimits, decodeChannel, field_withSerial length, field_withSerial_serial length]

end Serial

/-- No range of a LIMITS image but the serial's own, which is the whole field, is about the serial. -/
theorem limitsRanges_beside_serial (img : List Byte) : ∀ f ∈ limitsRanges img,
    f = ⟨25, 2, 0, 65535⟩ ∨ f.offset + f.width ≤ 25 ∨ 27 ≤ f.offset ∧ f.offset + f.width ≤ 87 := by
  simp [limitsRanges, channelRanges]

/-- An image with the serial that the store writes passes the checks (R158). -/
theorem passes_withSerial {img : List Byte} (h : Passes .limits img) {serial : Nat} (fits : serial < 65536) :
    Passes .limits (withSerial img serial) := by
  have length : img.length = 89 := h.length
  have ranges : limitsRanges (withSerial img serial) = limitsRanges img := by
    rw [limitsRanges, limitsRanges, field_withSerial length serial (.inl (by decide))]
  refine ⟨withSerial_length length serial, crcOk_withCrc _, fun f range => ?_⟩
  rw [PermitSection.ranges, ranges] at range
  rcases limitsRanges_beside_serial img f range with rfl | other
  · rw [FieldRange.holds_iff, field_withSerial_serial length serial fits]
    exact ⟨Nat.zero_le _, Nat.le_of_lt_succ fits⟩
  · rw [FieldRange.holds_iff, field_withSerial length serial other, ← FieldRange.holds_iff]
    exact h.ranges f range

/-! ## What is reported (R156) -/

/-- A field and its range as four numbers. -/
def FieldRange.figures (f : FieldRange) : Nat × Nat × Nat × Nat := (f.offset, f.width, f.lo, f.hi)

/-- The first field out of range is the first one below or above its bounds. -/
theorem firstOutOfRange_eq_find (img : List Byte) (ranges : List FieldRange) :
    firstOutOfRange img ranges = ((ranges.map FieldRange.figures).find? fun f =>
      decide (field img f.1 f.2.1 < f.2.2.1 ∨ f.2.2.2 < field img f.1 f.2.1)).map Prod.fst := by
  induction ranges with
  | nil => rfl
  | cons f fs ih =>
    rw [firstOutOfRange, List.map_cons, List.find?_cons]
    by_cases inRange : f.holds img = true
    · have within := (FieldRange.holds_iff img f).1 inRange
      have passed : ¬ (field img f.offset f.width < f.lo ∨ f.hi < field img f.offset f.width) := by omega
      simp [inRange, FieldRange.figures, passed, ih]
    · have outside : field img f.offset f.width < f.lo ∨ f.hi < field img f.offset f.width := by
        rw [FieldRange.holds_iff] at inRange
        omega
      simp [inRange, FieldRange.figures, outside]

/-- The report on an image, with each check as the manual words it. -/
theorem imageFault_eq (sec : PermitSection) (img : List Byte) :
    imageFault sec img =
      if img.length ≠ sec.imageLength then some 0xFFFF
      else if img ≠ withCrc (img.take (sec.imageLength - 2)) then some 0xFFFE
      else (((sec.ranges img).map FieldRange.figures).find? fun f =>
        decide (field img f.1 f.2.1 < f.2.2.1 ∨ f.2.2.2 < field img f.1 f.2.1)).map Prod.fst := by
  unfold imageFault
  split
  · rfl
  · next long =>
    have crc := crcOk_iff img
    rw [not_not.1 long] at crc
    rw [← firstOutOfRange_eq_find, ite_not]
    exact if_congr crc rfl rfl

theorem bandRanges_eq (n off : Nat) : bandRanges off n = (List.range n).map fun k => ⟨off + k, 1, 0, 3⟩ := by
  induction n generalizing off with
  | zero => rfl
  | succ n ih =>
    rw [bandRanges, ih, List.range_succ_eq_map, List.map_cons, List.map_map]
    exact congrArg _ (List.map_congr_left fun k _ => by simp; omega)

theorem holidayRanges_eq (img : List Byte) (n off : Nat) (two : 2 ≤ off) :
    holidayRanges img off n = (List.range n).map fun k => ⟨off + 2 * k, 2, field img (off - 2 + 2 * k) 2 + 1, 65535⟩ := by
  induction n generalizing off with
  | zero => rfl
  | succ n ih =>
    rw [holidayRanges, ih _ (by omega), List.range_succ_eq_map, List.map_cons, List.map_map]
    refine congrArg _ (List.map_congr_left fun k _ => ?_)
    have place : off + 2 + 2 * k = off + 2 * (k + 1) := by omega
    have before : off + 2 - 2 + 2 * k = off - 2 + 2 * (k + 1) := by omega
    simp only [Function.comp, place, before]

/-- The ranges of a TARIFF image as figures: the bands, the count, each holiday above the one before it (10.1). -/
theorem tariffRanges_figures (img : List Byte) :
    (tariffRanges img).map FieldRange.figures =
      (List.range 96).map (fun k => (k, 1, 0, 3)) ++ [(96, 1, 0, 16)]
        ++ (List.range (field img 96 1 - 1)).map fun k => (99 + 2 * k, 2, field img (97 + 2 * k) 2 + 1, 65535) := by
  rw [tariffRanges, bandRanges_eq, holidayRanges_eq img _ 99 (by decide), List.map_append, List.map_append, List.map_map, List.map_map]
  simp [FieldRange.figures, Function.comp_def]

/-- Settles O58: an image that passes is its values and stays so under the store's serial; the report by the fields' bounds. -/
theorem acceptedImageIsItsValues : Obligations.AcceptedImageIsItsValues := by
  unfold Obligations.AcceptedImageIsItsValues
  refine ⟨fun image serial fits => ⟨fun limits => ?_, fun plant => ?_, fun tariff => ?_⟩, fun image => ?_⟩
  · have passes := imageFault_none_iff.1 limits
    exact ⟨encodeLimits_decodeLimits passes, imageFault_none_iff.2 (passes_withSerial passes fits),
      decodeLimits_withSerial passes.length serial fits⟩
  · exact encodePlant_decodePlant (imageFault_none_iff.1 plant)
  · exact encodeTariff_decodeTariff (imageFault_none_iff.1 tariff)
  · refine ⟨imageFault_eq .limits image, imageFault_eq .plant image, ?_⟩
    rw [imageFault_eq, PermitSection.ranges, tariffRanges_figures]
    rfl

end Sys2Proof.Machine
end

section
/-! CERTIFICATE. ENABLE_WRITE, PROGRAM_SECTION and LOCK_SECTION: each check in its order, the refusal that clears the latch, the cycle begun
(R154, R155, R156, R160). -/

namespace Sys2Proof.Machine

/-- A command's new blocks with its reply in the slot of its port. -/
def withReply (p : Port) (x : State × Reply) : State := x.1.answer p x.2

/-- The latch of the sender set or cleared, and a reply. -/
theorem withReply_setLatch (p : Port) (b : Bool) (r : Reply) (s : State) :
    withReply p ((s.beginTake p).setLatch p b, r) = (s.replied p r).setPst { s.pst with latches := s.pst.latches.set p b } := by
  simp [withReply, State.setLatch]

/-- A refusal of the store (R154). -/
theorem withReply_refuseStore (p : Port) (status : Status) (s : State) :
    withReply p ((s.beginTake p).refuseStore p status)
      = (s.replied p (.plain status)).setPst { s.pst with latches := s.pst.latches.set p false } :=
  withReply_setLatch p false (.plain status) s

/-- A cycle begun (R155, R160). -/
theorem withReply_setActivity (p : Port) (a : StoreActivity) (r : Reply) (s : State) :
    withReply p ((s.beginTake p).setActivity a, r) = (s.replied p r).setPst { s.pst with activity := a } := by
  simp [withReply, State.setActivity]

section Rows

variable {p : Port} {s : State} (ready : Ready p s) (number : BitVec 8) (image : List Byte)
include ready

theorem exec_enableWrite : exec (.enableWrite p) s = .next (withReply p ((s.beginTake p).doEnableWrite p)) :=
  exec_ready rfl ready rfl rfl

theorem exec_programSection :
    exec (.programSection p number image) s = .next (withReply p ((s.beginTake p).doProgramSection p number image)) :=
  exec_ready rfl ready rfl rfl

theorem exec_lockSection : exec (.lockSection p number) s = .next (withReply p ((s.beginTake p).doLockSection p number)) :=
  exec_ready rfl ready rfl rfl

end Rows

/-- Settles O56: the chains of checks read as they stand, with the reply and the latch or the cycle at the end of each. -/
theorem permitCommandsCheckInOrder : Obligations.PermitCommandsCheckInOrder := by
  unfold Obligations.PermitCommandsCheckInOrder
  intro p number image s ready refused started
  refine ⟨?_, ?_, ?_⟩
  · rw [exec_enableWrite ready]
    exact congrArg Host.Outcome.next (withReply_setLatch p true _ s)
  · rw [exec_programSection ready, State.doProgramSection]
    congr 1
    rcases PermitSection.ofCode number with _ | sec
    · exact withReply_refuseStore p .range s
    simp only [State.programSection, apply_ite (withReply p), withReply_refuseStore, State.beginTake_frame, State.plantMode,
      firingOrHold_iff]
    rcases imageFault sec image with _ | offset
    · simp only [withReply_setActivity, started, refused]
    · simp only [withReply_setLatch, refused]
  · rw [exec_lockSection ready, State.doLockSection]
    congr 1
    rcases PermitSection.ofCode number with _ | sec
    · exact withReply_refuseStore p .range s
    simp only [State.lockSection, apply_ite (withReply p), withReply_refuseStore, withReply_setActivity, State.beginTake_frame, started,
      refused]

end Sys2Proof.Machine
end

section
/-! SUPPORT. The store's law in parts, and what the operations of the store leave of it: the copies, the sections, a cycle's end, the load
at a reset (R153, R155, R158 to R161). -/

namespace Sys2Proof.Machine

/-! ## The law in parts -/

/-- Every copy, in force or waiting, is in the ranges of 10.1. -/
structure CopiesLaw (p : PermitStore) : Prop where
  limits : ∀ l ∈ p.workingLimits.toList ++ p.pendingLimits.toList, LimitsInRange l
  plant  : ∀ q ∈ p.workingPlant.toList ++ p.heldPlant.toList, PlantInRange q
  tariff : ∀ t ∈ p.workingTariff.toList ++ p.pendingTariff.toList, TariffInRange t

/-- The sections, the cycle in flight, the copies. -/
theorem permitLaw_iff (p : PermitStore) :
    PermitLaw p ↔ (∀ sec, SectionLaw sec (p.stored sec)) ∧ activityLawful p = true ∧ CopiesLaw p := by
  constructor
  · rintro ⟨limits, plant, tariff, activity, limitsCopies, plantCopies, tariffCopies⟩
    refine ⟨fun sec => ?_, activity, limitsCopies, plantCopies, tariffCopies⟩
    cases sec with
    | limits => exact limits
    | plant => exact plant
    | tariff => exact tariff
  · rintro ⟨sections, activity, limits, plant, tariff⟩
    exact ⟨sections .limits, sections .plant, sections .tariff, activity, limits, plant, tariff⟩

/-- The sections read from the three alone. -/
theorem PermitStore.stored_congr {p q : PermitStore} (same : q.limits = p.limits ∧ q.plant = p.plant ∧ q.tariff = p.tariff)
    (sec : PermitSection) : q.stored sec = p.stored sec := by
  obtain ⟨limits, plant, tariff⟩ := same
  cases sec with
  | limits => exact limits
  | plant => exact plant
  | tariff => exact tariff

/-- The values of an image that passes are in the ranges of 10.1. -/
theorem limitsInRange_decode {image : List Byte} (good : imageFault .limits image = none) : LimitsInRange (decodeLimits image) := by
  rwa [LimitsInRange, encodeLimits_decodeLimits (imageFault_none_iff.1 good)]

theorem plantInRange_decode {image : List Byte} (good : imageFault .plant image = none) : PlantInRange (decodePlant image) := by
  rwa [PlantInRange, encodePlant_decodePlant (imageFault_none_iff.1 good)]

theorem tariffInRange_decode {image : List Byte} (good : imageFault .tariff image = none) : TariffInRange (decodeTariff image) := by
  rwa [TariffInRange, encodeTariff_decodeTariff (imageFault_none_iff.1 good)]

/-! ## What an event leaves of the store -/

/-- A change of the store keeps its law, and under it every LOCKED section as it is. -/
def StoreKept (p q : PermitStore) : Prop :=
  PermitLaw p → PermitLaw q ∧ ∀ sec, (p.stored sec).state = .locked → q.stored sec = p.stored sec

theorem StoreKept.refl (p : PermitStore) : StoreKept p p := fun law => ⟨law, fun _ _ => rfl⟩

theorem StoreKept.of_eq {p q : PermitStore} (same : q = p) : StoreKept p q := same ▸ .refl p

theorem StoreKept.trans {p q r : PermitStore} (first : StoreKept p q) (second : StoreKept q r) : StoreKept p r := by
  intro law
  obtain ⟨lawQ, keptQ⟩ := first law
  obtain ⟨lawR, keptR⟩ := second lawQ
  refine ⟨lawR, fun sec locked => ?_⟩
  have same := keptQ sec locked
  rw [keptR sec (by rwa [same]), same]

/-- New copies and latches beside the sections and the cycle in flight. -/
theorem StoreKept.of_copies {p q : PermitStore} (same : q.limits = p.limits ∧ q.plant = p.plant ∧ q.tariff = p.tariff)
    (activity : q.activity = p.activity) (copies : CopiesLaw p → CopiesLaw q) : StoreKept p q := by
  intro law
  have sections := PermitStore.stored_congr same
  obtain ⟨lawful, cycle, inRange⟩ := (permitLaw_iff p).1 law
  refine ⟨(permitLaw_iff q).2 ⟨fun sec => sections sec ▸ lawful sec, ?_, copies inRange⟩, fun sec _ => sections sec⟩
  simpa only [activityLawful, activity, sections] using cycle

/-! ## The commands (R154, R155, R160) -/

theorem setLatch_kept (p : Port) (b : Bool) (s : State) : StoreKept s.pst (s.setLatch p b).pst :=
  .of_copies ⟨rfl, rfl, rfl⟩ rfl fun ⟨limits, plant, tariff⟩ => ⟨limits, plant, tariff⟩

/-- A cycle begun that the law allows. -/
theorem setActivity_kept {a : StoreActivity} {s : State} (lawful : activityLawful { s.pst with activity := a } = true) :
    StoreKept s.pst (s.setActivity a).pst := by
  intro law
  obtain ⟨sections, -, limits, plant, tariff⟩ := (permitLaw_iff s.pst).1 law
  have same : ∀ sec, (s.setActivity a).pst.stored sec = s.pst.stored sec := PermitStore.stored_congr ⟨rfl, rfl, rfl⟩
  exact ⟨(permitLaw_iff _).2 ⟨fun sec => same sec ▸ sections sec, lawful, limits, plant, tariff⟩, fun sec _ => same sec⟩

theorem doProgramSection_kept (p : Port) (number : BitVec 8) (image : List Byte) (s : State) :
    StoreKept s.pst (s.doProgramSection p number image).1.pst := by
  have refused (status : Status) : StoreKept s.pst (s.refuseStore p status).1.pst := setLatch_kept p false s
  have programmed (sec : PermitSection) : StoreKept s.pst (s.programSection p sec image).1.pst := by
    unfold State.programSection
    split
    · exact refused _
    split
    · exact refused _
    split
    · exact refused _
    next unlocked =>
    split
    · exact refused _
    split
    · exact refused _
    split
    · exact setLatch_kept p false s
    · next good =>
      refine setActivity_kept ?_
      have same : ({ s.pst with activity := .programming sec p image } : PermitStore).stored sec = s.pst.stored sec :=
        PermitStore.stored_congr ⟨rfl, rfl, rfl⟩ sec
      simp [activityLawful, same, good, unlocked]
  unfold State.doProgramSection
  split
  · exact refused _
  · exact programmed _

theorem doLockSection_kept (p : Port) (number : BitVec 8) (s : State) : StoreKept s.pst (s.doLockSection p number).1.pst := by
  have refused (status : Status) : StoreKept s.pst (s.refuseStore p status).1.pst := setLatch_kept p false s
  have locked (sec : PermitSection) : StoreKept s.pst (s.lockSection p sec).1.pst := by
    unfold State.lockSection
    split
    · exact refused _
    split
    · exact refused _
    split
    · exact refused _
    split
    · exact refused _
    · next valid =>
      refine setActivity_kept ?_
      have same : ({ s.pst with activity := .locking sec p } : PermitStore).stored sec = s.pst.stored sec :=
        PermitStore.stored_congr ⟨rfl, rfl, rfl⟩ sec
      simp [activityLawful, same, not_not.1 valid]
  unfold State.doLockSection
  split
  · exact refused _
  · exact locked _

/-! ## The completions (R158 to R160) -/

/-- The image that the store writes passes the checks as the image sent did (R158). -/
theorem finalImage_passes {sec : PermitSection} {image : List Byte} (good : imageFault sec image = none) (before : StoredSection) :
    imageFault sec (finalImage sec before image) = none := by
  unfold finalImage
  split
  · next continued =>
    obtain ⟨rfl, -⟩ := continued
    exact imageFault_none_iff.2 (passes_withSerial (imageFault_none_iff.1 good) (Nat.mod_lt _ (by decide)))
  · exact good

theorem plantInForce_kept {pl : Plant} (inRange : PlantInRange pl) (s : State) : StoreKept s.pst (s.plantInForce pl).pst := by
  rw [State.plantInForce_pst]
  refine .of_copies ⟨rfl, rfl, rfl⟩ rfl fun ⟨limits, plant, tariff⟩ => ⟨limits, ?_, tariff⟩
  intro q copy
  rcases List.mem_append.1 copy with working | held
  · obtain rfl : q = pl := List.mem_singleton.1 working
    exact inRange
  · exact plant q (List.mem_append_right _ held)

/-- The values of an image that passes, waiting or in force. -/
theorem takeImage_kept {sec : PermitSection} {image : List Byte} (good : imageFault sec image = none) (s : State) :
    StoreKept s.pst (s.takeImage sec image).pst := by
  have waiting {α : Type} {P : α → Prop} {working pending : Option α} {new : α}
      (copies : ∀ x ∈ working.toList ++ pending.toList, P x) (inRange : P new) : ∀ x ∈ working.toList ++ (some new).toList, P x := by
    intro x copy
    rcases List.mem_append.1 copy with force | waits
    · exact copies x (List.mem_append_left _ force)
    · obtain rfl : x = new := List.mem_singleton.1 waits
      exact inRange
  cases sec with
  | limits =>
    exact .of_copies ⟨rfl, rfl, rfl⟩ rfl fun ⟨limits, plant, tariff⟩ =>
      ⟨waiting limits (limitsInRange_decode good), plant, tariff⟩
  | tariff =>
    exact .of_copies ⟨rfl, rfl, rfl⟩ rfl fun ⟨limits, plant, tariff⟩ =>
      ⟨limits, plant, waiting tariff (tariffInRange_decode good)⟩
  | plant =>
    dsimp only [State.takeImage]
    split
    · exact .of_copies ⟨rfl, rfl, rfl⟩ rfl fun ⟨limits, plant, tariff⟩ =>
        ⟨limits, waiting plant (plantInRange_decode good), tariff⟩
    · exact plantInForce_kept (plantInRange_decode good) s

/-- A section that is not LOCKED written, and the cycle ended. -/
theorem endCycle_kept {sec : PermitSection} {x : StoredSection} {s : State} (p : Port) (unlocked : (s.pst.stored sec).state ≠ .locked)
    (lawful : SectionLaw sec x) : StoreKept s.pst ((s.setPst (s.pst.store sec x)).endCycle p).pst := by
  intro law
  obtain ⟨sections, -, limits, plant, tariff⟩ := (permitLaw_iff s.pst).1 law
  rw [State.endCycle_pst]
  have written (other : PermitSection) :
      ({ s.pst.store sec x with activity := .idle, latches := (s.pst.store sec x).latches.set p false } : PermitStore).stored other
        = if other = sec then x else s.pst.stored other := by
    rw [← PermitStore.stored_store]
    exact PermitStore.stored_congr ⟨rfl, rfl, rfl⟩ other
  refine ⟨(permitLaw_iff _).2 ⟨fun other => ?_, rfl, ?_⟩, fun other locked => ?_⟩
  · rw [State.setPst_pst, written]
    split
    · next same => exact same ▸ lawful
    · exact sections other
  · cases sec <;> exact ⟨limits, plant, tariff⟩
  · rw [State.setPst_pst, written, if_neg]
    rintro rfl
    exact unlocked locked

theorem completeProgramming_kept (s : State) : StoreKept s.pst s.completeProgramming.pst := by
  rcases cycle : s.pst.activity with _ | ⟨sec, p, image⟩ | ⟨sec, p⟩
  · exact .of_eq (by simp [State.completeProgramming, cycle])
  · intro law
    obtain ⟨sections, lawful, -⟩ := (permitLaw_iff s.pst).1 law
    simp only [activityLawful, cycle, Bool.and_eq_true, beq_iff_eq, bne_iff_ne] at lawful
    obtain ⟨good, unlocked⟩ := lawful
    obtain ⟨lock, -⟩ := sections sec
    have final := finalImage_passes good (s.pst.stored sec)
    have unset := mt lock.1 unlocked
    rw [State.completeProgramming_done cycle]
    exact ((endCycle_kept p unlocked ⟨by simpa using unset, fun _ => final⟩).trans (takeImage_kept final _)) law
  · exact .of_eq (by simp [State.completeProgramming, cycle])

theorem completeLock_kept (s : State) : StoreKept s.pst s.completeLock.pst := by
  rcases cycle : s.pst.activity with _ | ⟨sec, p, image⟩ | ⟨sec, p⟩
  · exact .of_eq (by simp [State.completeLock, cycle])
  · exact .of_eq (by simp [State.completeLock, cycle])
  · intro law
    obtain ⟨sections, lawful, -⟩ := (permitLaw_iff s.pst).1 law
    have valid : (s.pst.stored sec).state = .valid := by simpa [activityLawful, cycle] using lawful
    obtain ⟨-, passes⟩ := sections sec
    have done : s.completeLock =
        (s.setPst (s.pst.store sec { s.pst.stored sec with state := .locked, lockBit := true })).endCycle p := by
      simp only [State.completeLock, cycle]
    rw [done]
    exact endCycle_kept p (by simp [valid]) ⟨by simp, fun _ => passes (.inl valid)⟩ law

/-! ## The copies that come into force (R159) -/

theorem releaseHeldPlant_kept (s : State) : StoreKept s.pst s.releaseHeldPlant.pst := by
  rcases held : s.pst.heldPlant with _ | pl
  · exact .of_eq (by rw [State.releaseHeldPlant_none held])
  by_cases out : s.mode.mode = .burnout ∨ s.mode.mode = .tripped
  · rw [State.releaseHeldPlant_released held out, State.plantInForce_pst]
    refine .of_copies ⟨rfl, rfl, rfl⟩ rfl fun ⟨limits, plant, tariff⟩ => ⟨limits, fun q copy => ?_, tariff⟩
    obtain rfl : q = pl := by simpa using copy
    exact plant q (by simp [held])
  · exact .of_eq (by rw [State.releaseHeldPlant_kept out])

theorem installed_kept (p : PermitStore) : StoreKept p (installed p) := by
  have chosen {α : Type} {P : α → Prop} {working pending : Option α} (copies : ∀ x ∈ working.toList ++ pending.toList, P x) :
      ∀ x ∈ (pending.or working).toList ++ (none : Option α).toList, P x := by
    intro x copy
    refine copies x ?_
    rcases pending with _ | new
    · simpa using copy
    · obtain rfl : x = new := by simpa using copy
      simp
  exact .of_copies ⟨rfl, rfl, rfl⟩ rfl fun ⟨limits, plant, tariff⟩ => ⟨chosen limits, plant, chosen tariff⟩

/-! ## The load at a reset (R161) -/

/-- The image that a copy is loaded from is that of a VALID or LOCKED section. -/
theorem loadableImage_eq_some {x : StoredSection} {image : List Byte} (h : loadableImage x = some image) :
    x.image = image ∧ (x.state = .valid ∨ x.state = .locked) := by
  unfold loadableImage at h
  split at h
  · next valid => exact ⟨Option.some.inj h, .inl valid⟩
  · next locked => exact ⟨Option.some.inj h, .inr locked⟩
  · cases h
  · cases h

/-- A section that the load finds under the law: as it was, but CORRUPT where its programming cycle was cut off. -/
theorem loadStore_section {s : State} (law : PermitLaw s.pst) (sec : PermitSection) :
    if programming? s.pst.activity = some sec then
      (s.loadStore.pst.stored sec).state = .corrupt ∧ (s.loadStore.pst.stored sec).lockBit = (s.pst.stored sec).lockBit
    else s.loadStore.pst.stored sec = s.pst.stored sec := by
  obtain ⟨sections, -⟩ := (permitLaw_iff s.pst).1 law
  obtain ⟨bit, passes⟩ := sections sec
  obtain ⟨loaded, -⟩ := s.loadStore_loaded
  have found := loaded sec (by cases sec <;> simp)
  have sound : ¬ (((s.pst.stored sec).state = .valid ∨ (s.pst.stored sec).state = .locked)
      ∧ crcOk (s.pst.stored sec).image = false) := by
    rintro ⟨held, bad⟩
    exact absurd (imageFault_none_iff.1 (passes held)).crc (by simp [bad])
  have unset : ¬ ((s.pst.stored sec).state = .valid ∧ (s.pst.stored sec).lockBit = true) := by
    rintro ⟨valid, set⟩
    exact absurd (bit.1 set) (by simp [valid])
  rwa [if_neg sound, if_neg unset] at found

/-- A section whose programming cycle is in flight is not LOCKED (R155). -/
theorem unlocked_of_programming {p : PermitStore} {sec : PermitSection} (lawful : activityLawful p = true)
    (programmed : programming? p.activity = some sec) : (p.stored sec).state ≠ .locked := by
  rcases cycle : p.activity with _ | ⟨cut, q, image⟩ | ⟨cut, q⟩
  · simp [cycle, programming?] at programmed
  · obtain rfl : cut = sec := by simpa [cycle, programming?] using programmed
    simp only [activityLawful, cycle, Bool.and_eq_true, bne_iff_ne] at lawful
    obtain ⟨-, unlocked⟩ := lawful
    exact unlocked
  · simp [cycle, programming?] at programmed

theorem loadStore_kept (s : State) : StoreKept s.pst s.loadStore.pst := by
  intro law
  obtain ⟨sections, lawful, -⟩ := (permitLaw_iff s.pst).1 law
  have lawfulSection (sec : PermitSection) : SectionLaw sec (s.loadStore.pst.stored sec) := by
    have found := loadStore_section law sec
    split at found
    · next programmed =>
      obtain ⟨corrupt, bit⟩ := found
      obtain ⟨lock, -⟩ := sections sec
      have unset := mt lock.1 (unlocked_of_programming lawful programmed)
      exact ⟨by simpa [bit, corrupt] using unset, by simp [corrupt]⟩
    · rw [found]
      exact sections sec
  have working {α : Type} {P : α → Prop} {decode : List Byte → α} {sec : PermitSection}
      (inRange : ∀ {image}, imageFault sec image = none → P (decode image)) :
      ∀ x ∈ ((loadableImage (s.loadStore.pst.stored sec)).map decode).toList ++ (none : Option α).toList, P x := by
    intro x copy
    obtain ⟨image, found, rfl⟩ : ∃ image, loadableImage (s.loadStore.pst.stored sec) = some image ∧ decode image = x := by
      simpa using copy
    obtain ⟨rfl, held⟩ := loadableImage_eq_some found
    obtain ⟨-, passes⟩ := lawfulSection sec
    exact inRange (passes held)
  obtain ⟨-, limits, plant, tariff, pendingLimits, pendingTariff, heldPlant, -, idle⟩ := s.loadStore_loaded
  refine ⟨(permitLaw_iff _).2 ⟨lawfulSection, by simp [activityLawful, idle], ?_, ?_, ?_⟩, fun sec locked => ?_⟩
  · rw [limits, pendingLimits]
    exact working (sec := .limits) limitsInRange_decode
  · rw [plant, heldPlant]
    exact working (sec := .plant) plantInRange_decode
  · rw [tariff, pendingTariff]
    exact working (sec := .tariff) tariffInRange_decode
  · have found := loadStore_section law sec
    rwa [if_neg fun programmed => unlocked_of_programming lawful programmed locked] at found

end Sys2Proof.Machine
end

section
/-! CERTIFICATE. Every step keeps the store's law and its LOCKED sections: the changes of mode and the second events that bring copies into
force, the rows that leave the store, then every row (R153, R155, R159 to R161). -/

namespace Sys2Proof.Machine

/-- A step of the machine that keeps the store's law and its LOCKED sections. -/
def PermitKept (s t : State) : Prop := StoreKept s.pst t.pst

theorem PermitKept.refl (s : State) : PermitKept s s := StoreKept.refl s.pst

theorem PermitKept.trans {s t u : State} (first : PermitKept s t) (second : PermitKept t u) : PermitKept s u := StoreKept.trans first second

/-- The store stays. -/
theorem PermitKept.of_pst {s t : State} (pst : t.pst = s.pst) : PermitKept s t := StoreKept.of_eq pst

/-! ## The mode controller and the second event (R159) -/

/-- A change of mode puts a held copy in force, and reaches the store in no other way. -/
theorem changeMode_permitKept (m : ModeCtl) (s : State) : PermitKept s (s.changeMode m) := by
  have released := releaseHeldPlant_kept (s.entering m)
  have pst : (s.changeMode m).pst = (s.entering m).releaseHeldPlant.pst := by simp [State.changeMode_blocks]
  rw [PermitKept, pst]
  simpa using released

theorem permitKept_byController : KeptByController PermitKept where
  refl := PermitKept.refl
  trans := PermitKept.trans
  ports _ _ := .of_pst rfl
  items _ := .of_pst rfl
  change := changeMode_permitKept
  records _ _ _ := .of_pst rfl
  cleaning _ _ := .of_pst rfl
  draw _ := .of_pst rfl

theorem subEvent_permitKept (k : EventKind) (old : Bool) (e : SubEvent) (s : State) : PermitKept s (s.subEvent k old e) := by
  cases e with
  | emission => exact .of_pst (by simp [State.subEvent])
  | envelope => exact .of_pst (by simp [State.subEvent])
  | install =>
    dsimp only [State.subEvent]
    split
    · rw [PermitKept, State.installPending_pst]
      exact installed_kept s.pst
    · exact .refl s
  | activation =>
    dsimp only [State.subEvent]
    split
    · exact .of_pst (by simp)
    · exact .refl s
  | mode => exact permitKept_byController.modeSecond _ s

theorem secondEvent_permitKept (s : State) : PermitKept s s.secondEvent := by
  obtain ⟨k, free, -, -, second⟩ := s.secondEvent_eq
  have ticked : PermitKept s s.secondTicked := .of_pst (by simp)
  have ledger (u : State) : PermitKept u u.ledgerSecond := .of_pst (by simp)
  rw [second]
  exact ticked.trans (State.blocksSecond_related PermitKept.refl PermitKept.trans subEvent_permitKept ledger k _ _)

theorem refckEdge_permitKept (s : State) : PermitKept s s.refckEdge := by
  unfold State.refckEdge
  split
  · exact .refl s
  split
  · exact .of_pst rfl
  · exact secondEvent_permitKept s

/-! ## The resets (R161) -/

theorem powerOn_permitKept (s : State) : PermitKept s s.powerOn := loadStore_kept s

theorem pinReset_permitKept (s : State) : PermitKept s s.pinReset := by
  unfold State.pinReset
  split
  · exact .refl s
  · exact loadStore_kept s

/-! ## Rows that leave the store -/

section Quiet

variable (s : State) (p : Port)

theorem releaseReset_pst : s.releaseReset.pst = s.pst := by
  unfold State.releaseReset
  split <;> rfl

theorem doSetTime_pst (day : BitVec 16) (hour minute second : BitVec 8) (divisor : BitVec 24) (offset : BitVec 8) :
    (s.doSetTime p day hour minute second divisor offset).1.pst = s.pst := by
  unfold State.doSetTime
  (repeat' split) <;> rfl

theorem doStartClock_pst : (s.doStartClock p).1.pst = s.pst := by
  unfold State.doStartClock
  (repeat' split) <;> simp

theorem doStopClock_pst : (s.doStopClock p).1.pst = s.pst := by
  unfold State.doStopClock
  (repeat' split) <;> simp [State.stopRunning]

theorem stepClock_pst (shift : Int) : (s.stepClock shift).pst = s.pst := by
  by_cases forward : 0 < shift
  · simp [State.stepClock_forward s forward]
  · rw [State.stepClock_backward s forward]
    rfl

theorem doAdjustClock_pst (shift : BitVec 8) : (s.doAdjustClock p shift).1.pst = s.pst := by
  unfold State.doAdjustClock
  (repeat' split) <;> simp [stepClock_pst]

theorem doSetLead_pst (lead : BitVec 16) : (s.doSetLead p lead).1.pst = s.pst := by
  unfold State.doSetLead
  split <;> rfl

theorem doPostSamples_pst (o2 : BitVec 16) (o2Status : BitVec 8) (entries : List SampleEntry) :
    (s.doPostSamples p o2 o2Status entries).1.pst = s.pst := by
  have set (x : SampleSet) : (s.doSampleSet x).1.pst = s.pst := by
    unfold State.doSampleSet
    (repeat' split) <;> simp
  unfold State.doPostSamples
  (repeat' split) <;> simp [set]

theorem doSetReagents_pst (a b c : ReagentArgs) : (s.doSetReagents p a b c).1.pst = s.pst := by
  unfold State.doSetReagents
  (repeat' split) <;> simp

theorem doClearHistory_pst : (s.doClearHistory p).1.pst = s.pst := by
  unfold State.doClearHistory
  (repeat' split) <;> rfl

theorem doSetBoilerLimit_pst (limit : BitVec 16) : (s.doSetBoilerLimit p limit).1.pst = s.pst := by
  unfold State.doSetBoilerLimit
  split <;> simp

theorem doSetLanes_pst (split massA massB : BitVec 16) : (s.doSetLanes p split massA massB).1.pst = s.pst := by
  unfold State.doSetLanes
  split <;> simp

theorem doPostSteam_pst (flow : BitVec 16) : (s.doPostSteam p flow).1.pst = s.pst := by
  unfold State.doPostSteam
  split <;> simp

theorem doSetAuxDemand_pst (demand : BitVec 16) : (s.doSetAuxDemand p demand).1.pst = s.pst := by
  unfold State.doSetAuxDemand
  split <;> simp

theorem doSetConsumers_pst (turbine extraction : BitVec 8) : (s.doSetConsumers p turbine extraction).1.pst = s.pst := by
  unfold State.doSetConsumers
  (repeat' split) <;> simp

theorem doPostOrder_pst (args : OrderArgs) : (s.doPostOrder p args).1.pst = s.pst := by
  have placed (o : Order) (clamped : Bool) : (s.placeOrder o clamped).1.pst = s.pst := by
    dsimp only [State.placeOrder]
    (repeat' split) <;> simp
  unfold State.doPostOrder
  (repeat' split) <;> simp [placed]

theorem doCancelOrders_pst (tag : BitVec 16) : (s.doCancelOrders p tag).1.pst = s.pst := by
  unfold State.doCancelOrders
  split <;> rfl

theorem doPostEnergy_pst (exported heat : BitVec 32) : (s.doPostEnergy p exported heat).1.pst = s.pst := by
  unfold State.doPostEnergy
  split <;> simp

theorem doRestoreMeters_pst (totals : MeterArgs) : (s.doRestoreMeters p totals).1.pst = s.pst := by
  unfold State.doRestoreMeters
  (repeat' split) <;> simp

theorem doFreshMeters_pst : (s.doFreshMeters p).1.pst = s.pst := by
  unfold State.doFreshMeters
  (repeat' split) <;> simp

end Quiet

/-! ## The statement -/

theorem rowWork_permitKept (i : Instr) (s : State) : PermitKept s (rowWork i s) := by
  have controller := permitKept_byController
  cases i with
  | powerOn => exact powerOn_permitKept s
  | pinReset => exact pinReset_permitKept s
  | pinResetRelease => exact .of_pst (releaseReset_pst s)
  | refckEdge => exact refckEdge_permitKept s
  | secondEvent =>
    dsimp only [rowWork]
    split
    · exact secondEvent_permitKept s
    · exact .refl s
  | strokeUnitTick => exact controller.strokeUnit s
  | periodExpiry ch => exact controller.expirePeriod ch s
  | strokeLimitExpiry ch => exact controller.expireLimit ch s
  | eosArrival ch => exact .of_pst (by simp [rowWork])
  | programmingCompletion => exact completeProgramming_kept s
  | lockCompletion => exact completeLock_kept s
  | setTime => exact .of_pst (doSetTime_pst s _ _ _ _ _ _ _)
  | startClock => exact .of_pst (doStartClock_pst s _)
  | stopClock => exact .of_pst (doStopClock_pst s _)
  | adjustClock => exact .of_pst (doAdjustClock_pst s _ _)
  | setLead => exact .of_pst (doSetLead_pst s _ _)
  | start => exact controller.doStart _ s
  | feed => exact controller.doFeed _ s
  | stop => exact controller.doStop s
  | trip => exact controller.doTrip _ _ s
  | clearTrip => exact controller.doClearTrip _ s
  | postTemperature => exact controller.doPostTemperature _ _ s
  | postSamples => exact .of_pst (doPostSamples_pst s _ _ _ _)
  | setCleaning => exact controller.doSetCleaning _ _ s
  | setReagents => exact .of_pst (doSetReagents_pst s _ _ _ _)
  | clearHistory => exact .of_pst (doClearHistory_pst s _)
  | setBoilerLimit => exact .of_pst (doSetBoilerLimit_pst s _ _)
  | setChannel => exact controller.doSetChannel _ _ _ _ _ s
  | setLanes => exact .of_pst (doSetLanes_pst s _ _ _ _)
  | clearJam => exact controller.doClearJam _ _ s
  | postSteam => exact .of_pst (doPostSteam_pst s _ _)
  | setAuxDemand => exact .of_pst (doSetAuxDemand_pst s _ _)
  | setConsumers => exact .of_pst (doSetConsumers_pst s _ _ _)
  | postOrder => exact .of_pst (doPostOrder_pst s _ _)
  | cancelOrders => exact .of_pst (doCancelOrders_pst s _ _)
  | postEnergy => exact .of_pst (doPostEnergy_pst s _ _ _)
  | restoreMeters => exact .of_pst (doRestoreMeters_pst s _ _)
  | freshMeters => exact .of_pst (doFreshMeters_pst s _)
  | enableWrite p => exact setLatch_kept p true s
  | programSection p number image => exact doProgramSection_kept p number image s
  | lockSection p number => exact doLockSection_kept p number s
  | portReset p => exact setLatch_kept p false s
  | _ => exact .refl s

/-- The law is kept by rows: the ports and the queue of rows do not matter to it. -/
theorem permitKept_byRows : KeptByRows PermitKept :=
  ⟨PermitKept.refl, PermitKept.trans, fun _ _ => .of_pst rfl, fun _ _ => .of_pst rfl, rowWork_permitKept⟩

/-- Settles O59: each row's own work keeps the law and, under it, the LOCKED sections, so every step does. -/
theorem permitLawKeptAndLockedStays : Obligations.PermitLawKeptAndLockedStays := by
  unfold Obligations.PermitLawKeptAndLockedStays
  intro s t law h
  exact permitKept_byRows.step h law

end Sys2Proof.Machine
end

section
/-! SUPPORT. What the blocks' work at a row leaves of the ports: notices may join the sets, and RSTN and the queue stay. A frame handed to its
command is one of five takes: a write, a read, FETCH, SET_QUIET or PORT_RESET (R170 to R183). -/

namespace Sys2Proof.Machine

/-! ## The blocks' work (R180) -/

/-- The ports change in their notice sets alone, which only grow; RSTN and the queue stay. -/
structure NoticesJoin (s t : State) : Prop where
  grow  : PortsGrow s t
  rstn  : t.rstnLow = s.rstnLow
  queue : t.pending = s.pending

theorem NoticesJoin.refl (s : State) : NoticesJoin s s := ⟨.refl s, rfl, rfl⟩

/-- No port changes at all. -/
theorem NoticesJoin.of_ports {s t : State} (ports : t.ports = s.ports) (rstn : t.rstnLow = s.rstnLow) (queue : t.pending = s.pending) :
    NoticesJoin s t := by
  have port (p : Port) : t.port p = s.port p := congrArg (·.get p) ports
  exact ⟨fun p => by simp [port], rstn, queue⟩

theorem NoticesJoin.trans {s t u : State} (h : NoticesJoin s t) (k : NoticesJoin t u) : NoticesJoin s u :=
  ⟨h.grow.trans k.grow, k.rstn.trans h.rstn, k.queue.trans h.queue⟩

/-- The three parts, each for `simp` to carry through a chain of operations. -/
theorem noticesJoin_iff (s t : State) : NoticesJoin s t ↔ PortsGrow s t ∧ t.rstnLow = s.rstnLow ∧ t.pending = s.pending :=
  ⟨fun h => ⟨h.grow, h.rstn, h.queue⟩, fun ⟨grow, rstn, queue⟩ => ⟨grow, rstn, queue⟩⟩

section Work

variable (s : State) (p : Port)

/-! ### The clock's commands -/

theorem doSetTime_noticesJoin (day : BitVec 16) (hour minute second : BitVec 8) (divisor : BitVec 24) (offset : BitVec 8) :
    NoticesJoin s (s.doSetTime p day hour minute second divisor offset).1 := by
  unfold State.doSetTime
  (repeat' split) <;> exact .of_ports rfl rfl rfl

theorem startRunning_noticesJoin : NoticesJoin s s.startRunning := by
  rw [State.startRunning, State.startActivation]
  split <;> simp [noticesJoin_iff]

theorem doStartClock_noticesJoin : NoticesJoin s (s.doStartClock p).1 := by
  unfold State.doStartClock
  (repeat' split) <;> first | exact .refl s | exact startRunning_noticesJoin s

theorem doStopClock_noticesJoin : NoticesJoin s (s.doStopClock p).1 := by
  unfold State.doStopClock
  (repeat' split) <;> simp [noticesJoin_iff, refuse, State.stopRunning]

theorem stepClock_noticesJoin (shift : Int) : NoticesJoin s (s.stepClock shift) := by
  dsimp only [State.stepClock, State.passedMinute]
  (repeat' split) <;> simp [noticesJoin_iff]

theorem doAdjustClock_noticesJoin (shift : BitVec 8) : NoticesJoin s (s.doAdjustClock p shift).1 := by
  unfold State.doAdjustClock
  (repeat' split) <;> first | exact .refl s | exact stepClock_noticesJoin s _

theorem doSetLead_noticesJoin (lead : BitVec 16) : NoticesJoin s (s.doSetLead p lead).1 := by
  unfold State.doSetLead
  split <;> exact .of_ports rfl rfl rfl

/-! ### The mode controller's commands -/

theorem doStart_noticesJoin : NoticesJoin s (s.doStart p).1 := by
  unfold State.doStart
  (repeat' split) <;> simp [noticesJoin_iff, refuse]

theorem doFeed_noticesJoin : NoticesJoin s (s.doFeed p).1 := by
  unfold State.doFeed
  (repeat' split) <;> simp [noticesJoin_iff, refuse]

theorem doStop_noticesJoin : NoticesJoin s s.doStop.1 := by
  unfold State.doStop
  split <;> simp [noticesJoin_iff, refuse]

theorem doTrip_noticesJoin (cause : BitVec 8) : NoticesJoin s (s.doTrip p cause).1 := by
  unfold State.doTrip
  (repeat' split) <;> simp [noticesJoin_iff, refuse]

theorem doClearTrip_noticesJoin : NoticesJoin s (s.doClearTrip p).1 := by
  unfold State.doClearTrip
  (repeat' split) <;> simp [noticesJoin_iff, refuse]

theorem doPostTemperature_noticesJoin (value : BitVec 16) : NoticesJoin s (s.doPostTemperature p value).1 := by
  unfold State.doPostTemperature
  split <;> simp [noticesJoin_iff, refuse]

/-! ### The commands of the emission accounts and the envelope -/

theorem doSampleSet_noticesJoin (x : SampleSet) : NoticesJoin s (s.doSampleSet x).1 := by
  unfold State.doSampleSet
  (repeat' split) <;> simp [noticesJoin_iff, refuse]

theorem doPostSamples_noticesJoin (o2 : BitVec 16) (o2Status : BitVec 8) (entries : List SampleEntry) :
    NoticesJoin s (s.doPostSamples p o2 o2Status entries).1 := by
  unfold State.doPostSamples
  (repeat' split) <;> first | exact .refl s | exact doSampleSet_noticesJoin s _

theorem doSetCleaning_noticesJoin (availability : BitVec 8) : NoticesJoin s (s.doSetCleaning p availability).1 := by
  unfold State.doSetCleaning
  (repeat' split) <;> simp [noticesJoin_iff, refuse]

theorem doSetReagents_noticesJoin (a b c : ReagentArgs) : NoticesJoin s (s.doSetReagents p a b c).1 := by
  unfold State.doSetReagents
  (repeat' split) <;> simp [noticesJoin_iff, refuse]

theorem doClearHistory_noticesJoin : NoticesJoin s (s.doClearHistory p).1 := by
  unfold State.doClearHistory
  (repeat' split) <;> exact .of_ports rfl rfl rfl

theorem doSetBoilerLimit_noticesJoin (limit : BitVec 16) : NoticesJoin s (s.doSetBoilerLimit p limit).1 := by
  unfold State.doSetBoilerLimit
  split <;> simp [noticesJoin_iff, refuse]

/-! ### The commands of the stroke channels -/

theorem doSetChannel_noticesJoin (number enabled source : BitVec 8) (fixedPeriod : BitVec 16) :
    NoticesJoin s (s.doSetChannel p number enabled source fixedPeriod).1 := by
  unfold State.doSetChannel
  (repeat' split) <;> simp [noticesJoin_iff, refuse]

theorem doSetLanes_noticesJoin (split massA massB : BitVec 16) : NoticesJoin s (s.doSetLanes p split massA massB).1 := by
  unfold State.doSetLanes
  split <;> simp [noticesJoin_iff, refuse]

theorem doClearJam_noticesJoin (number : BitVec 8) : NoticesJoin s (s.doClearJam p number).1 := by
  unfold State.doClearJam
  (repeat' split) <;> simp [noticesJoin_iff, refuse]

/-! ### The ledger's commands -/

theorem doPostSteam_noticesJoin (flow : BitVec 16) : NoticesJoin s (s.doPostSteam p flow).1 := by
  unfold State.doPostSteam
  split <;> simp [noticesJoin_iff, refuse]

theorem doSetAuxDemand_noticesJoin (demand : BitVec 16) : NoticesJoin s (s.doSetAuxDemand p demand).1 := by
  unfold State.doSetAuxDemand
  split <;> simp [noticesJoin_iff, refuse]

theorem doSetConsumers_noticesJoin (turbine extraction : BitVec 8) : NoticesJoin s (s.doSetConsumers p turbine extraction).1 := by
  unfold State.doSetConsumers
  (repeat' split) <;> simp [noticesJoin_iff, refuse]

theorem placeOrder_noticesJoin (o : Order) (clamped : Bool) : NoticesJoin s (s.placeOrder o clamped).1 := by
  dsimp only [State.placeOrder]
  (repeat' split) <;> simp [noticesJoin_iff, refuse]

theorem doPostOrder_noticesJoin (args : OrderArgs) : NoticesJoin s (s.doPostOrder p args).1 := by
  unfold State.doPostOrder
  (repeat' split) <;> first | exact .refl s | exact placeOrder_noticesJoin s _ _

theorem doCancelOrders_noticesJoin (tag : BitVec 16) : NoticesJoin s (s.doCancelOrders p tag).1 := by
  unfold State.doCancelOrders
  split <;> exact .of_ports rfl rfl rfl

/-! ### The commands of the meters and the store -/

theorem doPostEnergy_noticesJoin (exported heat : BitVec 32) : NoticesJoin s (s.doPostEnergy p exported heat).1 := by
  unfold State.doPostEnergy
  split <;> simp [noticesJoin_iff, refuse]

theorem doRestoreMeters_noticesJoin (totals : MeterArgs) : NoticesJoin s (s.doRestoreMeters p totals).1 := by
  unfold State.doRestoreMeters
  (repeat' split) <;> simp [noticesJoin_iff, refuse]

theorem doFreshMeters_noticesJoin : NoticesJoin s (s.doFreshMeters p).1 := by
  unfold State.doFreshMeters
  (repeat' split) <;> simp [noticesJoin_iff, refuse]

theorem doProgramSection_noticesJoin (number : BitVec 8) (image : List Byte) : NoticesJoin s (s.doProgramSection p number image).1 := by
  unfold State.doProgramSection State.programSection
  (repeat' split) <;> exact .of_ports rfl rfl rfl

theorem doLockSection_noticesJoin (number : BitVec 8) : NoticesJoin s (s.doLockSection p number).1 := by
  unfold State.doLockSection State.lockSection
  (repeat' split) <;> exact .of_ports rfl rfl rfl

/-! ### The events -/

theorem secondEvent_noticesJoin : NoticesJoin s s.secondEvent := by
  obtain ⟨k, free, -, -, second⟩ := s.secondEvent_eq
  simp [second, State.secondTicked, noticesJoin_iff]

theorem refckEdge_noticesJoin : NoticesJoin s s.refckEdge := by
  unfold State.refckEdge
  split
  · exact .refl s
  split
  · exact .of_ports rfl rfl rfl
  · exact secondEvent_noticesJoin s

theorem strokeUnit_noticesJoin : NoticesJoin s s.strokeUnit := by
  have all : NoticesJoin s s.expireAll :=
    State.expireAll_related NoticesJoin.refl NoticesJoin.trans (fun _ => .of_ports rfl rfl rfl) (fun u ch => by simp [noticesJoin_iff]) s
  exact all.trans (.of_ports rfl rfl rfl)

end Work

/-- The blocks' work at any row but a reset. -/
theorem rowWork_noticesJoin {i : Instr} (noReset : isReset i = false) (s : State) : NoticesJoin s (rowWork i s) := by
  cases i with
  | powerOn | pinReset | pinResetRelease => cases noReset
  | refckEdge => exact refckEdge_noticesJoin s
  | secondEvent =>
    dsimp only [rowWork]
    split
    · exact secondEvent_noticesJoin s
    · exact .refl s
  | strokeUnitTick => exact strokeUnit_noticesJoin s
  | periodExpiry ch => simp [rowWork, noticesJoin_iff]
  | strokeLimitExpiry ch => simp [rowWork, noticesJoin_iff]
  | eosArrival ch => simp [rowWork, noticesJoin_iff]
  | programmingCompletion => simp [rowWork, noticesJoin_iff]
  | lockCompletion => simp [rowWork, noticesJoin_iff]
  | setTime => exact doSetTime_noticesJoin s _ _ _ _ _ _ _
  | startClock => exact doStartClock_noticesJoin s _
  | stopClock => exact doStopClock_noticesJoin s _
  | adjustClock => exact doAdjustClock_noticesJoin s _ _
  | setLead => exact doSetLead_noticesJoin s _ _
  | start => exact doStart_noticesJoin s _
  | feed => exact doFeed_noticesJoin s _
  | stop => exact doStop_noticesJoin s
  | trip => exact doTrip_noticesJoin s _ _
  | clearTrip => exact doClearTrip_noticesJoin s _
  | postTemperature => exact doPostTemperature_noticesJoin s _ _
  | postSamples => exact doPostSamples_noticesJoin s _ _ _ _
  | setCleaning => exact doSetCleaning_noticesJoin s _ _
  | setReagents => exact doSetReagents_noticesJoin s _ _ _ _
  | clearHistory => exact doClearHistory_noticesJoin s _
  | setBoilerLimit => exact doSetBoilerLimit_noticesJoin s _ _
  | setChannel => exact doSetChannel_noticesJoin s _ _ _ _ _
  | setLanes => exact doSetLanes_noticesJoin s _ _ _ _
  | clearJam => exact doClearJam_noticesJoin s _ _
  | postSteam => exact doPostSteam_noticesJoin s _ _
  | setAuxDemand => exact doSetAuxDemand_noticesJoin s _ _
  | setConsumers => exact doSetConsumers_noticesJoin s _ _ _
  | postOrder => exact doPostOrder_noticesJoin s _ _
  | cancelOrders => exact doCancelOrders_noticesJoin s _ _
  | postEnergy => exact doPostEnergy_noticesJoin s _ _ _
  | restoreMeters => exact doRestoreMeters_noticesJoin s _ _
  | freshMeters => exact doFreshMeters_noticesJoin s _
  | programSection => exact doProgramSection_noticesJoin s _ _ _
  | lockSection => exact doLockSection_noticesJoin s _ _
  | _ => exact .of_ports rfl rfl rfl

/-! ## The five takes -/

/-- How a command's frame is taken on its port: as a write, whose work on the blocks is the row's; as a read; or as one of the port
controller's own three commands. -/
inductive TakeOf (p : Port) (i : Instr) : Prop
  | write (run : State → State × Reply) (work : ∀ s, (run s).1 = rowWork i s) (take : ∀ s : State, s.takeFrame i = s.takeWrite p run)
      (noRead : asRead i = none) : TakeOf p i
  | read (cmd : ReadCmd) (rep : Bool) (take : ∀ s : State, s.takeFrame i = s.takeRead p rep cmd) (asked : asRead i = some (cmd, rep)) : TakeOf p i
  | fetch (row : i = .fetch p) : TakeOf p i
  | quiet (mask : BitVec 16) (row : i = .setQuiet p mask) : TakeOf p i
  | portReset (row : i = .portReset p) : TakeOf p i

theorem takeOf_command {i : Instr} {p : Port} (command : i.port? = some p) : TakeOf p i := by
  cases i with
  | readClock | readMode | readAccumulators | readHistory | readDays | readEnvelope | readDemand | readChannels | readLedger | readOrders
  | readMeters | storeStatus | readSection | readNotices =>
    cases command
    exact .read _ _ (fun _ => rfl) rfl
  | fetch => cases command; exact .fetch rfl
  | setQuiet => cases command; exact .quiet _ rfl
  | portReset => cases command; exact .portReset rfl
  | _ =>
    cases command <;> exact .write _ (fun _ => rfl) (fun _ => rfl) rfl

theorem isReset_of_command {i : Instr} {p : Port} (command : i.port? = some p) : isReset i = false := by
  cases i <;> first | rfl | cases command

end Sys2Proof.Machine
end

section
/-! SUPPORT and CERTIFICATE. The frame of a command and its reading: the bytes of a frame, fields read from the bytes that were written, and
the round trip of every command (R163 to R167, R170). -/

namespace Sys2Proof.Machine

/-! ## The bytes of a frame (R163) -/

theorem commandFrame_eq (i : Instr) :
    commandFrame i = BitVec.ofNat 8 i.opcode :: (be 2 i.argBytes.length ++ (i.argBytes
      ++ be 2 (crc16 (BitVec.ofNat 8 i.opcode :: (be 2 i.argBytes.length ++ i.argBytes))).toNat)) := by
  simp [commandFrame, withCrc]

@[simp] theorem commandFrame_length (i : Instr) : (commandFrame i).length = i.argBytes.length + 5 := by
  simp [commandFrame_eq]
  omega

/-- The arguments in a frame: what lies between its three header bytes and its CRC. -/
theorem commandFrame_args (i : Instr) : ((commandFrame i).drop 3).take ((commandFrame i).length - 5) = i.argBytes := by
  rw [commandFrame_length, Nat.add_sub_cancel, commandFrame_eq, List.drop_succ_cons, List.drop_append_of_le_length (by simp)]
  simp [List.drop_eq_nil_of_le]

theorem repeatCode_le (rep : Bool) (code : Nat) : repeatCode rep code ≤ code + 0x80 := by
  cases rep <;> simp [repeatCode]

/-- No OP is above that of READ_NOTICES with the repeat flag (R167). -/
theorem opcode_le (i : Instr) : i.opcode ≤ 0xD1 := by
  cases i with
  | readClock | readMode | readAccumulators | readHistory | readDays | readEnvelope | readDemand | readChannels | readLedger | readOrders
  | readMeters | storeStatus | readSection | readNotices => exact (repeatCode_le _ _).trans (by decide)
  | _ => exact Nat.le_of_ble_eq_true rfl

/-- A command's frame passes the CRC check, and its OP and arguments are read (R170). -/
theorem checkFrame_commandFrame (p : Port) (i : Instr) : checkFrame p (commandFrame i) = readCommand p i.opcode i.argBytes := by
  have op : (byteAt (commandFrame i) 0).toNat = i.opcode := by
    simp [commandFrame_eq, byteAt, Nat.mod_eq_of_lt (show i.opcode < 256 from (opcode_le i).trans_lt (by decide))]
  have crc : crcOk (commandFrame i) = true := crcOk_withCrc _
  rw [checkFrame, if_pos crc, op, commandFrame_args]

/-! ## Fields read from written bytes -/

section Fields

variable {rest : List Byte} {off width k n : Nat} {b : Byte}

@[simp] theorem byteAt_cons_zero : byteAt (b :: rest) 0 = b := rfl
@[simp] theorem byteAt_cons_succ : byteAt (b :: rest) (off + 1) = byteAt rest off := rfl

theorem byteAt_append_be (h : k ≤ off) : byteAt (be k n ++ rest) off = byteAt rest (off - k) := by
  simp [byteAt, List.getElem?_append, Nat.not_lt.2 h]

@[simp] theorem field_cons_succ : field (b :: rest) (off + 1) width = field rest off width := rfl

theorem field_append_be (h : k ≤ off) : field (be k n ++ rest) off width = field rest (off - k) width := by
  simp [field, List.drop_append, List.drop_eq_nil_of_le, h]

/-- The unsigned value of a word, written first and read back. -/
theorem field_be_append {w : Nat} (x : BitVec w) (size : 2 ^ w = 256 ^ k) : field (be k x.toNat ++ rest) 0 k = x.toNat := by
  rw [field, List.drop_zero, List.take_left' (be_length _ _)]
  exact ofBe_be (size ▸ x.isLt)

theorem field_be {w : Nat} (x : BitVec w) (size : 2 ^ w = 256 ^ k) : field (be k x.toNat) 0 k = x.toNat := by
  simpa using field_be_append (rest := []) x size

end Fields

/-- The entries of a sample set, written and read back (R166). -/
theorem readEntries_encode (entries : List SampleEntry) : readEntries entries.length (entries.flatMap SampleEntry.encode) = entries := by
  induction entries with
  | nil => rfl
  | cons e entries ih =>
    simp [readEntries, SampleEntry.encode, byteAt_append_be, field_be_append, ih, List.drop_append, List.drop_eq_nil_of_le]

theorem encode_length (e : SampleEntry) : e.encode.length = 4 := by simp [SampleEntry.encode]

/-! ## The round trip -/

/-- A read's code, with the repeat flag or without (R167, R170). -/
theorem readCommand_repeatCode {p : Port} {rep : Bool} {code : Nat} {args : List Byte} {i : Instr} (low : code < 0x80)
    (read : readRead p rep code args = .command i) : readCommand p (repeatCode rep code) args = .command i := by
  cases rep with
  | true => simpa [readCommand, repeatCode] using read
  | false =>
    rw [repeatCode, if_neg nofun, readCommand, if_neg (Nat.not_le.2 low), read]

/-- OP and the arguments of a command spell the command (R166, R167). -/
theorem readCommand_argBytes {i : Instr} {p : Port} (command : i.port? = some p) (fits : i.wellFormed = true) :
    readCommand p i.opcode i.argBytes = .command i := by
  cases i with
  | postSamples q o2 o2Status entries =>
    cases command
    have few : entries.length ≤ 255 := by
      have room : 4 + 4 * entries.length ≤ maxLen := of_decide_eq_true fits
      unfold maxLen at room
      omega
    have size : (entries.flatMap SampleEntry.encode).length = 4 * entries.length := by
      simp [List.length_flatMap, encode_length, Nat.mul_comm]
    simp [readCommand, readRead, readPlain, Instr.opcode, Instr.argBytes, size, byteAt_append_be, field_be_append, List.drop_append,
      List.drop_eq_nil_of_le, readEntries_encode, Nat.mod_eq_of_lt (Nat.lt_succ_of_le few)]
    omega
  | programSection q number image =>
    cases command
    have room : image.length + 1 ≤ maxLen := Nat.add_comm 1 image.length ▸ of_decide_eq_true fits
    simp [readCommand, readRead, readPlain, Instr.opcode, Instr.argBytes, room]
  | startClock | stopClock | start | feed | stop | clearTrip | clearHistory | freshMeters | enableWrite | fetch | portReset
  | adjustClock | trip | setCleaning | clearJam | setConsumers | lockSection =>
    cases command
    rfl
  | readClock | readMode | readAccumulators | readEnvelope | readDemand | readChannels | readLedger | readOrders | readMeters | storeStatus
  | readSection | readNotices =>
    cases command
    exact readCommand_repeatCode (by decide) rfl
  | readHistory | readDays =>
    cases command
    exact readCommand_repeatCode (by decide) (by simp [readRead, Instr.argBytes, fixedLen, byteAt_append_be, field_be_append])
  | _ =>
    cases command <;>
    simp [readCommand, readRead, readPlain, Instr.opcode, Instr.argBytes, fixedLen, byteAt_append_be, field_append_be, field_be_append,
      field_be]

/-- Settles O4: the frame passes its CRC check, and its OP and arguments spell the command. -/
theorem commandFrameRoundTrip : Obligations.CommandFrameRoundTrip := by
  unfold Obligations.CommandFrameRoundTrip
  intro i p command fits
  rw [checkFrame_commandFrame, readCommand_argBytes command fits]

end Sys2Proof.Machine
end

section
/-! SUPPORT. The answers of a frame's checks by the table of command codes: the row that OP spells, and whether the length fits it (R167, R170). -/

namespace Sys2Proof.Machine

/-! ## The table (R167) -/

theorem commandTable_code_low : ∀ row ∈ commandTable, row.1 < 0x80 := by decide

theorem commandTable_codes_nodup : (commandTable.map Prod.fst).Nodup := by decide

/-- OP spells one row at most. -/
theorem spells_unique {op : Nat} {row other : Nat × Bool × Option Nat} (listed : row ∈ commandTable) (otherListed : other ∈ commandTable)
    (spelt : spells op row) (otherSpelt : spells op other) : row = other := by
  have low := commandTable_code_low row listed
  have otherLow := commandTable_code_low other otherListed
  have code : row.1 = other.1 := by
    rcases spelt with same | ⟨-, same⟩ <;> rcases otherSpelt with otherSame | ⟨-, otherSame⟩ <;> omega
  exact List.inj_on_of_nodup_map commandTable_codes_nodup listed otherListed code

/-! ## The answers -/

/-- The answers to a command's code and arguments, by the rows of the table that the code is known by: UNKNOWN_OP where there is none, and
else by the length. -/
inductive Answered (p : Port) (op : Nat) (args : List Byte) (known : Nat × Bool × Option Nat → Prop) : FrameCheck → Prop
  | unknownOp (none : ∀ row ∈ commandTable, ¬ known row) : Answered p op args known .unknownOp
  | badLen {row} (listed : row ∈ commandTable) (isKnown : known row) (misfit : lenFits row args = false) : Answered p op args known .badLen
  | command {row i} (listed : row ∈ commandTable) (isKnown : known row) (fit : lenFits row args = true) (port : i.port? = some p)
      (opcode : i.opcode = op) : Answered p op args known (.command i)

section Answers

variable {p : Port} {op n : Nat} {args : List Byte} {known other : Nat × Bool × Option Nat → Prop} {answer : FrameCheck} {i : Instr}

/-- Rows known by another description of the same rows. -/
theorem Answered.congr (h : Answered p op args known answer) (same : ∀ row ∈ commandTable, known row ↔ other row) :
    Answered p op args other answer := by
  cases h with
  | unknownOp none => exact .unknownOp fun row listed => (same row listed).not.1 (none row listed)
  | badLen listed isKnown misfit => exact .badLen listed ((same _ listed).1 isKnown) misfit
  | command listed isKnown fit port opcode => exact .command listed ((same _ listed).1 isKnown) fit port opcode

/-- A command whose LEN is fixed (R167). -/
theorem Answered.fixed {code : Nat} {reads : Bool} (listed : (code, reads, some n) ∈ commandTable) (isKnown : known (code, reads, some n))
    (port : i.port? = some p) (opcode : i.opcode = op) : Answered p op args known (fixedLen args n i) := by
  unfold fixedLen
  split
  · next length => exact .command listed isKnown (beq_iff_eq.2 length) port opcode
  · next length => exact .badLen listed isKnown (beq_eq_false_iff_ne.2 length)

/-- A command whose LEN varies (R167). -/
theorem Answered.counted {row} {fits : Prop} [Decidable fits] (listed : row ∈ commandTable) (isKnown : known row)
    (length : lenFits row args = true ↔ fits) (port : i.port? = some p) (opcode : i.opcode = op) :
    Answered p op args known (if fits then .command i else .badLen) := by
  split
  · next fit => exact .command listed isKnown (length.2 fit) port opcode
  · next misfit => exact .badLen listed isKnown (Bool.eq_false_iff.2 (length.not.2 misfit))

/-- One code in a chain of codes. -/
theorem Answered.next {code listed : Nat} {rest : FrameCheck} (here : code = listed → Answered p op args known answer)
    (there : code ≠ listed → Answered p op args known rest) : Answered p op args known (if code = listed then answer else rest) := by
  split
  · next same => exact here same
  · next otherCode => exact there otherCode

end Answers

/-- A read's code, without the flag. -/
theorem readRead_answered (p : Port) (rep : Bool) (code : Nat) (args : List Byte) :
    Answered p (repeatCode rep code) args (fun row => row.2.1 = true ∧ row.1 = code) (readRead p rep code args) := by
  unfold readRead
  iterate 14
    refine .next (by rintro rfl; exact .fixed (by decide) ⟨rfl, rfl⟩ rfl rfl) fun _ => ?_
  refine .unknownOp fun row listed ⟨reads, same⟩ => ?_
  have codes : ∀ row ∈ commandTable, row.2.1 = true →
      row.1 ∈ [0x06, 0x16, 0x24, 0x25, 0x26, 0x29, 0x2A, 0x33, 0x3D, 0x3E, 0x43, 0x4B, 0x4C, 0x51] := by decide
  have listedCode := codes row listed reads
  simp_all

/-- A code that is no read's. -/
theorem readPlain_answered (p : Port) (op : Nat) (args : List Byte) :
    Answered p op args (fun row => row.2.1 = false ∧ row.1 = op) (readPlain p op args) := by
  unfold readPlain
  iterate 11
    refine .next (by rintro rfl; exact .fixed (by decide) ⟨rfl, rfl⟩ rfl rfl) fun _ => ?_
  refine .next ?_ fun _ => ?_
  · rintro rfl
    exact .counted (row := (0x20, false, none)) (by decide) ⟨rfl, rfl⟩ (by simp [lenFits]) rfl rfl
  iterate 16
    refine .next (by rintro rfl; exact .fixed (by decide) ⟨rfl, rfl⟩ rfl rfl) fun _ => ?_
  refine .next ?_ fun _ => ?_
  · rintro rfl
    exact .counted (row := (0x49, false, none)) (by decide) ⟨rfl, rfl⟩ (by simp [lenFits, maxLen]) rfl rfl
  iterate 4
    refine .next (by rintro rfl; exact .fixed (by decide) ⟨rfl, rfl⟩ rfl rfl) fun _ => ?_
  refine .unknownOp fun row listed ⟨plain, same⟩ => ?_
  have codes : ∀ row ∈ commandTable, row.2.1 = false →
      row.1 ∈ [0x01, 0x02, 0x03, 0x04, 0x05, 0x10, 0x11, 0x12, 0x13, 0x14, 0x15, 0x20, 0x21, 0x22, 0x23, 0x28, 0x30, 0x31, 0x32, 0x38,
        0x39, 0x3A, 0x3B, 0x3C, 0x40, 0x41, 0x42, 0x48, 0x49, 0x4A, 0x50, 0x52, 0x53] := by decide
  have listedCode := codes row listed plain
  simp_all

/-- OP and the arguments are answered by the row that OP spells (R170). -/
theorem readCommand_answered (p : Port) (op : Nat) (args : List Byte) : Answered p op args (spells op) (readCommand p op args) := by
  unfold readCommand
  split
  · next high =>
    have reads := readRead_answered p true (op - 0x80) args
    rw [show repeatCode true (op - 0x80) = op from Nat.sub_add_cancel high] at reads
    refine reads.congr fun row listed => ?_
    have low := commandTable_code_low row listed
    constructor
    · rintro ⟨isRead, same⟩
      exact .inr ⟨isRead, by omega⟩
    · rintro (same | ⟨isRead, same⟩)
      · omega
      · exact ⟨isRead, by omega⟩
  · next low =>
    have reads : Answered p op args _ (readRead p false op args) := readRead_answered p false op args
    generalize readRead p false op args = answer at reads
    cases reads with
    | unknownOp noRead =>
      refine (readPlain_answered p op args).congr fun row listed => ⟨fun ⟨_, same⟩ => .inl same.symm, ?_⟩
      rintro (same | ⟨-, same⟩)
      · exact ⟨Bool.eq_false_iff.2 fun isRead => noRead row listed ⟨isRead, same.symm⟩, same.symm⟩
      · omega
    | badLen listed isKnown misfit => exact .badLen listed (.inl isKnown.2.symm) misfit
    | command listed isKnown fit port opcode => exact .command listed (.inl isKnown.2.symm) fit port opcode

/-! ## The checks of a frame (R170) -/

section Spelt

variable {p : Port} {op : Nat} {args : List Byte} {answer : FrameCheck}

theorem Answered.ne_badCrc {known : Nat × Bool × Option Nat → Prop} (h : Answered p op args known answer) : answer ≠ .badCrc := by
  cases h <;> nofun

theorem Answered.unknownOp_iff (h : Answered p op args (spells op) answer) :
    answer = .unknownOp ↔ ∀ row ∈ commandTable, ¬ spells op row := by
  cases h with
  | unknownOp none => exact ⟨fun _ => none, fun _ => rfl⟩
  | badLen listed spelt => exact ⟨nofun, fun none => absurd spelt (none _ listed)⟩
  | command listed spelt => exact ⟨nofun, fun none => absurd spelt (none _ listed)⟩

theorem Answered.badLen_iff (h : Answered p op args (spells op) answer) :
    answer = .badLen ↔ ∃ row ∈ commandTable, spells op row ∧ lenFits row args = false := by
  cases h with
  | unknownOp none => exact ⟨nofun, fun ⟨row, listed, spelt, _⟩ => absurd spelt (none row listed)⟩
  | badLen listed spelt misfit => exact ⟨fun _ => ⟨_, listed, spelt, misfit⟩, fun _ => rfl⟩
  | command listed spelt fit =>
    refine ⟨nofun, fun ⟨row, otherListed, otherSpelt, misfit⟩ => ?_⟩
    rw [spells_unique otherListed listed otherSpelt spelt, fit] at misfit
    cases misfit

theorem Answered.of_command {i : Instr} (h : Answered p op args (spells op) answer) (command : answer = .command i) :
    i.port? = some p ∧ i.opcode = op := by
  cases h <;> cases command
  next port opcode => exact ⟨port, opcode⟩

end Spelt

/-- A frame that fails the CRC check. -/
theorem checkFrame_open {frame : List Byte} (crc : crcOk frame = false) (p : Port) : checkFrame p frame = .badCrc := by
  rw [checkFrame, if_neg (Bool.eq_false_iff.1 crc)]

/-- A frame that passes it is answered by its OP and its arguments. -/
theorem checkFrame_answered {frame : List Byte} (crc : crcOk frame = true) (p : Port) :
    Answered p (byteAt frame 0).toNat ((frame.drop 3).take (frame.length - 5)) (spells (byteAt frame 0).toNat) (checkFrame p frame) := by
  rw [checkFrame, if_pos crc]
  exact readCommand_answered p _ _

/-- A frame's command is one of the port it came on. -/
theorem checkFrame_command {p : Port} {frame : List Byte} {i : Instr} (command : checkFrame p frame = .command i) :
    i.port? = some p ∧ i.opcode = (byteAt frame 0).toNat := by
  rcases crc : crcOk frame
  · rw [checkFrame_open crc] at command
    cases command
  · exact (checkFrame_answered crc p).of_command command

/-- The three checks in their order. -/
theorem checkFrame_iffs (p : Port) (frame : List Byte) :
    let op := (byteAt frame 0).toNat
    let args := (frame.drop 3).take (frame.length - 5)
    let closed := frame = withCrc (frame.take (frame.length - 2))
    (checkFrame p frame = .badCrc ↔ ¬ closed)
      ∧ (checkFrame p frame = .unknownOp ↔ closed ∧ ∀ row ∈ commandTable, ¬ spells op row)
      ∧ (checkFrame p frame = .badLen ↔ closed ∧ ∃ row ∈ commandTable, spells op row ∧ lenFits row args = false)
      ∧ ∀ i, checkFrame p frame = .command i → i.port? = some p ∧ i.opcode = op := by
  intro op args closed
  rcases crc : crcOk frame
  · have notClosed : ¬ closed := fun h => by simp [(crcOk_iff frame).2 h] at crc
    simp [checkFrame_open crc, notClosed]
  · have isClosed : closed := (crcOk_iff frame).1 crc
    have answered := checkFrame_answered crc p
    simp only [isClosed, not_true_eq_false, true_and, iff_false]
    exact ⟨answered.ne_badCrc, answered.unknownOp_iff, answered.badLen_iff, fun i => answered.of_command⟩

/-! ## The bytes of a frame in progress (R169) -/

section Progress

variable {bytes frame more : List Byte}

/-- A frame begun and not complete. -/
theorem frameState_eq_part : frameState bytes = .part frame ↔
    frame = bytes ∧ bytes ≠ [] ∧ (bytes.length < 3 ∨ field bytes 1 2 ≤ maxLen ∧ bytes.length < field bytes 1 2 + 5) := by
  unfold frameState
  constructor
  · intro h
    (repeat' split at h) <;> cases h <;> simp_all
  · rintro ⟨rfl, begun, short⟩
    rw [if_neg begun]
    split
    · rfl
    · rw [if_neg (by omega), if_pos (by omega)]

theorem frameState_eq_tooLong : frameState bytes = .tooLong ↔ 3 ≤ bytes.length ∧ maxLen < field bytes 1 2 := by
  unfold frameState
  (repeat' split) <;> simp_all

theorem frameState_eq_complete : frameState bytes = .complete frame ↔
    field bytes 1 2 ≤ maxLen ∧ field bytes 1 2 + 5 ≤ bytes.length ∧ frame = bytes.take (field bytes 1 2 + 5) := by
  unfold frameState
  constructor
  · intro h
    (repeat' split at h) <;> cases h
    exact ⟨by omega, by omega, rfl⟩
  · rintro ⟨small, enough, rfl⟩
    have begun : bytes ≠ [] := by
      rintro rfl
      simp at enough
    rw [if_neg begun, if_neg (by omega), if_neg (by omega), if_neg (by omega)]

/-- The two bytes of LEN are settled with the third byte. -/
theorem field_len_append (header : 3 ≤ bytes.length) (more : List Byte) : field (bytes ++ more) 1 2 = field bytes 1 2 :=
  field_congr fun _ _ _ => List.getElem?_append_left (by omega)

/-- What comes after a complete frame is dropped. -/
theorem frameState_append_complete (whole : frameState frame = .complete frame) (more : List Byte) :
    frameState (frame ++ more) = .complete frame := by
  obtain ⟨small, enough, same⟩ := frameState_eq_complete.1 whole
  have length : frame.length = field frame 1 2 + 5 := by
    have := congrArg List.length same
    rw [List.length_take] at this
    omega
  rw [frameState_eq_complete, field_len_append (by omega) more]
  exact ⟨small, by rw [List.length_append]; omega, by rw [← length, List.take_left]⟩

theorem frameState_append_tooLong (tooLong : frameState frame = .tooLong) (more : List Byte) : frameState (frame ++ more) = .tooLong := by
  obtain ⟨header, long⟩ := frameState_eq_tooLong.1 tooLong
  rw [frameState_eq_tooLong, field_len_append header more]
  exact ⟨by rw [List.length_append]; omega, long⟩

/-- The start of a complete frame is a frame in progress. -/
theorem frameState_of_prefix {a b : List Byte} (whole : frameState (a ++ b) = .complete (a ++ b)) (begun : a ≠ []) (left : b ≠ []) :
    frameState a = .part a := by
  obtain ⟨small, -, same⟩ := frameState_eq_complete.1 whole
  have length := congrArg List.length same
  have positive := List.length_pos_iff.2 left
  rw [List.length_take, List.length_append] at length
  refine frameState_eq_part.2 ⟨rfl, begun, ?_⟩
  rcases Nat.lt_or_ge a.length 3 with short | header
  · exact .inl short
  · rw [field_len_append header b] at small length
    exact .inr ⟨small, by omega⟩

end Progress

/-! ## The frame of a command in progress -/

theorem argBytes_length_le {i : Instr} (fits : i.wellFormed = true) : i.argBytes.length ≤ maxLen := by
  cases i with
  | postSamples q o2 o2Status entries =>
    have room : 4 + 4 * entries.length ≤ maxLen := of_decide_eq_true fits
    simp [Instr.argBytes, List.length_flatMap, encode_length]
    omega
  | programSection q number image =>
    have room : 1 + image.length ≤ maxLen := of_decide_eq_true fits
    simpa [Instr.argBytes, Nat.add_comm] using room
  | _ => simp [Instr.argBytes, maxLen]

/-- A command's frame is a complete frame. -/
theorem frameState_commandFrame {i : Instr} (fits : i.wellFormed = true) : frameState (commandFrame i) = .complete (commandFrame i) := by
  have small := argBytes_length_le fits
  have len : field (commandFrame i) 1 2 = i.argBytes.length := by
    rw [commandFrame_eq, field_cons_succ, field, List.drop_zero, List.take_left' (be_length _ _)]
    exact ofBe_be (by unfold maxLen at small; omega)
  rw [frameState_eq_complete, len]
  exact ⟨small, by simp, by rw [← commandFrame_length, List.take_length]⟩

/-- Bytes that do not begin with an idle byte are kept whole (R168). -/
theorem joinBytes_of_head {bytes : List Byte} (head : bytes.head? ≠ some 0xFF#8) : joinBytes [] bytes = bytes := by
  cases bytes with
  | nil => rfl
  | cons b bytes =>
    have noIdle : b ≠ 0xFF#8 := by simpa using head
    simp [joinBytes, noIdle]

end Sys2Proof.Machine
end

section
/-! SUPPORT. What a row does to the ports: its own port by the take of a frame, or by an event of the link, and every other port by notices that
join its set (R169 to R184). -/

namespace Sys2Proof.Machine

/-! ## Reads and the port's own commands -/

/-- A read changes its port's notice set at most (R181). -/
theorem State.runRead_state (p : Port) (cmd : ReadCmd) (s : State) :
    ∃ notices, (s.runRead p cmd).1 = s.setPort p { s.port p with notices := notices } := by
  cases cmd with
  | notices clear =>
    dsimp only [State.runRead, State.readNotices]
    split
    · dsimp only
      split
      · exact ⟨_, rfl⟩
      · exact ⟨_, (State.setPort_port p s).symm⟩
    · exact ⟨_, (State.setPort_port p s).symm⟩
  | _ => exact ⟨_, (State.setPort_port p s).symm⟩

/-- A command's frame is taken the same whatever is left of an earlier frame: the take drops it (R170). -/
theorem State.takeFrame_of_taken {i : Instr} {p : Port} (command : i.port? = some p) {s : State} {c : PortCtl}
    (same : taken c = taken (s.port p)) : (s.setPort p c).takeFrame i = s.takeFrame i := by
  have slot : c.slot = (s.port p).slot := congrArg (·.slot) same
  have arm : c.arm = (s.port p).arm := congrArg (·.arm) same
  have begun : (s.setPort p c).beginTake p = s.beginTake p := by simp [State.beginTake, same]
  cases takeOf_command command with
  | write run _ take => rw [take, take, State.takeWrite, State.takeWrite, begun]
  | read cmd rep take => rw [take, take, State.takeRead, State.takeRead, begun]
  | fetch row =>
    subst row
    simp only [State.takeFrame, State.takeFetch, State.port_setPort_same, State.setPort_setPort, same, slot, arm]
  | quiet mask row =>
    subst row
    simp only [State.takeFrame, State.takeQuiet, State.port_setPort_same, State.setPort_setPort, same]
  | portReset row =>
    subst row
    simp only [State.takeFrame, State.takePortReset, portReset, State.port_setPort_same, State.setPort_setPort, same]

/-! ## A row on a port's link -/

/-- A port with no frame in progress and no transaction to be ignored. -/
structure AtRest (c : PortCtl) : Prop where
  frame     : c.frame = []
  suspended : c.suspended = false
  timer     : c.timer = .stopped
  ignoring  : c.ignoring = false

/-- What a row on one port's link leaves: notices may join the sets of the other ports, RSTN and the queue stay, and the port itself keeps its
law and, with RSTN low, has no frame (R169, R171, R173, R174, R176, R180, R184). -/
structure LinkRow (p : Port) (s t : State) : Prop where
  others : ∀ q, q ≠ p → t.port q = { s.port q with notices := (t.port q).notices } ∧ ∀ n, s.holds q n = true → t.holds q n = true
  rstn   : t.rstnLow = s.rstnLow
  queue  : t.pending = s.pending
  law    : PortLaw (s.port p) → PortLaw (t.port p)
  low    : s.rstnLow = true → (s.port p).frame = [] ∧ (s.port p).ignoring = false → (t.port p).frame = [] ∧ (t.port p).ignoring = false

/-- The take of a frame on a port, which is at rest after it. -/
structure Took (p : Port) (s t : State) : Prop where
  others : ∀ q, q ≠ p → t.port q = { s.port q with notices := (t.port q).notices } ∧ ∀ n, s.holds q n = true → t.holds q n = true
  rstn   : t.rstnLow = s.rstnLow
  queue  : t.pending = s.pending
  rest   : AtRest (t.port p)

section Link

variable {p : Port} {s t u : State} {c : PortCtl}

theorem AtRest.law (h : AtRest c) : PortLaw c := by
  obtain ⟨frame, suspended, timer, ignoring⟩ := h
  simp [PortLaw, frame, suspended, timer, ignoring]

theorem Took.linkRow (h : Took p s t) : LinkRow p s t :=
  ⟨h.others, h.rstn, h.queue, fun _ => h.rest.law, fun _ _ => ⟨h.rest.frame, h.rest.ignoring⟩⟩

/-- A port's own change. -/
theorem LinkRow.setPort (law : PortLaw (s.port p) → PortLaw c)
    (low : s.rstnLow = true → (s.port p).frame = [] ∧ (s.port p).ignoring = false → c.frame = [] ∧ c.ignoring = false) :
    LinkRow p s (s.setPort p c) := by
  refine ⟨fun q other => ?_, rfl, rfl, by simpa using law, by simpa using low⟩
  simp [State.holds, State.port_setPort_ne c s other]

theorem LinkRow.refl (p : Port) (s : State) : LinkRow p s s := ⟨fun _ _ => ⟨rfl, fun _ h => h⟩, rfl, rfl, id, fun _ h => h⟩

/-- The port put at rest. -/
theorem Took.begin (rest : AtRest c) : Took p s (s.setPort p c) :=
  have row : LinkRow p s (s.setPort p c) := .setPort (fun _ => rest.law) fun _ _ => ⟨rest.frame, rest.ignoring⟩
  ⟨row.others, row.rstn, row.queue, by simpa using rest⟩

/-- What the blocks do after it. -/
theorem Took.join (h : Took p s t) (k : NoticesJoin t u) : Took p s u := by
  refine ⟨fun q other => ?_, k.rstn.trans h.rstn, k.queue.trans h.queue, ?_⟩
  · obtain ⟨port, holds⟩ := h.others q other
    refine ⟨?_, fun n held => k.grow.holds (holds n held)⟩
    rw [(k.grow q).1, port]
  · obtain ⟨frame, suspended, timer, ignoring⟩ := h.rest
    rw [(k.grow p).1]
    exact ⟨frame, suspended, timer, ignoring⟩

/-- What the port does after it to its reply, its arm and its notices. -/
theorem Took.setPort (h : Took p s t) (rest : AtRest c) : Took p s (t.setPort p c) := by
  have row : LinkRow p t (t.setPort p c) := .setPort (fun _ => rest.law) fun _ _ => ⟨rest.frame, rest.ignoring⟩
  refine ⟨fun q other => ?_, h.rstn, h.queue, by simpa using rest⟩
  obtain ⟨port, holds⟩ := h.others q other
  obtain ⟨samePort, sameHolds⟩ := row.others q other
  refine ⟨?_, fun n held => sameHolds n (holds n held)⟩
  rw [samePort, port]

theorem Took.answer (h : Took p s t) (r : Reply) : Took p s (t.answer p r) :=
  h.setPort ⟨h.rest.frame, h.rest.suspended, h.rest.timer, h.rest.ignoring⟩

theorem Took.runRead (h : Took p s t) (cmd : ReadCmd) : Took p s (t.runRead p cmd).1 := by
  obtain ⟨notices, state⟩ := t.runRead_state p cmd
  rw [state]
  exact h.setPort ⟨h.rest.frame, h.rest.suspended, h.rest.timer, h.rest.ignoring⟩

theorem Took.putOutput (h : Took p s t) (r : Reply) : Took p s (t.putOutput p r) :=
  h.setPort ⟨h.rest.frame, h.rest.suspended, h.rest.timer, h.rest.ignoring⟩

end Link

/-! ## The takes -/

section Takes

variable (p : Port) (s : State)

theorem beginTake_took : Took p s (s.beginTake p) := .begin ⟨rfl, rfl, rfl, rfl⟩

theorem takeBad_took (status : Status) : Took p s (s.takeBad p status) := (beginTake_took p s).answer _

theorem takePortReset_took : Took p s (s.takePortReset p) :=
  (Took.begin ⟨rfl, rfl, rfl, rfl⟩).join (.of_ports rfl rfl rfl)

theorem takeRead_took (rep : Bool) (cmd : ReadCmd) : Took p s (s.takeRead p rep cmd) := by
  have read := ((beginTake_took p s).runRead cmd).answer ((s.beginTake p).runRead p cmd).2
  dsimp only [State.takeRead]
  split
  · exact read.setPort ⟨read.rest.frame, read.rest.suspended, read.rest.timer, read.rest.ignoring⟩
  · exact read

theorem takeFetch_took : Took p s (s.takeFetch p) := by
  have begun : Took p s (s.setPort p { taken (s.port p) with link := .active }) := .begin ⟨rfl, rfl, rfl, rfl⟩
  dsimp only [State.takeFetch]
  split
  · exact begun.putOutput _
  · exact (begun.runRead _).putOutput _
  · exact begun.putOutput _

/-- A command's frame, by its take. -/
theorem takeFrame_took {i : Instr} {p : Port} (command : i.port? = some p) (s : State) : Took p s (s.takeFrame i) := by
  cases takeOf_command command with
  | write run work take =>
    have worked : NoticesJoin (s.beginTake p) (run (s.beginTake p)).1 := work _ ▸ rowWork_noticesJoin (isReset_of_command command) _
    rw [take]
    exact ((beginTake_took p s).join worked).answer _
  | read cmd rep take => exact take s ▸ takeRead_took p s rep cmd
  | fetch row => subst row; exact takeFetch_took p s
  | quiet mask row => subst row; exact .begin ⟨rfl, rfl, rfl, rfl⟩
  | portReset row => subst row; exact takePortReset_took p s

/-- A complete frame, by its checks. -/
theorem takeBytes_took (frame : List Byte) : Took p s (s.takeBytes p frame) := by
  unfold State.takeBytes
  split
  · exact takeBad_took p s _
  · exact takeBad_took p s _
  · exact takeBad_took p s _
  · next command => exact takeFrame_took (checkFrame_command command).1 s

/-! ## Transactions -/

theorem endTransaction_linkRow : LinkRow p s (s.setPort p (endTransaction (s.port p))) := by
  refine .setPort (fun ⟨frame, timer, suspended, _⟩ => ?_) fun _ ⟨frame, _⟩ => ⟨frame, rfl⟩
  exact ⟨frame, timer, fun isSuspended => ⟨(suspended isSuspended).1, rfl⟩, nofun⟩

theorem receive_linkRow (high : s.rstnLow = false) (bytes : List Byte) (cut : Bool) : LinkRow p s (s.receive p bytes cut) := by
  unfold State.receive
  split
  · exact endTransaction_linkRow p s
  · next all state =>
    obtain ⟨rfl, begun, -⟩ := frameState_eq_part.1 state
    refine .setPort (fun _ => ?_) fun low => absurd (high.symm.trans low) nofun
    cases cut
    · exact ⟨.inr state, by simp [suspend], fun _ => ⟨begun, rfl⟩, nofun⟩
    · exact AtRest.law ⟨rfl, rfl, rfl, rfl⟩
  · exact (takeBad_took p s _).linkRow
  · exact (takeBytes_took p s _).linkRow

theorem transaction_linkRow (bytes : List Byte) (cut : Bool) : LinkRow p s (s.transaction p bytes cut) := by
  unfold State.transaction
  split
  · exact endTransaction_linkRow p s
  next hears =>
  split
  · exact (takePortReset_took p s).linkRow
  · have high : s.rstnLow = false := by
      simp only [deaf, Bool.or_eq_true, not_or, Bool.not_eq_true] at hears
      exact hears.1
    exact receive_linkRow p s high bytes cut

theorem arrive_linkRow {i : Instr} {p : Port} (command : i.port? = some p) (s : State) : LinkRow p s (s.arrive p i) := by
  unfold State.arrive
  split
  · exact endTransaction_linkRow p s
  split
  · exact (takeFrame_took command s).linkRow
  split
  · exact (takePortReset_took p s).linkRow
  · exact transaction_linkRow p s _ _

/-! ## The events of the link -/

theorem resumeFrame_linkRow : LinkRow p s (s.resumeFrame p) := by
  refine .setPort (fun ⟨frame, _, _, ignoring⟩ => ?_) fun _ h => h
  exact ⟨frame, by simp [resume], nofun, fun ignored => ⟨rfl, (ignoring ignored).2⟩⟩

theorem timeoutFrame_linkRow : LinkRow p s (s.timeoutFrame p) := by
  unfold State.timeoutFrame
  split
  · refine .setPort (fun ⟨_, _, _, ignoring⟩ => ?_) fun _ ⟨_, ignoring⟩ => ⟨rfl, ignoring⟩
    exact ⟨.inl rfl, by simp [discard, dropFrame], nofun, fun ignored => ⟨(ignoring ignored).1, rfl⟩⟩
  · exact .refl p s

end Takes

/-! ## Every row -/

/-- A row on a port's link. -/
theorem exec_linkRow {i : Instr} {p : Port} (row : rowPort i = some p) (s : State) : ∃ t, exec i s = .next t ∧ LinkRow p s t := by
  cases i with
  | badFrame q bytes => cases row; exact ⟨_, rfl, transaction_linkRow p s bytes false⟩
  | frameSuspend q bytes => cases row; exact ⟨_, rfl, transaction_linkRow p s bytes false⟩
  | frameResume q => cases row; exact ⟨_, rfl, resumeFrame_linkRow p s⟩
  | frameTimeout q => cases row; exact ⟨_, rfl, timeoutFrame_linkRow p s⟩
  | linkError q bytes => cases row; exact ⟨_, rfl, transaction_linkRow p s bytes true⟩
  | _ => cases row <;> exact ⟨_, exec_command rfl s, arrive_linkRow rfl s⟩

/-- A row on no port's link is the blocks' work. -/
theorem exec_rowWork {i : Instr} (row : rowPort i = none) (s : State) : exec i s = .next (rowWork i s) := by
  cases i with
  | secondEvent =>
    rcases run : s.clock.run
    · rw [exec_secondEvent_stopped run, rowWork, if_neg (by simp [run])]
    · rw [exec_secondEvent_running run, rowWork, if_pos run]
  | _ => first | rfl | cases row

end Sys2Proof.Machine
end

section
/-! CERTIFICATES. Every row completes and leaves the queue and RSTN, a row leaves the other ports but for notices, and every step keeps the ports'
law (R165, R169 to R184). -/

namespace Sys2Proof.Machine

/-! ## The resets (R16, R37, R184) -/

theorem isReset_cases {i : Instr} (reset : isReset i = true) : i = .powerOn ∨ i = .pinReset ∨ i = .pinResetRelease := by
  cases i with
  | powerOn => exact .inl rfl
  | pinReset => exact .inr (.inl rfl)
  | pinResetRelease => exact .inr (.inr rfl)
  | _ => cases reset

section Resets

variable (s : State)

theorem powerOn_pins : s.powerOn.rstnLow = s.rstnLow ∧ s.powerOn.pending = s.pending := by
  simp [State.powerOn, State.powerOnBlocks]

theorem pinReset_queue : s.pinReset.pending = s.pending := by
  unfold State.pinReset
  split <;> simp [State.pinResetBlocks]

theorem releaseReset_queue : s.releaseReset.pending = s.pending := by
  unfold State.releaseReset
  split <;> rfl

/-- The law of one port: its controller's, and with RSTN low no frame in progress. -/
abbrev PortAt (low : Bool) (c : PortCtl) : Prop := PortLaw c ∧ (low = true → c.frame = [] ∧ c.ignoring = false)

theorem powerOn_portsLaw : PortsLaw s.powerOn := by
  intro p _
  have port : s.powerOn.port p = powerPort s.rstnLow (s.port p) := by
    rw [State.port_map (fun _ c => powerPort s.loadStore.rstnLow c) p s.loadStore s.powerOn rfl]
    simp [State.port]
  rw [port, (powerOn_pins s).1]
  refine ⟨⟨.inl rfl, by simp [powerPort, resetPort, PortCtl.reset], nofun, fun ignoring => ⟨?_, rfl⟩⟩, fun low => ⟨rfl, ?_⟩⟩
  · exact (Bool.and_eq_true_iff.1 ignoring).1
  · simp [powerPort, low]

theorem pinReset_portsLaw {s : State} (law : PortsLaw s) : PortsLaw s.pinReset := by
  unfold State.pinReset
  split
  · exact law
  · intro p _
    rw [State.port_map (fun _ c => resetPort c) p s.loadStore s.loadStore.pinResetBlocks rfl]
    exact ⟨AtRest.law ⟨rfl, rfl, rfl, rfl⟩, fun _ => ⟨rfl, rfl⟩⟩

/-- At the release a port has no frame in progress, so that one it ignores is ignored whole (R184). -/
theorem releaseReset_portsLaw {s : State} (law : PortsLaw s) : PortsLaw s.releaseReset := by
  by_cases low : s.rstnLow = true
  · intro p listed
    obtain ⟨⟨frame, timer, suspended, -⟩, held⟩ := law p listed
    rw [State.port_map (fun _ c => releasePort c) p s s.releaseReset (by simp [State.releaseReset, low])]
    refine ⟨⟨frame, timer, suspended, fun ignoring => ⟨ignoring, (held low).1⟩⟩, ?_⟩
    simp [State.releaseReset, low]
  · rwa [State.releaseReset, if_neg low]

end Resets

/-! ## Every row -/

/-- Settles O2: a row on a port's link, the blocks' work at a row on none, and the three resets. -/
theorem everyRowCompletes : Obligations.EveryRowCompletes := by
  unfold Obligations.EveryRowCompletes
  refine ⟨fun i s => ?_, fun s empty => by simp [step, empty]⟩
  rcases row : rowPort i with _ | p
  · rcases reset : isReset i
    · have work := rowWork_noticesJoin reset s
      exact ⟨_, exec_rowWork row s, work.queue, fun _ _ => work.rstn⟩
    · rcases isReset_cases reset with rfl | rfl | rfl
      · exact ⟨_, rfl, (powerOn_pins s).2, fun _ _ => (powerOn_pins s).1⟩
      · exact ⟨_, rfl, pinReset_queue s, fun fall => absurd rfl fall⟩
      · exact ⟨_, rfl, releaseReset_queue s, fun _ rise => absurd rfl rise⟩
  · obtain ⟨t, done, link⟩ := exec_linkRow row s
    exact ⟨t, done, link.queue, fun _ _ => link.rstn⟩

/-- Settles O11: a row on another port's link is that port's, and a row on none is the blocks' work. -/
theorem otherPortsOnlyGainNotices : Obligations.OtherPortsOnlyGainNotices := by
  unfold Obligations.OtherPortsOnlyGainNotices
  intro i p s t noReset elsewhere h
  rcases row : rowPort i with _ | q
  · cases (exec_rowWork row s).symm.trans h
    have work := rowWork_noticesJoin noReset s
    exact ⟨(work.grow p).1, fun n held => work.grow.holds held⟩
  · obtain ⟨u, done, link⟩ := exec_linkRow row s
    cases done.symm.trans h
    exact link.others p fun same => elsewhere (same ▸ row)

/-! ## The ports' law -/

/-- A port whose notice set alone has changed keeps its law. -/
theorem PortAt.of_notices {low : Bool} {c d : PortCtl} (law : PortAt low c) (same : d = { c with notices := d.notices }) : PortAt low d := by
  rw [same]
  exact law

/-- Every row keeps the ports' law. -/
theorem exec_portsLaw {i : Instr} {s t : State} (law : PortsLaw s) (h : exec i s = .next t) : PortsLaw t := by
  rcases row : rowPort i with _ | q
  · cases (exec_rowWork row s).symm.trans h
    rcases reset : isReset i
    · intro p listed
      have work := rowWork_noticesJoin reset s
      rw [work.rstn]
      exact PortAt.of_notices (law p listed) (work.grow p).1
    · rcases isReset_cases reset with rfl | rfl | rfl
      · exact powerOn_portsLaw s
      · exact pinReset_portsLaw law
      · exact releaseReset_portsLaw law
  · obtain ⟨u, done, link⟩ := exec_linkRow row s
    cases done.symm.trans h
    intro p listed
    rw [link.rstn]
    by_cases same : p = q
    · subst same
      obtain ⟨controller, low⟩ := law p listed
      exact ⟨link.law controller, fun isLow => link.low isLow (low isLow)⟩
    · exact PortAt.of_notices (law p listed) (link.others p same).1

/-- Settles O15: the row at the front of the queue keeps the law, and an empty queue idles. -/
theorem portsLawKept : Obligations.PortsLawKept := by
  unfold Obligations.PortsLawKept
  intro s t law h
  unfold step at h
  split at h
  · cases h
    exact law
  · next c rest _ =>
    have queued : PortsLaw { s with pending := rest } := law
    exact exec_portsLaw queued h

end Sys2Proof.Machine
end

section
/-! CERTIFICATES. A frame cut anywhere and resumed, a frame between idle and surplus bytes with its three checks, and the events of a port's link
(R163, R167 to R170, R173 to R175, R183, R184). -/

namespace Sys2Proof.Machine

/-! ## The answers to a complete frame (R170) -/

section Answers

variable {p : Port} {frame : List Byte} (s : State)

theorem State.takeBad_eq (p : Port) (status : Status) (s : State) : s.takeBad p status = s.replied p (.plain status) :=
  State.answer_beginTake p _ s

theorem State.takeBytes_badCrc (check : checkFrame p frame = .badCrc) : s.takeBytes p frame = s.replied p (.plain .badCrc) := by
  simp only [State.takeBytes, check, State.takeBad_eq]

theorem State.takeBytes_unknownOp (check : checkFrame p frame = .unknownOp) : s.takeBytes p frame = s.replied p (.plain .unknownOp) := by
  simp only [State.takeBytes, check, State.takeBad_eq]

theorem State.takeBytes_badLen (check : checkFrame p frame = .badLen) : s.takeBytes p frame = s.replied p (.plain .badLen) := by
  simp only [State.takeBytes, check, State.takeBad_eq]

theorem State.takeBytes_command {i : Instr} (check : checkFrame p frame = .command i) : s.takeBytes p frame = s.takeFrame i := by
  simp only [State.takeBytes, check]

/-- A command's frame acts as its command. -/
theorem State.takeBytes_commandFrame {i : Instr} (command : i.port? = some p) (fits : i.wellFormed = true) :
    s.takeBytes p (commandFrame i) = s.takeFrame i :=
  s.takeBytes_command (commandFrameRoundTrip i p command fits)

end Answers

theorem exec_command_ready {i : Instr} {p : Port} {s : State} (command : i.port? = some p) (ready : Ready p s) :
    exec i s = .next (s.takeFrame i) := by
  rw [exec_command command, State.arrive_ready ready]

/-! ## Transactions (R168, R169, R183, R184) -/

/-- A command's frame begins with its OP, which is no idle byte. -/
theorem head_commandFrame (i : Instr) : (commandFrame i).head? ≠ some 0xFF#8 := by
  have low := opcode_le i
  rw [commandFrame_eq, List.head?_cons, ne_eq, Option.some_inj]
  intro idle
  have value := congrArg BitVec.toNat idle
  simp only [BitVec.toNat_ofNat] at value
  omega

/-- The PORT_RESET frame is the same on every port (R183). -/
theorem portResetFrame_eq (p : Port) : portResetFrame = commandFrame (.portReset p) := rfl

/-- Idle bytes before a frame are dropped. -/
theorem joinBytes_idle {frame : List Byte} (begun : frame ≠ []) (head : frame.head? ≠ some 0xFF#8) (idle : Nat) (after : List Byte) :
    joinBytes [] (List.replicate idle 0xFF#8 ++ frame ++ after) = frame ++ after := by
  cases frame with
  | nil => exact absurd rfl begun
  | cons b rest =>
    have noIdle : b ≠ 0xFF#8 := by simpa using head
    simp [joinBytes, List.dropWhile_append_of_pos, noIdle]

theorem joinBytes_portResetFrame : joinBytes [] portResetFrame = portResetFrame := joinBytes_of_head (head_commandFrame _)

section Transactions

variable {p : Port} {s : State} {bytes frame : List Byte}

theorem State.transaction_deaf (deafness : s.rstnLow = true ∨ (s.port p).ignoring = true) (bytes : List Byte) (cut : Bool) :
    s.transaction p bytes cut = s.setPort p (endTransaction (s.port p)) := by
  have isDeaf : deaf s p = true := by simpa [deaf] using deafness
  simp [State.transaction, isDeaf]

/-- A transaction that the port hears and that is no PORT_RESET frame alone. -/
theorem State.transaction_hears (high : s.rstnLow = false) (hears : (s.port p).ignoring = false) (cut : Bool)
    (noReset : bytes ≠ portResetFrame ∨ cut = true) : s.transaction p bytes cut = s.receive p bytes cut := by
  have isDeaf : deaf s p = false := by simp [deaf, high, hears]
  have other : ¬ (bytes = portResetFrame ∧ cut = false) := by
    rintro ⟨reset, whole⟩
    simp [reset, whole] at noReset
  rw [State.transaction, isDeaf, if_neg nofun, if_neg other]

theorem State.transaction_portReset (high : s.rstnLow = false) (hears : (s.port p).ignoring = false) :
    s.transaction p portResetFrame false = s.takePortReset p := by
  simp [State.transaction, deaf, high, hears]

/-- What a transaction amounts to by the bytes in progress after it (R169). -/
theorem State.receive_complete (state : frameState (joinBytes (s.port p).frame bytes) = .complete frame) (cut : Bool) :
    s.receive p bytes cut = s.takeBytes p frame := by
  rw [State.receive, state]

theorem State.receive_tooLong (state : frameState (joinBytes (s.port p).frame bytes) = .tooLong) (cut : Bool) :
    s.receive p bytes cut = s.replied p (.plain .badLen) := by
  rw [State.receive, state, State.takeBad_eq]

theorem State.receive_idle (state : frameState (joinBytes (s.port p).frame bytes) = .idle) (cut : Bool) :
    s.receive p bytes cut = s.setPort p (endTransaction (s.port p)) := by
  rw [State.receive, state]

theorem State.receive_part {all : List Byte} (state : frameState (joinBytes (s.port p).frame bytes) = .part all) :
    s.receive p bytes false = s.setPort p (suspend all (s.port p))
      ∧ s.receive p bytes true = s.setPort p (discard .linkError (endTransaction (s.port p))) := by
  simp [State.receive, state]

theorem frameState_portResetFrame : frameState portResetFrame = .complete portResetFrame := frameState_commandFrame rfl

/-- On a ready port the bytes that make a complete frame act as the frame, PORT_RESET's among them. -/
theorem State.transaction_complete (ready : Ready p s) (state : frameState (joinBytes [] bytes) = .complete frame) :
    s.transaction p bytes false = s.takeBytes p frame := by
  obtain ⟨high, hears, empty⟩ := ready
  by_cases reset : bytes = portResetFrame
  · subst reset
    rw [joinBytes_portResetFrame, frameState_portResetFrame] at state
    cases state
    rw [State.transaction_portReset high hears, portResetFrame_eq p, State.takeBytes_commandFrame s rfl rfl]
    rfl
  · rw [State.transaction_hears high hears false (.inl reset)]
    exact State.receive_complete (by rwa [empty]) false

theorem State.transaction_tooLong (ready : Ready p s) (state : frameState (joinBytes [] bytes) = .tooLong) :
    s.transaction p bytes false = s.replied p (.plain .badLen) := by
  obtain ⟨high, hears, empty⟩ := ready
  have noReset : bytes ≠ portResetFrame := by
    rintro rfl
    rw [joinBytes_portResetFrame, frameState_portResetFrame] at state
    cases state
  rw [State.transaction_hears high hears false (.inl noReset)]
  exact State.receive_tooLong (by rwa [empty]) false

end Transactions

/-- Settles O6: the frame is what is left of the bytes, and its checks answer it. -/
theorem frameDelimitedAndChecked : Obligations.FrameDelimitedAndChecked := by
  unfold Obligations.FrameDelimitedAndChecked
  intro p idle frame after s ready head
  refine ⟨fun whole => ?_, fun tooLong => ?_, fun _ => checkFrame_iffs p frame⟩
  · have begun : frame ≠ [] := by
      rintro rfl
      cases whole
    have state : frameState (joinBytes [] (List.replicate idle 0xFF#8 ++ frame ++ after)) = .complete frame := by
      rw [joinBytes_idle begun head, frameState_append_complete whole]
    have taken : exec (.badFrame p (List.replicate idle 0xFF#8 ++ frame ++ after)) s = .next (s.takeBytes p frame) :=
      congrArg Host.Outcome.next (State.transaction_complete ready state)
    rw [taken]
    rcases check : checkFrame p frame with _ | _ | _ | i
    · rw [State.takeBytes_badCrc s check]
    · rw [State.takeBytes_unknownOp s check]
    · rw [State.takeBytes_badLen s check]
    · rw [State.takeBytes_command s check]
      exact (exec_command_ready (checkFrame_command check).1 ready).symm
  · have begun : frame ≠ [] := by
      rintro rfl
      cases tooLong
    have state : frameState (joinBytes [] (List.replicate idle 0xFF#8 ++ frame ++ after)) = .tooLong := by
      rw [joinBytes_idle begun head, frameState_append_tooLong tooLong]
    exact congrArg Host.Outcome.next (State.transaction_tooLong ready state)

/-! ## A frame in two parts (R173) -/

section Parts

variable {i : Instr} {p : Port} {a b : List Byte} {s : State}

/-- The frame whose start is in progress ends with its rest (log entry 9). -/
theorem restOfFrame_append (left : b ≠ []) : restOfFrame a (a ++ b) = b := by
  have positive := List.length_pos_iff.2 left
  rw [restOfFrame, if_pos ⟨List.isPrefixOf_iff_prefix.2 (List.prefix_append a b), by rw [List.length_append]; omega⟩, List.drop_left]

theorem joinBytes_append (begun : a ≠ []) (b : List Byte) : joinBytes a b = a ++ b := by
  cases a with
  | nil => exact absurd rfl begun
  | cons => rfl

/-- With the start of its own frame in progress, a command row sends the rest and acts as the whole. -/
theorem exec_rest {c : PortCtl} (command : i.port? = some p) (fits : i.wellFormed = true) (ready : Ready p s) (parts : commandFrame i = a ++ b)
    (begun : a ≠ []) (left : b ≠ []) (noReset : b ≠ portResetFrame) (frame : c.frame = a) (hears : c.ignoring = false)
    (same : taken c = taken (s.port p)) : exec i (s.setPort p c) = exec i s := by
  have take := State.takeFrame_of_taken command same
  rw [exec_command_ready command ready, exec_command command, ← take]
  have high : (s.setPort p c).rstnLow = false := ready.1
  have isDeaf : deaf (s.setPort p c) p = false := by simp [deaf, ready.1, hears]
  have heard : ((s.setPort p c).port p).ignoring = false := by rw [State.port_setPort_same, hears]
  have inProgress : ((s.setPort p c).port p).frame = a := by rw [State.port_setPort_same, frame]
  rw [State.arrive, isDeaf, if_neg nofun, if_neg (by rwa [inProgress])]
  split
  · next reset =>
    subst reset
    rfl
  · have whole : frameState (joinBytes ((s.setPort p c).port p).frame b) = .complete (commandFrame i) := by
      rw [inProgress, joinBytes_append begun, ← parts, frameState_commandFrame fits]
    rw [inProgress, parts, restOfFrame_append left, State.transaction_hears high heard false (.inl noReset),
      State.receive_complete whole, State.takeBytes_commandFrame _ command fits]

end Parts

/-- Settles O5: the start of a frame is a frame in progress, and with its rest it is the frame. -/
theorem frameSplitAnywhere : Obligations.FrameSplitAnywhere := by
  unfold Obligations.FrameSplitAnywhere
  intro i p a b s command fits ready parts begun left noReset u v
  have whole := parts ▸ frameState_commandFrame fits
  have state : frameState a = .part a := frameState_of_prefix whole begun left
  have head : a.head? ≠ some 0xFF#8 := by
    have first := head_commandFrame i
    rwa [parts, List.head?_append_of_ne_nil _ begun] at first
  have short : a ≠ portResetFrame := by
    rintro rfl
    cases state.symm.trans frameState_portResetFrame
  have join : frameState (joinBytes (s.port p).frame a) = .part a := by rw [ready.2.2, joinBytes_of_head head, state]
  refine ⟨?_, ?_, ?_, ?_⟩
  · have suspended := State.transaction_hears ready.1 ready.2.1 false (.inl short)
    rw [(State.receive_part join).1] at suspended
    exact congrArg Host.Outcome.next suspended
  · refine congrArg Host.Outcome.next ?_
    simp only [u, v, State.resumeFrame, State.port_setPort_same, State.setPort_setPort, resume]
  · exact exec_rest command fits ready parts begun left noReset rfl rfl rfl
  · exact exec_rest command fits ready parts begun left noReset rfl rfl rfl

/-! ## The events of the link (R173 to R175) -/

/-- Settles O7: each event by what the bytes in progress amount to. -/
theorem linkEventsOfAFrame : Obligations.LinkEventsOfAFrame := by
  unfold Obligations.LinkEventsOfAFrame
  intro p bytes all s
  have next {x y : State} (same : x = y) : (Host.Outcome.next x : Host.Outcome State Fault Refusal) = .next y := congrArg _ same
  refine ⟨rfl, fun running => next ?_, fun stopped => next ?_, fun high hears state => ⟨fun noReset => next ?_, next ?_⟩,
    fun high hears => ⟨fun idle => next ?_, fun tooLong => next ?_, fun frame whole => ?_⟩,
    fun deafness => ⟨fun i command => ?_, next ?_, next ?_, next ?_⟩⟩
  · rw [State.timeoutFrame, if_pos running]
    rfl
  · rw [State.timeoutFrame, if_neg (by simp [stopped])]
  · rw [State.transaction_hears high hears false (.inl noReset), (State.receive_part state).1]
    rfl
  · rw [State.transaction_hears high hears true (.inr rfl), (State.receive_part state).2]
    rfl
  · rw [State.transaction_hears high hears true (.inr rfl), State.receive_idle idle]
    rfl
  · rw [State.transaction_hears high hears true (.inr rfl), State.receive_tooLong tooLong]
  · have taken : exec (.linkError p bytes) s = .next (s.takeBytes p frame) :=
      next (by rw [State.transaction_hears high hears true (.inr rfl), State.receive_complete whole])
    rw [taken]
    rcases check : checkFrame p frame with _ | _ | _ | i
    · rw [State.takeBytes_badCrc s check]
    · rw [State.takeBytes_unknownOp s check]
    · rw [State.takeBytes_badLen s check]
    · have command := (checkFrame_command check).1
      have ready : Ready p (s.setPort p { s.port p with frame := [], suspended := false, timer := .stopped }) :=
        ⟨high, by simpa using hears, by simp⟩
      rw [State.takeBytes_command s check]
      exact ((exec_command_ready command ready).trans (next (State.takeFrame_of_taken command rfl))).symm
  · rw [exec_command command, State.arrive_deaf deafness]
    rfl
  · exact State.transaction_deaf deafness bytes false
  · exact State.transaction_deaf deafness bytes false
  · exact State.transaction_deaf deafness bytes true

end Sys2Proof.Machine
end

section
/-! CERTIFICATES. SET_QUIET, PORT_RESET and the attention line; what a command's take leaves of its port; the commands of another port; and
FETCH (R170 to R172, R176 to R178, R181 to R183). -/

namespace Sys2Proof.Machine

/-! ## SET_QUIET, PORT_RESET and the attention line (R181 to R183) -/

/-- The flag of every bit is a cause's (R179). -/
theorem Notice.exists_code {k : Nat} (low : k < 16) : ∃ n : Notice, n.code = k := by
  have listed : ∀ k : Fin 16, ∃ n ∈ [Notice.resetSeen, .mode, .lead, .periodClosed, .dayClosed, .exceedance, .capLimiting, .jam, .shortfall,
      .dumpOver, .steamStale, .sampleStale, .orderActive, .orderDropped, .permitDone, .meterWrap], n.code = k := by decide
  obtain ⟨n, -, code⟩ := listed ⟨k, low⟩
  exact ⟨n, code⟩

/-- A set of flags is not empty when it holds a cause. -/
theorem ne_zero_iff_noticeHeld (set : BitVec 16) : set ≠ 0#16 ↔ ∃ n, noticeHeld set n = true := by
  constructor
  · intro held
    by_contra none
    refine held (BitVec.eq_of_getLsbD_eq fun k low => ?_)
    obtain ⟨n, rfl⟩ := Notice.exists_code low
    simpa [noticeHeld] using not_exists.1 none n
  · rintro ⟨n, held⟩ rfl
    simp [noticeHeld] at held

/-- The attention line by its causes (R181). -/
theorem attention_iff (c : PortCtl) :
    attention c = true ↔ ∃ n, noticeHeld c.notices n = true ∧ (c.link = .quiet → noticeHeld c.wakeMask n = true) := by
  rw [attention, bne_iff_ne, ne_zero_iff_noticeHeld]
  rcases link : c.link
  · simp [unmasked, link]
  · simp [unmasked, link, noticeHeld]

/-- PORT_RESET whatever frame is in progress (R183). -/
theorem State.arrive_portReset {p : Port} {s : State} (high : s.rstnLow = false) (hears : (s.port p).ignoring = false) :
    s.arrive p (.portReset p) = s.takePortReset p := by
  have isDeaf : deaf s p = false := by simp [deaf, high, hears]
  rw [State.arrive, isDeaf, if_neg nofun, if_pos rfl]
  split <;> rfl

/-- Settles O9: the two commands' takes, and the attention line cause by cause. -/
theorem quietAndPortReset : Obligations.QuietAndPortReset := by
  unfold Obligations.QuietAndPortReset
  intro p mask s
  refine ⟨fun ready => exec_command_ready rfl ready, fun high hears => ?_, attention_iff (s.port p)⟩
  have taken : exec (.portReset p) s = .next (s.takePortReset p) := by rw [exec_command rfl, State.arrive_portReset high hears]
  refine ⟨taken, ?_⟩
  rw [taken]
  exact congrArg Host.Outcome.next (State.transaction_portReset high hears)

/-! ## The port after a take (R170, R171, R177, R182) -/

/-- The port at the take of a frame, with the reply that the take will leave. -/
theorem State.beginTake_port (p : Port) (r : Reply) (s : State) : { (s.beginTake p).port p with slot := some r } = answered r (s.port p) := by
  simp [State.beginTake, taken, dropFrame, endTransaction, answered]

/-- A write's take: the blocks add notices to what the take leaves of the port. -/
theorem State.takeWrite_port {p : Port} {run : State → State × Reply} {s : State} (worked : PortsGrow (s.beginTake p) (run (s.beginTake p)).1) :
    (s.takeWrite p run).port p =
      { answered (run (s.beginTake p)).2 (s.port p) with notices := ((s.takeWrite p run).port p).notices } := by
  rw [← State.beginTake_port, State.takeWrite_eq, State.answer, State.port_setPort_same, (worked p).1]

/-- A read's take on the state at the take: the reply, and the arm where the flag asks for it, but not by RANGE. -/
theorem State.takeRead_eq (p : Port) (rep : Bool) (cmd : ReadCmd) (s : State) :
    let read := (s.beginTake p).runRead p cmd
    s.takeRead p rep cmd = read.1.setPort p { read.1.port p with
      slot := some read.2
      arm := if rep = true ∧ read.2.status ≠ .range then some cmd else none } := by
  intro read
  obtain ⟨notices, state⟩ := (s.beginTake p).runRead_state p cmd
  have port : read.1.port p = { (s.beginTake p).port p with notices := notices } := by rw [state, State.port_setPort_same]
  have disarmed : (read.1.port p).arm = none := by simp [port, State.beginTake]
  have take : s.takeRead p rep cmd =
      if rep = true ∧ read.2.status ≠ .range then (read.1.answer p read.2).setArm p cmd else read.1.answer p read.2 := rfl
  rw [take]
  split
  · simp [State.setArm, State.answer]
  · simp [State.answer, ← disarmed]

/-- A read's take, at its port. -/
theorem State.takeRead_port (p : Port) (rep : Bool) (cmd : ReadCmd) (s : State) :
    let r := ((s.beginTake p).runRead p cmd).2
    (s.takeRead p rep cmd).port p = { answered r (s.port p) with
      notices := ((s.takeRead p rep cmd).port p).notices
      arm := if rep = true ∧ r.status ≠ .range then some cmd else none } := by
  obtain ⟨notices, state⟩ := (s.beginTake p).runRead_state p cmd
  intro r
  rw [← State.beginTake_port, State.takeRead_eq]
  simp [r, state]

/-- Settles O10: a write's take and a read's; the port controller's own three commands are left out. -/
theorem takeLeavesTheReply : Obligations.TakeLeavesTheReply := by
  unfold Obligations.TakeLeavesTheReply
  intro i p s command ready noFetch noQuiet noReset
  cases takeOf_command command with
  | write run work take noRead =>
    have worked : NoticesJoin (s.beginTake p) (run (s.beginTake p)).1 := work _ ▸ rowWork_noticesJoin (isReset_of_command command) _
    refine ⟨_, (run (s.beginTake p)).2, exec_command_ready command ready, ?_⟩
    rw [take, noRead, State.takeWrite_port worked.grow]
    rfl
  | read cmd rep take asked =>
    refine ⟨_, ((s.beginTake p).runRead p cmd).2, exec_command_ready command ready, ?_⟩
    rw [take, asked, State.takeRead_port]
    cases rep <;> simp
  | fetch row => exact absurd row noFetch
  | quiet mask row => exact absurd row (noQuiet mask)
  | portReset row => exact absurd row noReset

/-! ## The commands of another port (R176) -/

/-- A command that its block refuses. -/
theorem exec_refused {i : Instr} {p : Port} {s : State} {run : State → State × Reply} {status : Status} (command : i.port? = some p)
    (ready : Ready p s) (take : s.takeFrame i = s.takeWrite p run) (refused : run (s.beginTake p) = refuse status (s.beginTake p)) :
    exec i s = .next (s.replied p (.plain status)) := by
  rw [exec_ready command ready take refused, State.answer_beginTake]

/-- Settles O12: the owner is the first check of each of these commands. -/
theorem notOwnerChangesNothing : Obligations.NotOwnerChangesNothing := by
  unfold Obligations.NotOwnerChangesNothing
  intro i p q s command owner other ready
  cases i with
  | setTime | startClock | stopClock | adjustClock | start | feed | clearTrip | postTemperature | postSamples | setCleaning | setReagents
  | clearHistory | setBoilerLimit | setChannel | setLanes | clearJam | postSteam | setAuxDemand | setConsumers | postOrder | cancelOrders
  | postEnergy | restoreMeters | freshMeters =>
    cases owner
    cases command
    exact exec_refused rfl ready rfl (if_pos other)
  | _ => cases owner

/-! ## FETCH (R172, R178) -/

section Fetch

variable {p : Port} {s : State}

theorem State.takeFetch_slot {r : Reply} (slot : (s.port p).slot = some r) :
    s.takeFetch p = s.setPort p { opened (s.port p) with output := some r, slot := none } := by
  simp only [State.takeFetch, slot, State.putOutput, State.port_setPort_same, State.setPort_setPort]
  rfl

theorem State.takeFetch_none (slot : (s.port p).slot = none) (arm : (s.port p).arm = none) :
    s.takeFetch p = s.setPort p { opened (s.port p) with output := some (.plain .noReply), slot := none } := by
  simp only [State.takeFetch, slot, arm, State.putOutput, State.port_setPort_same, State.setPort_setPort]
  rfl

theorem State.takeFetch_armed {cmd : ReadCmd} (slot : (s.port p).slot = none) (arm : (s.port p).arm = some cmd) :
    s.takeFetch p = (((s.setPort p (opened (s.port p))).runRead p cmd).1.putOutput p
      ((s.setPort p (opened (s.port p))).runRead p cmd).2) := by
  simp only [State.takeFetch, slot, arm]
  rfl

end Fetch

/-- Settles O8: the slot, the armed read or neither, and the read row's own take. -/
theorem fetchFillsTheOutputBuffer : Obligations.FetchFillsTheOutputBuffer := by
  unfold Obligations.FetchFillsTheOutputBuffer
  intro p s ready
  have taken : exec (.fetch p) s = .next (s.takeFetch p) := exec_command_ready rfl ready
  refine ⟨fun r slot => ?_, fun slot arm => ?_, fun cmd slot arm => ?_, fun i cmd rep command asked => ?_⟩
  · rw [taken, State.takeFetch_slot slot]
  · rw [taken, State.takeFetch_none slot arm]
    rfl
  · rw [taken, State.takeFetch_armed slot arm]
    rfl
  · cases takeOf_command command with
    | read askedCmd askedRep take row =>
      cases asked.symm.trans row
      rw [exec_command_ready command ready, take, State.takeRead_eq]
      rfl
    | write run work take noRead => cases asked.symm.trans noRead
    | fetch row => subst row; cases asked
    | quiet mask row => subst row; cases asked
    | portReset row => subst row; cases asked

end Sys2Proof.Machine
end

section
/-! CERTIFICATES. The step on a queue with a command in it (chapter 00; the queue and its order are log entries 7 and 13). -/

namespace Sys2Proof.Machine

/-! ## The step -/

theorem step_of_pending_cons {s : State} {c : Instr} {rest : List Instr} (queue : s.pending = c :: rest) :
    step s = exec c { s with pending := rest } := by
  simp only [step, queue]

/-- Settles O1: the queue written is the queue the step reads, and its rest is written over it. -/
theorem stepTakesFront : Obligations.StepTakesFront := by
  unfold Obligations.StepTakesFront
  intro c rest s
  have queue : ({ s with pending := c :: rest } : State).pending = c :: rest := rfl
  exact step_of_pending_cons queue

end Sys2Proof.Machine
end
